-- ==== Sys2Proof/Word.lean ====
section
/-! DEFINITION. The machine's word types: 32-bit registers and addresses, 16-bit halfwords, 8-bit bytes
(R7, R63), and the two widths of register field (R111, R136). -/

namespace Sys2Proof

/-- A 32-bit register, address or ARM instruction word (R7). -/
abbrev Word := BitVec 32

/-- A 16-bit quantity or Thumb instruction (R63). -/
abbrev Half := BitVec 16

/-- An 8-bit quantity (R63). -/
abbrev Byte := BitVec 8

/-- A four-bit register field: r0 to r15 (R111). -/
abbrev Reg := BitVec 4

/-- A three-bit register field of a Thumb instruction: r0 to r7 (R136). -/
abbrev LowReg := BitVec 3

end Sys2Proof
end

