-- ==== Sys2Proof/Config.lean ====
section
/-! DEFINITION. What the implementation or the manual leaves open: the free values. Each is an opaque constant
with no body, so no proof can rest on what it is (entry 11). The static input pins of R8 are data of the state
(`Machine.Cfg`), fixed for a run. -/

namespace Sys2Proof.Config

/-- The stream of values the manual leaves open ("any value", 93_implementation_defined.md): the n-th draw.
DESIGN CHOICE, safe: nothing can be proved of a particular value (entry 11). -/
opaque freeWord : Nat → Word

end Sys2Proof.Config
end

