-- ==== Sys2Proof/Syntax.lean ====
section
/-! DEFINITION. The syntax of both instruction sets of the ARM9E-S (ARMv5TE): one operand structure per
encoding format of spec/30_encoding.md and one constructor of `Instr` per row of spec/opcode_table.json. -/

namespace Sys2Proof

/-- The fifteen conditions of R112; the value 0b1111 is no condition (R113). -/
inductive Cond where
  | eq | ne | cs | cc | mi | pl | vs | vc | hi | ls | ge | lt | gt | le | al
  deriving DecidableEq, Repr

/-- The four shift types of instruction bits 6:5 (R111). -/
inductive ShiftTy where
  | lsl | lsr | asr | ror
  deriving DecidableEq, Repr

/-- MRS fields (R301). -/
structure MrsOps where
  cond : Cond
  spsr : Bool
  rd : Reg
  deriving DecidableEq, Repr

/-- MSR register fields (R302). -/
structure MsrRegOps where
  cond : Cond
  spsr : Bool
  mask : BitVec 4
  rm : Reg
  deriving DecidableEq, Repr

/-- MSR immediate fields (R302). -/
structure MsrImmOps where
  cond : Cond
  spsr : Bool
  mask : BitVec 4
  rot : BitVec 4
  imm8 : BitVec 8
  deriving DecidableEq, Repr

/-- BX and BLX register fields (R233, R235). -/
structure BxOps where
  cond : Cond
  rm : Reg
  deriving DecidableEq, Repr

/-- CLZ fields (R186). -/
structure ClzOps where
  cond : Cond
  rd : Reg
  rm : Reg
  deriving DecidableEq, Repr

/-- QADD, QSUB, QDADD, QDSUB fields (R207 to R210). -/
structure QOps where
  cond : Cond
  rn : Reg
  rd : Reg
  rm : Reg
  deriving DecidableEq, Repr

/-- BKPT fields: a 16-bit comment (R305). -/
structure BkptOps where
  imm16 : BitVec 16
  deriving DecidableEq, Repr

/-- SMLAxy fields (R212). -/
structure SmlaXyOps where
  cond : Cond
  rd : Reg
  rn : Reg
  rs : Reg
  y : Bool
  x : Bool
  rm : Reg
  deriving DecidableEq, Repr

/-- SMLAWy fields (R214). -/
structure SmlaWOps where
  cond : Cond
  rd : Reg
  rn : Reg
  rs : Reg
  y : Bool
  rm : Reg
  deriving DecidableEq, Repr

/-- SMULWy fields (R213). -/
structure SmulWOps where
  cond : Cond
  rd : Reg
  rs : Reg
  y : Bool
  rm : Reg
  deriving DecidableEq, Repr

/-- SMLALxy fields (R216). -/
structure SmlalXyOps where
  cond : Cond
  rdHi : Reg
  rdLo : Reg
  rs : Reg
  y : Bool
  x : Bool
  rm : Reg
  deriving DecidableEq, Repr

/-- SMULxy fields (R211). -/
structure SmulXyOps where
  cond : Cond
  rd : Reg
  rs : Reg
  y : Bool
  x : Bool
  rm : Reg
  deriving DecidableEq, Repr

/-- MUL fields (R201). -/
structure MulOps where
  cond : Cond
  s : Bool
  rd : Reg
  rs : Reg
  rm : Reg
  deriving DecidableEq, Repr

/-- MLA fields (R202). -/
structure MlaOps where
  cond : Cond
  s : Bool
  rd : Reg
  rn : Reg
  rs : Reg
  rm : Reg
  deriving DecidableEq, Repr

/-- Long multiply fields (R203 to R206). -/
structure MullOps where
  cond : Cond
  s : Bool
  rdHi : Reg
  rdLo : Reg
  rs : Reg
  rm : Reg
  deriving DecidableEq, Repr

/-- SWP and SWPB fields (R292, R293). -/
structure SwpOps where
  cond : Cond
  rn : Reg
  rd : Reg
  rm : Reg
  deriving DecidableEq, Repr

/-- Extra load/store, immediate offset (R248). -/
structure ExtImmOps where
  cond : Cond
  p : Bool
  u : Bool
  w : Bool
  rn : Reg
  rd : Reg
  imm8 : BitVec 8
  deriving DecidableEq, Repr

/-- Extra load/store, register offset (R248). -/
structure ExtRegOps where
  cond : Cond
  p : Bool
  u : Bool
  w : Bool
  rn : Reg
  rd : Reg
  rm : Reg
  deriving DecidableEq, Repr

/-- Data processing, immediate (R117). -/
structure AluImmOps where
  cond : Cond
  s : Bool
  rn : Reg
  rd : Reg
  rot : BitVec 4
  imm8 : BitVec 8
  deriving DecidableEq, Repr

/-- Data processing, register shifted by an immediate (R116). -/
structure AluShiftOps where
  cond : Cond
  s : Bool
  rn : Reg
  rd : Reg
  amount : BitVec 5
  ty : ShiftTy
  rm : Reg
  deriving DecidableEq, Repr

/-- Data processing, register shifted by a register (R116). -/
structure AluRegOps where
  cond : Cond
  s : Bool
  rn : Reg
  rd : Reg
  rs : Reg
  ty : ShiftTy
  rm : Reg
  deriving DecidableEq, Repr

/-- Comparison, immediate (R117). -/
structure CmpImmOps where
  cond : Cond
  rn : Reg
  rot : BitVec 4
  imm8 : BitVec 8
  deriving DecidableEq, Repr

/-- Comparison, register shifted by an immediate. -/
structure CmpShiftOps where
  cond : Cond
  rn : Reg
  amount : BitVec 5
  ty : ShiftTy
  rm : Reg
  deriving DecidableEq, Repr

/-- Comparison, register shifted by a register. -/
structure CmpRegOps where
  cond : Cond
  rn : Reg
  rs : Reg
  ty : ShiftTy
  rm : Reg
  deriving DecidableEq, Repr

/-- MOV and MVN, immediate. -/
structure MovImmOps where
  cond : Cond
  s : Bool
  rd : Reg
  rot : BitVec 4
  imm8 : BitVec 8
  deriving DecidableEq, Repr

/-- MOV and MVN, register shifted by an immediate. -/
structure MovShiftOps where
  cond : Cond
  s : Bool
  rd : Reg
  amount : BitVec 5
  ty : ShiftTy
  rm : Reg
  deriving DecidableEq, Repr

/-- MOV and MVN, register shifted by a register. -/
structure MovRegOps where
  cond : Cond
  s : Bool
  rd : Reg
  rs : Reg
  ty : ShiftTy
  rm : Reg
  deriving DecidableEq, Repr

/-- Load/store word or byte, immediate, offset or pre-indexed (R246). -/
structure MemImmPreOps where
  cond : Cond
  u : Bool
  w : Bool
  rn : Reg
  rd : Reg
  imm12 : BitVec 12
  deriving DecidableEq, Repr

/-- Load/store word or byte, immediate, post-indexed (R246). -/
structure MemImmPostOps where
  cond : Cond
  u : Bool
  rn : Reg
  rd : Reg
  imm12 : BitVec 12
  deriving DecidableEq, Repr

/-- Load/store word or byte, scaled register, offset or pre-indexed (R246). -/
structure MemRegPreOps where
  cond : Cond
  u : Bool
  w : Bool
  rn : Reg
  rd : Reg
  amount : BitVec 5
  ty : ShiftTy
  rm : Reg
  deriving DecidableEq, Repr

/-- Load/store word or byte, scaled register, post-indexed (R246). -/
structure MemRegPostOps where
  cond : Cond
  u : Bool
  rn : Reg
  rd : Reg
  amount : BitVec 5
  ty : ShiftTy
  rm : Reg
  deriving DecidableEq, Repr

/-- PLD, immediate offset (R274). -/
structure PldImmOps where
  u : Bool
  rn : Reg
  imm12 : BitVec 12
  deriving DecidableEq, Repr

/-- PLD, scaled register offset (R274). -/
structure PldRegOps where
  u : Bool
  rn : Reg
  amount : BitVec 5
  ty : ShiftTy
  rm : Reg
  deriving DecidableEq, Repr

/-- LDM (1), STM (1), STM (2) fields (R280). -/
structure LdmOps where
  cond : Cond
  p : Bool
  u : Bool
  w : Bool
  rn : Reg
  list : BitVec 16
  deriving DecidableEq, Repr

/-- LDM (2) and LDM (3) fields: bit 15 of the list is fixed by the form (R283, R284). -/
structure Ldm15Ops where
  cond : Cond
  p : Bool
  u : Bool
  w : Bool
  rn : Reg
  list : BitVec 15
  deriving DecidableEq, Repr

/-- B and BL fields (R231, R232). -/
structure BranchOps where
  cond : Cond
  imm24 : BitVec 24
  deriving DecidableEq, Repr

/-- BLX label fields (R234). -/
structure BlxImmOps where
  h : Bool
  imm24 : BitVec 24
  deriving DecidableEq, Repr

/-- CDP fields (R330). -/
structure CdpOps where
  cond : Cond
  op1 : BitVec 4
  crn : BitVec 4
  crd : BitVec 4
  cp : BitVec 4
  op2 : BitVec 3
  crm : BitVec 4
  deriving DecidableEq, Repr

/-- MCR and MRC fields (R333, R334). -/
structure McrOps where
  cond : Cond
  op1 : BitVec 3
  crn : BitVec 4
  rd : Reg
  cp : BitVec 4
  op2 : BitVec 3
  crm : BitVec 4
  deriving DecidableEq, Repr

/-- LDC and STC fields (R337). -/
structure LdcOps where
  cond : Cond
  p : Bool
  u : Bool
  n : Bool
  w : Bool
  rn : Reg
  crd : BitVec 4
  cp : BitVec 4
  imm8 : BitVec 8
  deriving DecidableEq, Repr

/-- CDP2 fields (R338). -/
structure Cdp2Ops where
  op1 : BitVec 4
  crn : BitVec 4
  crd : BitVec 4
  cp : BitVec 4
  op2 : BitVec 3
  crm : BitVec 4
  deriving DecidableEq, Repr

/-- MCR2 and MRC2 fields (R338). -/
structure Mcr2Ops where
  op1 : BitVec 3
  crn : BitVec 4
  rd : Reg
  cp : BitVec 4
  op2 : BitVec 3
  crm : BitVec 4
  deriving DecidableEq, Repr

/-- LDC2 and STC2 fields (R338). -/
structure Ldc2Ops where
  p : Bool
  u : Bool
  n : Bool
  w : Bool
  rn : Reg
  crd : BitVec 4
  cp : BitVec 4
  imm8 : BitVec 8
  deriving DecidableEq, Repr

/-- MCRR and MRRC fields (R335, R336). -/
structure McrrOps where
  cond : Cond
  rn : Reg
  rd : Reg
  cp : BitVec 4
  op1 : BitVec 4
  crm : BitVec 4
  deriving DecidableEq, Repr

/-- ARM SWI fields (R304). -/
structure SwiOps where
  cond : Cond
  imm24 : BitVec 24
  deriving DecidableEq, Repr

/-- Thumb format 1: shift by immediate. -/
structure TShiftImmOps where
  imm5 : BitVec 5
  rs : LowReg
  rd : LowReg
  deriving DecidableEq, Repr

/-- Thumb format 2: three registers. -/
structure TAdd3Ops where
  rn : LowReg
  rs : LowReg
  rd : LowReg
  deriving DecidableEq, Repr

/-- Thumb format 2: 3-bit immediate. -/
structure TAddImm3Ops where
  imm3 : BitVec 3
  rs : LowReg
  rd : LowReg
  deriving DecidableEq, Repr

/-- Thumb formats 3, 6, 11 and 12: a low register and an 8-bit immediate. -/
structure TRdImm8Ops where
  rd : LowReg
  imm8 : BitVec 8
  deriving DecidableEq, Repr

/-- Thumb format 4: two low registers. -/
structure TAluOps where
  rs : LowReg
  rd : LowReg
  deriving DecidableEq, Repr

/-- Thumb format 5: two registers of four bits (H1:ddd and H2:sss, R136). -/
structure THiOps where
  rm : Reg
  rd : Reg
  deriving DecidableEq, Repr

/-- Thumb BX and BLX register (R435, R436). -/
structure TBxOps where
  rm : Reg
  deriving DecidableEq, Repr

/-- Thumb formats 7 and 8: register offset. -/
structure TMemRegOps where
  ro : LowReg
  rb : LowReg
  rd : LowReg
  deriving DecidableEq, Repr

/-- Thumb formats 9 and 10: immediate offset. -/
structure TMemImmOps where
  imm5 : BitVec 5
  rb : LowReg
  rd : LowReg
  deriving DecidableEq, Repr

/-- Thumb format 13: SP adjust. -/
structure TSpImmOps where
  imm7 : BitVec 7
  deriving DecidableEq, Repr

/-- Thumb format 14: PUSH and POP; extra is LR or PC. -/
structure TStackOps where
  extra : Bool
  list : BitVec 8
  deriving DecidableEq, Repr

/-- Thumb SWI and BKPT: an 8-bit comment. -/
structure TCommentOps where
  imm8 : BitVec 8
  deriving DecidableEq, Repr

/-- Thumb format 15: LDMIA and STMIA. -/
structure TMultiOps where
  rb : LowReg
  list : BitVec 8
  deriving DecidableEq, Repr

/-- Thumb format 16: conditional branch. -/
structure TCondBranchOps where
  cond : Cond
  imm8 : BitVec 8
  deriving DecidableEq, Repr

/-- Thumb formats 18 and 19 with an 11-bit offset. -/
structure TBranchOps where
  imm11 : BitVec 11
  deriving DecidableEq, Repr

/-- Thumb BLX suffix: bits 10:1 of the offset field, bit 0 is 0 (R434). -/
structure TBlxSuffixOps where
  imm10 : BitVec 10
  deriving DecidableEq, Repr

/-- Every instruction of the ARM9E-S: the ARM rows of spec/opcode_table.json, then its Thumb rows (names in t). -/
inductive Instr where
  /-- ARM MRS, `cccc00010R001111dddd000000000000` (R301). -/
  | mrs (o : MrsOps)
  /-- ARM MSR__register, `cccc00010R10ffff111100000000mmmm` (R303). -/
  | msrReg (o : MsrRegOps)
  /-- ARM MSR__immediate, `cccc00110R10ffff1111rrrriiiiiiii` (R303). -/
  | msrImm (o : MsrImmOps)
  /-- ARM BX, `cccc000100101111111111110001mmmm` (R233). -/
  | bx (o : BxOps)
  /-- ARM BLX__register, `cccc000100101111111111110011mmmm` (R235). -/
  | blxReg (o : BxOps)
  /-- ARM CLZ, `cccc000101101111dddd11110001mmmm` (R186). -/
  | clz (o : ClzOps)
  /-- ARM QADD, `cccc00010000nnnndddd00000101mmmm` (R207). -/
  | qadd (o : QOps)
  /-- ARM QSUB, `cccc00010010nnnndddd00000101mmmm` (R208). -/
  | qsub (o : QOps)
  /-- ARM QDADD, `cccc00010100nnnndddd00000101mmmm` (R209). -/
  | qdadd (o : QOps)
  /-- ARM QDSUB, `cccc00010110nnnndddd00000101mmmm` (R210). -/
  | qdsub (o : QOps)
  /-- ARM BKPT, `111000010010iiiiiiiiiiii0111jjjj` (R305). -/
  | bkpt (o : BkptOps)
  /-- ARM SMLAxy, `cccc00010000ddddnnnnssss1yx0mmmm` (R212). -/
  | smlaXy (o : SmlaXyOps)
  /-- ARM SMLAWy, `cccc00010010ddddnnnnssss1y00mmmm` (R214). -/
  | smlaW (o : SmlaWOps)
  /-- ARM SMULWy, `cccc00010010dddd0000ssss1y10mmmm` (R213). -/
  | smulW (o : SmulWOps)
  /-- ARM SMLALxy, `cccc00010100hhhhllllssss1yx0mmmm` (R216). -/
  | smlalXy (o : SmlalXyOps)
  /-- ARM SMULxy, `cccc00010110dddd0000ssss1yx0mmmm` (R211). -/
  | smulXy (o : SmulXyOps)
  /-- ARM MUL, `cccc0000000Sdddd0000ssss1001mmmm` (R201). -/
  | mul (o : MulOps)
  /-- ARM MLA, `cccc0000001Sddddnnnnssss1001mmmm` (R202). -/
  | mla (o : MlaOps)
  /-- ARM UMULL, `cccc0000100Shhhhllllssss1001mmmm` (R203). -/
  | umull (o : MullOps)
  /-- ARM UMLAL, `cccc0000101Shhhhllllssss1001mmmm` (R204). -/
  | umlal (o : MullOps)
  /-- ARM SMULL, `cccc0000110Shhhhllllssss1001mmmm` (R205). -/
  | smull (o : MullOps)
  /-- ARM SMLAL, `cccc0000111Shhhhllllssss1001mmmm` (R206). -/
  | smlal (o : MullOps)
  /-- ARM SWP, `cccc00010000nnnndddd00001001mmmm` (R292). -/
  | swp (o : SwpOps)
  /-- ARM SWPB, `cccc00010100nnnndddd00001001mmmm` (R293). -/
  | swpb (o : SwpOps)
  /-- ARM STRH__immediate_offset, `cccc000PU1W0nnnnddddhhhh1011llll` (R261). -/
  | strhImm (o : ExtImmOps)
  /-- ARM STRH__register_offset, `cccc000PU0W0nnnndddd00001011mmmm` (R261). -/
  | strhReg (o : ExtRegOps)
  /-- ARM LDRH__immediate_offset, `cccc000PU1W1nnnnddddhhhh1011llll` (R258). -/
  | ldrhImm (o : ExtImmOps)
  /-- ARM LDRH__register_offset, `cccc000PU0W1nnnndddd00001011mmmm` (R258). -/
  | ldrhReg (o : ExtRegOps)
  /-- ARM LDRSB__immediate_offset, `cccc000PU1W1nnnnddddhhhh1101llll` (R259). -/
  | ldrsbImm (o : ExtImmOps)
  /-- ARM LDRSB__register_offset, `cccc000PU0W1nnnndddd00001101mmmm` (R259). -/
  | ldrsbReg (o : ExtRegOps)
  /-- ARM LDRSH__immediate_offset, `cccc000PU1W1nnnnddddhhhh1111llll` (R260). -/
  | ldrshImm (o : ExtImmOps)
  /-- ARM LDRSH__register_offset, `cccc000PU0W1nnnndddd00001111mmmm` (R260). -/
  | ldrshReg (o : ExtRegOps)
  /-- ARM LDRD__immediate_offset, `cccc000PU1W0nnnnddddhhhh1101llll` (R272). -/
  | ldrdImm (o : ExtImmOps)
  /-- ARM LDRD__register_offset, `cccc000PU0W0nnnndddd00001101mmmm` (R272). -/
  | ldrdReg (o : ExtRegOps)
  /-- ARM STRD__immediate_offset, `cccc000PU1W0nnnnddddhhhh1111llll` (R273). -/
  | strdImm (o : ExtImmOps)
  /-- ARM STRD__register_offset, `cccc000PU0W0nnnndddd00001111mmmm` (R273). -/
  | strdReg (o : ExtRegOps)
  /-- ARM AND__immediate, `cccc0010000Snnnnddddrrrriiiiiiii` (R170). -/
  | andImm (o : AluImmOps)
  /-- ARM AND__immediate_shift, `cccc0000000Snnnnddddaaaaatt0mmmm` (R170). -/
  | andShift (o : AluShiftOps)
  /-- ARM AND__register_shift, `cccc0000000Snnnnddddssss0tt1mmmm` (R170). -/
  | andReg (o : AluRegOps)
  /-- ARM EOR__immediate, `cccc0010001Snnnnddddrrrriiiiiiii` (R171). -/
  | eorImm (o : AluImmOps)
  /-- ARM EOR__immediate_shift, `cccc0000001Snnnnddddaaaaatt0mmmm` (R171). -/
  | eorShift (o : AluShiftOps)
  /-- ARM EOR__register_shift, `cccc0000001Snnnnddddssss0tt1mmmm` (R171). -/
  | eorReg (o : AluRegOps)
  /-- ARM SUB__immediate, `cccc0010010Snnnnddddrrrriiiiiiii` (R172). -/
  | subImm (o : AluImmOps)
  /-- ARM SUB__immediate_shift, `cccc0000010Snnnnddddaaaaatt0mmmm` (R172). -/
  | subShift (o : AluShiftOps)
  /-- ARM SUB__register_shift, `cccc0000010Snnnnddddssss0tt1mmmm` (R172). -/
  | subReg (o : AluRegOps)
  /-- ARM RSB__immediate, `cccc0010011Snnnnddddrrrriiiiiiii` (R173). -/
  | rsbImm (o : AluImmOps)
  /-- ARM RSB__immediate_shift, `cccc0000011Snnnnddddaaaaatt0mmmm` (R173). -/
  | rsbShift (o : AluShiftOps)
  /-- ARM RSB__register_shift, `cccc0000011Snnnnddddssss0tt1mmmm` (R173). -/
  | rsbReg (o : AluRegOps)
  /-- ARM ADD__immediate, `cccc0010100Snnnnddddrrrriiiiiiii` (R174). -/
  | addImm (o : AluImmOps)
  /-- ARM ADD__immediate_shift, `cccc0000100Snnnnddddaaaaatt0mmmm` (R174). -/
  | addShift (o : AluShiftOps)
  /-- ARM ADD__register_shift, `cccc0000100Snnnnddddssss0tt1mmmm` (R174). -/
  | addReg (o : AluRegOps)
  /-- ARM ADC__immediate, `cccc0010101Snnnnddddrrrriiiiiiii` (R175). -/
  | adcImm (o : AluImmOps)
  /-- ARM ADC__immediate_shift, `cccc0000101Snnnnddddaaaaatt0mmmm` (R175). -/
  | adcShift (o : AluShiftOps)
  /-- ARM ADC__register_shift, `cccc0000101Snnnnddddssss0tt1mmmm` (R175). -/
  | adcReg (o : AluRegOps)
  /-- ARM SBC__immediate, `cccc0010110Snnnnddddrrrriiiiiiii` (R176). -/
  | sbcImm (o : AluImmOps)
  /-- ARM SBC__immediate_shift, `cccc0000110Snnnnddddaaaaatt0mmmm` (R176). -/
  | sbcShift (o : AluShiftOps)
  /-- ARM SBC__register_shift, `cccc0000110Snnnnddddssss0tt1mmmm` (R176). -/
  | sbcReg (o : AluRegOps)
  /-- ARM RSC__immediate, `cccc0010111Snnnnddddrrrriiiiiiii` (R177). -/
  | rscImm (o : AluImmOps)
  /-- ARM RSC__immediate_shift, `cccc0000111Snnnnddddaaaaatt0mmmm` (R177). -/
  | rscShift (o : AluShiftOps)
  /-- ARM RSC__register_shift, `cccc0000111Snnnnddddssss0tt1mmmm` (R177). -/
  | rscReg (o : AluRegOps)
  /-- ARM TST__immediate, `cccc00110001nnnn0000rrrriiiiiiii` (R178). -/
  | tstImm (o : CmpImmOps)
  /-- ARM TST__immediate_shift, `cccc00010001nnnn0000aaaaatt0mmmm` (R178). -/
  | tstShift (o : CmpShiftOps)
  /-- ARM TST__register_shift, `cccc00010001nnnn0000ssss0tt1mmmm` (R178). -/
  | tstReg (o : CmpRegOps)
  /-- ARM TEQ__immediate, `cccc00110011nnnn0000rrrriiiiiiii` (R179). -/
  | teqImm (o : CmpImmOps)
  /-- ARM TEQ__immediate_shift, `cccc00010011nnnn0000aaaaatt0mmmm` (R179). -/
  | teqShift (o : CmpShiftOps)
  /-- ARM TEQ__register_shift, `cccc00010011nnnn0000ssss0tt1mmmm` (R179). -/
  | teqReg (o : CmpRegOps)
  /-- ARM CMP__immediate, `cccc00110101nnnn0000rrrriiiiiiii` (R180). -/
  | cmpImm (o : CmpImmOps)
  /-- ARM CMP__immediate_shift, `cccc00010101nnnn0000aaaaatt0mmmm` (R180). -/
  | cmpShift (o : CmpShiftOps)
  /-- ARM CMP__register_shift, `cccc00010101nnnn0000ssss0tt1mmmm` (R180). -/
  | cmpReg (o : CmpRegOps)
  /-- ARM CMN__immediate, `cccc00110111nnnn0000rrrriiiiiiii` (R181). -/
  | cmnImm (o : CmpImmOps)
  /-- ARM CMN__immediate_shift, `cccc00010111nnnn0000aaaaatt0mmmm` (R181). -/
  | cmnShift (o : CmpShiftOps)
  /-- ARM CMN__register_shift, `cccc00010111nnnn0000ssss0tt1mmmm` (R181). -/
  | cmnReg (o : CmpRegOps)
  /-- ARM ORR__immediate, `cccc0011100Snnnnddddrrrriiiiiiii` (R182). -/
  | orrImm (o : AluImmOps)
  /-- ARM ORR__immediate_shift, `cccc0001100Snnnnddddaaaaatt0mmmm` (R182). -/
  | orrShift (o : AluShiftOps)
  /-- ARM ORR__register_shift, `cccc0001100Snnnnddddssss0tt1mmmm` (R182). -/
  | orrReg (o : AluRegOps)
  /-- ARM MOV__immediate, `cccc0011101S0000ddddrrrriiiiiiii` (R183). -/
  | movImm (o : MovImmOps)
  /-- ARM MOV__immediate_shift, `cccc0001101S0000ddddaaaaatt0mmmm` (R183). -/
  | movShift (o : MovShiftOps)
  /-- ARM MOV__register_shift, `cccc0001101S0000ddddssss0tt1mmmm` (R183). -/
  | movReg (o : MovRegOps)
  /-- ARM BIC__immediate, `cccc0011110Snnnnddddrrrriiiiiiii` (R184). -/
  | bicImm (o : AluImmOps)
  /-- ARM BIC__immediate_shift, `cccc0001110Snnnnddddaaaaatt0mmmm` (R184). -/
  | bicShift (o : AluShiftOps)
  /-- ARM BIC__register_shift, `cccc0001110Snnnnddddssss0tt1mmmm` (R184). -/
  | bicReg (o : AluRegOps)
  /-- ARM MVN__immediate, `cccc0011111S0000ddddrrrriiiiiiii` (R185). -/
  | mvnImm (o : MovImmOps)
  /-- ARM MVN__immediate_shift, `cccc0001111S0000ddddaaaaatt0mmmm` (R185). -/
  | mvnShift (o : MovShiftOps)
  /-- ARM MVN__register_shift, `cccc0001111S0000ddddssss0tt1mmmm` (R185). -/
  | mvnReg (o : MovRegOps)
  /-- ARM LDR__immediate_offset__offset_or_pre-indexed, `cccc0101U0W1nnnnddddiiiiiiiiiiii` (R250). -/
  | ldrImmPre (o : MemImmPreOps)
  /-- ARM LDR__immediate_offset__post-indexed, `cccc0100U001nnnnddddiiiiiiiiiiii` (R250). -/
  | ldrImmPost (o : MemImmPostOps)
  /-- ARM LDRT__immediate_offset__post-indexed, `cccc0100U011nnnnddddiiiiiiiiiiii` (R252). -/
  | ldrtImm (o : MemImmPostOps)
  /-- ARM LDR___scaled__register_offset__offset_or_pre-indexed, `cccc0111U0W1nnnnddddaaaaatt0mmmm` (R250). -/
  | ldrRegPre (o : MemRegPreOps)
  /-- ARM LDR___scaled__register_offset__post-indexed, `cccc0110U001nnnnddddaaaaatt0mmmm` (R250). -/
  | ldrRegPost (o : MemRegPostOps)
  /-- ARM LDRT___scaled__register_offset__post-indexed, `cccc0110U011nnnnddddaaaaatt0mmmm` (R252). -/
  | ldrtReg (o : MemRegPostOps)
  /-- ARM LDRB__immediate_offset__offset_or_pre-indexed, `cccc0101U1W1nnnnddddiiiiiiiiiiii` (R251). -/
  | ldrbImmPre (o : MemImmPreOps)
  /-- ARM LDRB__immediate_offset__post-indexed, `cccc0100U101nnnnddddiiiiiiiiiiii` (R251). -/
  | ldrbImmPost (o : MemImmPostOps)
  /-- ARM LDRBT__immediate_offset__post-indexed, `cccc0100U111nnnnddddiiiiiiiiiiii` (R253). -/
  | ldrbtImm (o : MemImmPostOps)
  /-- ARM LDRB___scaled__register_offset__offset_or_pre-indexed, `cccc0111U1W1nnnnddddaaaaatt0mmmm` (R251). -/
  | ldrbRegPre (o : MemRegPreOps)
  /-- ARM LDRB___scaled__register_offset__post-indexed, `cccc0110U101nnnnddddaaaaatt0mmmm` (R251). -/
  | ldrbRegPost (o : MemRegPostOps)
  /-- ARM LDRBT___scaled__register_offset__post-indexed, `cccc0110U111nnnnddddaaaaatt0mmmm` (R253). -/
  | ldrbtReg (o : MemRegPostOps)
  /-- ARM STR__immediate_offset__offset_or_pre-indexed, `cccc0101U0W0nnnnddddiiiiiiiiiiii` (R254). -/
  | strImmPre (o : MemImmPreOps)
  /-- ARM STR__immediate_offset__post-indexed, `cccc0100U000nnnnddddiiiiiiiiiiii` (R254). -/
  | strImmPost (o : MemImmPostOps)
  /-- ARM STRT__immediate_offset__post-indexed, `cccc0100U010nnnnddddiiiiiiiiiiii` (R256). -/
  | strtImm (o : MemImmPostOps)
  /-- ARM STR___scaled__register_offset__offset_or_pre-indexed, `cccc0111U0W0nnnnddddaaaaatt0mmmm` (R254). -/
  | strRegPre (o : MemRegPreOps)
  /-- ARM STR___scaled__register_offset__post-indexed, `cccc0110U000nnnnddddaaaaatt0mmmm` (R254). -/
  | strRegPost (o : MemRegPostOps)
  /-- ARM STRT___scaled__register_offset__post-indexed, `cccc0110U010nnnnddddaaaaatt0mmmm` (R256). -/
  | strtReg (o : MemRegPostOps)
  /-- ARM STRB__immediate_offset__offset_or_pre-indexed, `cccc0101U1W0nnnnddddiiiiiiiiiiii` (R255). -/
  | strbImmPre (o : MemImmPreOps)
  /-- ARM STRB__immediate_offset__post-indexed, `cccc0100U100nnnnddddiiiiiiiiiiii` (R255). -/
  | strbImmPost (o : MemImmPostOps)
  /-- ARM STRBT__immediate_offset__post-indexed, `cccc0100U110nnnnddddiiiiiiiiiiii` (R257). -/
  | strbtImm (o : MemImmPostOps)
  /-- ARM STRB___scaled__register_offset__offset_or_pre-indexed, `cccc0111U1W0nnnnddddaaaaatt0mmmm` (R255). -/
  | strbRegPre (o : MemRegPreOps)
  /-- ARM STRB___scaled__register_offset__post-indexed, `cccc0110U100nnnnddddaaaaatt0mmmm` (R255). -/
  | strbRegPost (o : MemRegPostOps)
  /-- ARM STRBT___scaled__register_offset__post-indexed, `cccc0110U110nnnnddddaaaaatt0mmmm` (R257). -/
  | strbtReg (o : MemRegPostOps)
  /-- ARM PLD__immediate_offset, `11110101U101nnnn1111iiiiiiiiiiii` (R274). -/
  | pldImm (o : PldImmOps)
  /-- ARM PLD___scaled__register_offset, `11110111U101nnnn1111aaaaatt0mmmm` (R274). -/
  | pldReg (o : PldRegOps)
  /-- ARM LDM__1, `cccc100PU0W1nnnnrrrrrrrrrrrrrrrr` (R282). -/
  | ldm1 (o : LdmOps)
  /-- ARM LDM__2, `cccc100PU1W1nnnn0rrrrrrrrrrrrrrr` (R283). -/
  | ldm2 (o : Ldm15Ops)
  /-- ARM LDM__3, `cccc100PU1W1nnnn1rrrrrrrrrrrrrrr` (R284). -/
  | ldm3 (o : Ldm15Ops)
  /-- ARM STM__1, `cccc100PU0W0nnnnrrrrrrrrrrrrrrrr` (R285). -/
  | stm1 (o : LdmOps)
  /-- ARM STM__2, `cccc100PU1W0nnnnrrrrrrrrrrrrrrrr` (R286). -/
  | stm2 (o : LdmOps)
  /-- ARM B, `cccc1010iiiiiiiiiiiiiiiiiiiiiiii` (R231). -/
  | b (o : BranchOps)
  /-- ARM BL, `cccc1011iiiiiiiiiiiiiiiiiiiiiiii` (R232). -/
  | bl (o : BranchOps)
  /-- ARM BLX__immediate, `1111101Hiiiiiiiiiiiiiiiiiiiiiiii` (R234). -/
  | blxImm (o : BlxImmOps)
  /-- ARM CDP, `cccc1110oooonnnnddddppppqqq0mmmm` (R330). -/
  | cdp (o : CdpOps)
  /-- ARM MCR, `cccc1110ooo0nnnnddddppppqqq1mmmm` (R333). -/
  | mcr (o : McrOps)
  /-- ARM MRC, `cccc1110ooo1nnnnddddppppqqq1mmmm` (R334). -/
  | mrc (o : McrOps)
  /-- ARM LDC, `cccc110PUNW1nnnnddddppppiiiiiiii` (R331). -/
  | ldc (o : LdcOps)
  /-- ARM STC, `cccc110PUNW0nnnnddddppppiiiiiiii` (R332). -/
  | stc (o : LdcOps)
  /-- ARM CDP2, `11111110oooonnnnddddppppqqq0mmmm` (R338). -/
  | cdp2 (o : Cdp2Ops)
  /-- ARM MCR2, `11111110ooo0nnnnddddppppqqq1mmmm` (R338). -/
  | mcr2 (o : Mcr2Ops)
  /-- ARM MRC2, `11111110ooo1nnnnddddppppqqq1mmmm` (R338). -/
  | mrc2 (o : Mcr2Ops)
  /-- ARM LDC2, `1111110PUNW1nnnnddddppppiiiiiiii` (R338). -/
  | ldc2 (o : Ldc2Ops)
  /-- ARM STC2, `1111110PUNW0nnnnddddppppiiiiiiii` (R338). -/
  | stc2 (o : Ldc2Ops)
  /-- ARM MCRR, `cccc11000100nnnnddddppppoooommmm` (R335). -/
  | mcrr (o : McrrOps)
  /-- ARM MRRC, `cccc11000101nnnnddddppppoooommmm` (R336). -/
  | mrrc (o : McrrOps)
  /-- ARM SWI, `cccc1111iiiiiiiiiiiiiiiiiiiiiiii` (R304). -/
  | swi (o : SwiOps)
  /-- Thumb LSL__immediate, `00000iiiiisssddd` (R352). -/
  | tLslImm (o : TShiftImmOps)
  /-- Thumb LSR__immediate, `00001iiiiisssddd` (R353). -/
  | tLsrImm (o : TShiftImmOps)
  /-- Thumb ASR__immediate, `00010iiiiisssddd` (R354). -/
  | tAsrImm (o : TShiftImmOps)
  /-- Thumb ADD__register, `0001100nnnsssddd` (R355). -/
  | tAddReg (o : TAdd3Ops)
  /-- Thumb SUB__register, `0001101nnnsssddd` (R356). -/
  | tSubReg (o : TAdd3Ops)
  /-- Thumb ADD__3-bit_immediate, `0001110iiisssddd` (R357). -/
  | tAddImm3 (o : TAddImm3Ops)
  /-- Thumb SUB__3-bit_immediate, `0001111iiisssddd` (R358). -/
  | tSubImm3 (o : TAddImm3Ops)
  /-- Thumb MOV__8-bit_immediate, `00100dddiiiiiiii` (R359). -/
  | tMovImm (o : TRdImm8Ops)
  /-- Thumb CMP__8-bit_immediate, `00101dddiiiiiiii` (R360). -/
  | tCmpImm (o : TRdImm8Ops)
  /-- Thumb ADD__8-bit_immediate, `00110dddiiiiiiii` (R361). -/
  | tAddImm8 (o : TRdImm8Ops)
  /-- Thumb SUB__8-bit_immediate, `00111dddiiiiiiii` (R362). -/
  | tSubImm8 (o : TRdImm8Ops)
  /-- Thumb AND, `0100000000sssddd` (R363). -/
  | tAnd (o : TAluOps)
  /-- Thumb EOR, `0100000001sssddd` (R364). -/
  | tEor (o : TAluOps)
  /-- Thumb LSL__register, `0100000010sssddd` (R365). -/
  | tLslReg (o : TAluOps)
  /-- Thumb LSR__register, `0100000011sssddd` (R366). -/
  | tLsrReg (o : TAluOps)
  /-- Thumb ASR__register, `0100000100sssddd` (R367). -/
  | tAsrReg (o : TAluOps)
  /-- Thumb ADC, `0100000101sssddd` (R368). -/
  | tAdc (o : TAluOps)
  /-- Thumb SBC, `0100000110sssddd` (R369). -/
  | tSbc (o : TAluOps)
  /-- Thumb ROR, `0100000111sssddd` (R370). -/
  | tRor (o : TAluOps)
  /-- Thumb TST, `0100001000sssddd` (R371). -/
  | tTst (o : TAluOps)
  /-- Thumb NEG, `0100001001sssddd` (R372). -/
  | tNeg (o : TAluOps)
  /-- Thumb CMP__low_registers, `0100001010sssddd` (R373). -/
  | tCmpLow (o : TAluOps)
  /-- Thumb CMN, `0100001011sssddd` (R374). -/
  | tCmn (o : TAluOps)
  /-- Thumb ORR, `0100001100sssddd` (R375). -/
  | tOrr (o : TAluOps)
  /-- Thumb MUL, `0100001101sssddd` (R376). -/
  | tMul (o : TAluOps)
  /-- Thumb BIC, `0100001110sssddd` (R377). -/
  | tBic (o : TAluOps)
  /-- Thumb MVN, `0100001111sssddd` (R378). -/
  | tMvn (o : TAluOps)
  /-- Thumb ADD__high_registers, `01000100hgsssddd` (R379). -/
  | tAddHi (o : THiOps)
  /-- Thumb CMP__high_registers, `01000101hgsssddd` (R380). -/
  | tCmpHi (o : THiOps)
  /-- Thumb MOV__high_registers, `01000110hgsssddd` (R381). -/
  | tMovHi (o : THiOps)
  /-- Thumb BX, `010001110gsss000` (R435). -/
  | tBx (o : TBxOps)
  /-- Thumb BLX__register, `010001111gsss000` (R436). -/
  | tBlxReg (o : TBxOps)
  /-- Thumb LDR__PC-relative, `01001dddiiiiiiii` (R418). -/
  | tLdrPc (o : TRdImm8Ops)
  /-- Thumb STR__register_offset, `0101000mmmbbbddd` (R424). -/
  | tStrReg (o : TMemRegOps)
  /-- Thumb STRH__register_offset, `0101001mmmbbbddd` (R425). -/
  | tStrhReg (o : TMemRegOps)
  /-- Thumb STRB__register_offset, `0101010mmmbbbddd` (R426). -/
  | tStrbReg (o : TMemRegOps)
  /-- Thumb LDRSB__register_offset, `0101011mmmbbbddd` (R419). -/
  | tLdrsbReg (o : TMemRegOps)
  /-- Thumb LDR__register_offset, `0101100mmmbbbddd` (R414). -/
  | tLdrReg (o : TMemRegOps)
  /-- Thumb LDRH__register_offset, `0101101mmmbbbddd` (R415). -/
  | tLdrhReg (o : TMemRegOps)
  /-- Thumb LDRB__register_offset, `0101110mmmbbbddd` (R417). -/
  | tLdrbReg (o : TMemRegOps)
  /-- Thumb LDRSH__register_offset, `0101111mmmbbbddd` (R416). -/
  | tLdrshReg (o : TMemRegOps)
  /-- Thumb STR__immediate_offset, `01100iiiiibbbddd` (R421). -/
  | tStrImm (o : TMemImmOps)
  /-- Thumb LDR__immediate_offset, `01101iiiiibbbddd` (R411). -/
  | tLdrImm (o : TMemImmOps)
  /-- Thumb STRB__immediate_offset, `01110iiiiibbbddd` (R423). -/
  | tStrbImm (o : TMemImmOps)
  /-- Thumb LDRB__immediate_offset, `01111iiiiibbbddd` (R413). -/
  | tLdrbImm (o : TMemImmOps)
  /-- Thumb STRH__immediate_offset, `10000iiiiibbbddd` (R422). -/
  | tStrhImm (o : TMemImmOps)
  /-- Thumb LDRH__immediate_offset, `10001iiiiibbbddd` (R412). -/
  | tLdrhImm (o : TMemImmOps)
  /-- Thumb STR__SP-relative, `10010dddiiiiiiii` (R427). -/
  | tStrSp (o : TRdImm8Ops)
  /-- Thumb LDR__SP-relative, `10011dddiiiiiiii` (R420). -/
  | tLdrSp (o : TRdImm8Ops)
  /-- Thumb ADD__Rd__PC__immediate, `10100dddiiiiiiii` (R382). -/
  | tAddPc (o : TRdImm8Ops)
  /-- Thumb ADD__Rd__SP__immediate, `10101dddiiiiiiii` (R383). -/
  | tAddSp (o : TRdImm8Ops)
  /-- Thumb ADD__SP__immediate, `101100000iiiiiii` (R384). -/
  | tIncSp (o : TSpImmOps)
  /-- Thumb SUB__SP__immediate, `101100001iiiiiii` (R385). -/
  | tDecSp (o : TSpImmOps)
  /-- Thumb PUSH, `1011010Rrrrrrrrr` (R430). -/
  | tPush (o : TStackOps)
  /-- Thumb POP, `1011110Rrrrrrrrr` (R431). -/
  | tPop (o : TStackOps)
  /-- Thumb BKPT, `10111110iiiiiiii` (R438). -/
  | tBkpt (o : TCommentOps)
  /-- Thumb STMIA, `11000bbbrrrrrrrr` (R429). -/
  | tStmia (o : TMultiOps)
  /-- Thumb LDMIA, `11001bbbrrrrrrrr` (R428). -/
  | tLdmia (o : TMultiOps)
  /-- Thumb B__conditional, `1101cccciiiiiiii` (R432). -/
  | tBCond (o : TCondBranchOps)
  /-- Thumb SWI, `11011111iiiiiiii` (R437). -/
  | tSwi (o : TCommentOps)
  /-- Thumb B__unconditional, `11100iiiiiiiiiii` (R433). -/
  | tB (o : TBranchOps)
  /-- Thumb BL_BLX_prefix, `11110iiiiiiiiiii` (R434). -/
  | tBlPrefix (o : TBranchOps)
  /-- Thumb BL_suffix, `11111iiiiiiiiiii` (R434). -/
  | tBlSuffix (o : TBranchOps)
  /-- Thumb BLX_suffix, `11101iiiiiiiiii0` (R434). -/
  | tBlxSuffix (o : TBlxSuffixOps)
  deriving DecidableEq, Repr

end Sys2Proof
end

