-- ==== Sys2Proof/WellFormed.lean ====
section
/-! DEFINITION. Which terms of `Instr` are instructions of the core: the operand values an encoding of
spec/opcode_table.json excludes (its "unless" entries). Every field width is in the types already. -/

namespace Sys2Proof

/-- LDC, STC and their cond = 1111 forms: P = U = W = 0 is another slot of the space (R126). -/
def coprocessorModeWf (p u w : Bool) : Bool := p || u || w

/-- Well-formedness: what the encodings cannot say is not an instruction (R126, R439). -/
def Instr.wf : Instr → Bool
  | .mrs _ => true
  | .msrReg _ => true
  | .msrImm _ => true
  | .bx _ => true
  | .blxReg _ => true
  | .clz _ => true
  | .qadd _ => true
  | .qsub _ => true
  | .qdadd _ => true
  | .qdsub _ => true
  | .bkpt _ => true
  | .smlaXy _ => true
  | .smlaW _ => true
  | .smulW _ => true
  | .smlalXy _ => true
  | .smulXy _ => true
  | .mul _ => true
  | .mla _ => true
  | .umull _ => true
  | .umlal _ => true
  | .smull _ => true
  | .smlal _ => true
  | .swp _ => true
  | .swpb _ => true
  | .strhImm _ => true
  | .strhReg _ => true
  | .ldrhImm _ => true
  | .ldrhReg _ => true
  | .ldrsbImm _ => true
  | .ldrsbReg _ => true
  | .ldrshImm _ => true
  | .ldrshReg _ => true
  | .ldrdImm _ => true
  | .ldrdReg _ => true
  | .strdImm _ => true
  | .strdReg _ => true
  | .andImm _ => true
  | .andShift _ => true
  | .andReg _ => true
  | .eorImm _ => true
  | .eorShift _ => true
  | .eorReg _ => true
  | .subImm _ => true
  | .subShift _ => true
  | .subReg _ => true
  | .rsbImm _ => true
  | .rsbShift _ => true
  | .rsbReg _ => true
  | .addImm _ => true
  | .addShift _ => true
  | .addReg _ => true
  | .adcImm _ => true
  | .adcShift _ => true
  | .adcReg _ => true
  | .sbcImm _ => true
  | .sbcShift _ => true
  | .sbcReg _ => true
  | .rscImm _ => true
  | .rscShift _ => true
  | .rscReg _ => true
  | .tstImm _ => true
  | .tstShift _ => true
  | .tstReg _ => true
  | .teqImm _ => true
  | .teqShift _ => true
  | .teqReg _ => true
  | .cmpImm _ => true
  | .cmpShift _ => true
  | .cmpReg _ => true
  | .cmnImm _ => true
  | .cmnShift _ => true
  | .cmnReg _ => true
  | .orrImm _ => true
  | .orrShift _ => true
  | .orrReg _ => true
  | .movImm _ => true
  | .movShift _ => true
  | .movReg _ => true
  | .bicImm _ => true
  | .bicShift _ => true
  | .bicReg _ => true
  | .mvnImm _ => true
  | .mvnShift _ => true
  | .mvnReg _ => true
  | .ldrImmPre _ => true
  | .ldrImmPost _ => true
  | .ldrtImm _ => true
  | .ldrRegPre _ => true
  | .ldrRegPost _ => true
  | .ldrtReg _ => true
  | .ldrbImmPre _ => true
  | .ldrbImmPost _ => true
  | .ldrbtImm _ => true
  | .ldrbRegPre _ => true
  | .ldrbRegPost _ => true
  | .ldrbtReg _ => true
  | .strImmPre _ => true
  | .strImmPost _ => true
  | .strtImm _ => true
  | .strRegPre _ => true
  | .strRegPost _ => true
  | .strtReg _ => true
  | .strbImmPre _ => true
  | .strbImmPost _ => true
  | .strbtImm _ => true
  | .strbRegPre _ => true
  | .strbRegPost _ => true
  | .strbtReg _ => true
  | .pldImm _ => true
  | .pldReg _ => true
  | .ldm1 _ => true
  | .ldm2 _ => true
  | .ldm3 _ => true
  | .stm1 _ => true
  | .stm2 _ => true
  | .b _ => true
  | .bl _ => true
  | .blxImm _ => true
  | .cdp _ => true
  | .mcr _ => true
  | .mrc _ => true
  | .ldc o => coprocessorModeWf o.p o.u o.w
  | .stc o => coprocessorModeWf o.p o.u o.w
  | .cdp2 _ => true
  | .mcr2 _ => true
  | .mrc2 _ => true
  | .ldc2 o => coprocessorModeWf o.p o.u o.w
  | .stc2 o => coprocessorModeWf o.p o.u o.w
  | .mcrr _ => true
  | .mrrc _ => true
  | .swi _ => true
  | .tLslImm _ => true
  | .tLsrImm _ => true
  | .tAsrImm _ => true
  | .tAddReg _ => true
  | .tSubReg _ => true
  | .tAddImm3 _ => true
  | .tSubImm3 _ => true
  | .tMovImm _ => true
  | .tCmpImm _ => true
  | .tAddImm8 _ => true
  | .tSubImm8 _ => true
  | .tAnd _ => true
  | .tEor _ => true
  | .tLslReg _ => true
  | .tLsrReg _ => true
  | .tAsrReg _ => true
  | .tAdc _ => true
  | .tSbc _ => true
  | .tRor _ => true
  | .tTst _ => true
  | .tNeg _ => true
  | .tCmpLow _ => true
  | .tCmn _ => true
  | .tOrr _ => true
  | .tMul _ => true
  | .tBic _ => true
  | .tMvn _ => true
  | .tAddHi _ => true
  | .tCmpHi _ => true
  | .tMovHi _ => true
  | .tBx _ => true
  | .tBlxReg _ => true
  | .tLdrPc _ => true
  | .tStrReg _ => true
  | .tStrhReg _ => true
  | .tStrbReg _ => true
  | .tLdrsbReg _ => true
  | .tLdrReg _ => true
  | .tLdrhReg _ => true
  | .tLdrbReg _ => true
  | .tLdrshReg _ => true
  | .tStrImm _ => true
  | .tLdrImm _ => true
  | .tStrbImm _ => true
  | .tLdrbImm _ => true
  | .tStrhImm _ => true
  | .tLdrhImm _ => true
  | .tStrSp _ => true
  | .tLdrSp _ => true
  | .tAddPc _ => true
  | .tAddSp _ => true
  | .tIncSp _ => true
  | .tDecSp _ => true
  | .tPush _ => true
  | .tPop _ => true
  | .tBkpt _ => true
  | .tStmia _ => true
  | .tLdmia _ => true
  | .tBCond o => o.cond != .al
  | .tSwi _ => true
  | .tB _ => true
  | .tBlPrefix _ => true
  | .tBlSuffix _ => true
  | .tBlxSuffix _ => true

end Sys2Proof
end

