-- ==== Sys2Proof/Decode.lean ====
section
/-! DEFINITION. The decoder, total on every 32-bit ARM word and every 16-bit Thumb halfword, and the encoder.
The decoder is the decision tree of R113, R114, R118 to R120, R126 and R135. It does not look at the bits
marked SBZ or SBO: such a word runs as if the field were right (U21's permitted alternative, entry 3). A word of
no row is rejected by name and takes the Undefined exception (R129, D20, entry 26). -/

namespace Sys2Proof

/-- `len` bits of `w` from bit `lo` up (R10). -/
def fld {n : Nat} (w : BitVec n) (lo len : Nat) : BitVec len := w.extractLsb' lo len

/-- Bit `i` of `w` (R10). -/
def bitAt {n : Nat} (w : BitVec n) (i : Nat) : Bool := w.getLsbD i

/-- A Bool as one bit. -/
def bit (b : Bool) : BitVec 1 := BitVec.ofBool b

/-- The condition's four bits (R112). -/
def Cond.bits : Cond → BitVec 4
  | .eq => 0b0000#4 | .ne => 0b0001#4 | .cs => 0b0010#4 | .cc => 0b0011#4
  | .mi => 0b0100#4 | .pl => 0b0101#4 | .vs => 0b0110#4 | .vc => 0b0111#4
  | .hi => 0b1000#4 | .ls => 0b1001#4 | .ge => 0b1010#4 | .lt => 0b1011#4
  | .gt => 0b1100#4 | .le => 0b1101#4 | .al => 0b1110#4

/-- The condition that four bits name; 0b1111 names none (R113). -/
def Cond.ofBits (b : BitVec 4) : Option Cond :=
  if b = 0b0000#4 then some .eq else if b = 0b0001#4 then some .ne
  else if b = 0b0010#4 then some .cs else if b = 0b0011#4 then some .cc
  else if b = 0b0100#4 then some .mi else if b = 0b0101#4 then some .pl
  else if b = 0b0110#4 then some .vs else if b = 0b0111#4 then some .vc
  else if b = 0b1000#4 then some .hi else if b = 0b1001#4 then some .ls
  else if b = 0b1010#4 then some .ge else if b = 0b1011#4 then some .lt
  else if b = 0b1100#4 then some .gt else if b = 0b1101#4 then some .le
  else if b = 0b1110#4 then some .al else none

/-- The shift type's two bits (R111). -/
def ShiftTy.bits : ShiftTy → BitVec 2
  | .lsl => 0b00#2 | .lsr => 0b01#2 | .asr => 0b10#2 | .ror => 0b11#2

/-- The shift type that two bits name (R111). -/
def ShiftTy.ofBits (b : BitVec 2) : ShiftTy :=
  if b = 0b00#2 then .lsl else if b = 0b01#2 then .lsr else if b = 0b10#2 then .asr else .ror

/-- Why a word is no instruction of this core; each takes the Undefined exception (R129, D20). -/
inductive Reject where
  /-- `cccc 011x … 1 xxxx`: the architecturally undefined space (R129). -/
  | archUndefined
  /-- `cccc 0011 0x00 …`: beside MSR immediate (R129). -/
  | msrNeighbour
  /-- BKPT with a condition other than AL: UNPREDICTABLE, not undefined (R118, R127). -/
  | breakpointCondition
  /-- An unallocated slot of the miscellaneous space (R118, R129). -/
  | miscUnallocated
  /-- An unallocated slot of the multiply or swap space (R119, R129). -/
  | multiplyUnallocated
  /-- A cond = 1111 word outside R113. -/
  | unconditional
  /-- The LDC/STC slot P = U = W = 0 with N = 0, and with cond = 1111 any N (R126, R338). -/
  | coprocessorSlot
  /-- Thumb `1011 …` outside formats 13, 14 and BKPT (R439). -/
  | thumbMisc
  /-- Thumb `1101 1110 …` (R439). -/
  | thumbCond
  /-- Thumb BLX suffix with bit 0 set (R439). -/
  | thumbSuffix
  deriving DecidableEq, Repr

/-! ### Reading the fields of each format -/

/-- Fields of Mrs. -/
def MrsOps.read (c : Cond) (w : BitVec 32) : MrsOps :=
  { cond := c, spsr := bitAt w 22, rd := fld w 12 4 }

/-- Fields of MsrReg. -/
def MsrRegOps.read (c : Cond) (w : BitVec 32) : MsrRegOps :=
  { cond := c, spsr := bitAt w 22, mask := fld w 16 4, rm := fld w 0 4 }

/-- Fields of MsrImm. -/
def MsrImmOps.read (c : Cond) (w : BitVec 32) : MsrImmOps :=
  { cond := c, spsr := bitAt w 22,
    mask := fld w 16 4, rot := fld w 8 4, imm8 := fld w 0 8 }

/-- Fields of Bx. -/
def BxOps.read (c : Cond) (w : BitVec 32) : BxOps :=
  { cond := c, rm := fld w 0 4 }

/-- Fields of Clz. -/
def ClzOps.read (c : Cond) (w : BitVec 32) : ClzOps :=
  { cond := c, rd := fld w 12 4, rm := fld w 0 4 }

/-- Fields of Q. -/
def QOps.read (c : Cond) (w : BitVec 32) : QOps :=
  { cond := c, rn := fld w 16 4, rd := fld w 12 4, rm := fld w 0 4 }

/-- Fields of Bkpt. -/
def BkptOps.read (w : BitVec 32) : BkptOps :=
  { imm16 := fld w 8 12 ++ fld w 0 4 }

/-- Fields of SmlaXy. -/
def SmlaXyOps.read (c : Cond) (w : BitVec 32) : SmlaXyOps :=
  { cond := c, rd := fld w 16 4, rn := fld w 12 4,
    rs := fld w 8 4, y := bitAt w 6, x := bitAt w 5, rm := fld w 0 4 }

/-- Fields of SmlaW. -/
def SmlaWOps.read (c : Cond) (w : BitVec 32) : SmlaWOps :=
  { cond := c, rd := fld w 16 4, rn := fld w 12 4,
    rs := fld w 8 4, y := bitAt w 6, rm := fld w 0 4 }

/-- Fields of SmulW. -/
def SmulWOps.read (c : Cond) (w : BitVec 32) : SmulWOps :=
  { cond := c, rd := fld w 16 4, rs := fld w 8 4, y := bitAt w 6, rm := fld w 0 4 }

/-- Fields of SmlalXy. -/
def SmlalXyOps.read (c : Cond) (w : BitVec 32) : SmlalXyOps :=
  { cond := c, rdHi := fld w 16 4, rdLo := fld w 12 4,
    rs := fld w 8 4, y := bitAt w 6, x := bitAt w 5, rm := fld w 0 4 }

/-- Fields of SmulXy. -/
def SmulXyOps.read (c : Cond) (w : BitVec 32) : SmulXyOps :=
  { cond := c, rd := fld w 16 4, rs := fld w 8 4,
    y := bitAt w 6, x := bitAt w 5, rm := fld w 0 4 }

/-- Fields of Mul. -/
def MulOps.read (c : Cond) (w : BitVec 32) : MulOps :=
  { cond := c, s := bitAt w 20, rd := fld w 16 4, rs := fld w 8 4, rm := fld w 0 4 }

/-- Fields of Mla. -/
def MlaOps.read (c : Cond) (w : BitVec 32) : MlaOps :=
  { cond := c, s := bitAt w 20, rd := fld w 16 4,
    rn := fld w 12 4, rs := fld w 8 4, rm := fld w 0 4 }

/-- Fields of Mull. -/
def MullOps.read (c : Cond) (w : BitVec 32) : MullOps :=
  { cond := c, s := bitAt w 20, rdHi := fld w 16 4,
    rdLo := fld w 12 4, rs := fld w 8 4, rm := fld w 0 4 }

/-- Fields of Swp. -/
def SwpOps.read (c : Cond) (w : BitVec 32) : SwpOps :=
  { cond := c, rn := fld w 16 4, rd := fld w 12 4, rm := fld w 0 4 }

/-- Fields of ExtImm. -/
def ExtImmOps.read (c : Cond) (w : BitVec 32) : ExtImmOps :=
  { cond := c, p := bitAt w 24, u := bitAt w 23,
    w := bitAt w 21, rn := fld w 16 4, rd := fld w 12 4, imm8 := fld w 8 4 ++ fld w 0 4 }

/-- Fields of ExtReg. -/
def ExtRegOps.read (c : Cond) (w : BitVec 32) : ExtRegOps :=
  { cond := c, p := bitAt w 24, u := bitAt w 23,
    w := bitAt w 21, rn := fld w 16 4, rd := fld w 12 4, rm := fld w 0 4 }

/-- Fields of AluImm. -/
def AluImmOps.read (c : Cond) (w : BitVec 32) : AluImmOps :=
  { cond := c, s := bitAt w 20, rn := fld w 16 4,
    rd := fld w 12 4, rot := fld w 8 4, imm8 := fld w 0 8 }

/-- Fields of AluShift. -/
def AluShiftOps.read (c : Cond) (w : BitVec 32) : AluShiftOps :=
  { cond := c, s := bitAt w 20, rn := fld w 16 4,
    rd := fld w 12 4, amount := fld w 7 5, ty := .ofBits (fld w 5 2), rm := fld w 0 4 }

/-- Fields of AluReg. -/
def AluRegOps.read (c : Cond) (w : BitVec 32) : AluRegOps :=
  { cond := c, s := bitAt w 20, rn := fld w 16 4,
    rd := fld w 12 4, rs := fld w 8 4, ty := .ofBits (fld w 5 2), rm := fld w 0 4 }

/-- Fields of CmpImm. -/
def CmpImmOps.read (c : Cond) (w : BitVec 32) : CmpImmOps :=
  { cond := c, rn := fld w 16 4, rot := fld w 8 4, imm8 := fld w 0 8 }

/-- Fields of CmpShift. -/
def CmpShiftOps.read (c : Cond) (w : BitVec 32) : CmpShiftOps :=
  { cond := c, rn := fld w 16 4,
    amount := fld w 7 5, ty := .ofBits (fld w 5 2), rm := fld w 0 4 }

/-- Fields of CmpReg. -/
def CmpRegOps.read (c : Cond) (w : BitVec 32) : CmpRegOps :=
  { cond := c, rn := fld w 16 4,
    rs := fld w 8 4, ty := .ofBits (fld w 5 2), rm := fld w 0 4 }

/-- Fields of MovImm. -/
def MovImmOps.read (c : Cond) (w : BitVec 32) : MovImmOps :=
  { cond := c, s := bitAt w 20, rd := fld w 12 4, rot := fld w 8 4, imm8 := fld w 0 8 }

/-- Fields of MovShift. -/
def MovShiftOps.read (c : Cond) (w : BitVec 32) : MovShiftOps :=
  { cond := c, s := bitAt w 20, rd := fld w 12 4,
    amount := fld w 7 5, ty := .ofBits (fld w 5 2), rm := fld w 0 4 }

/-- Fields of MovReg. -/
def MovRegOps.read (c : Cond) (w : BitVec 32) : MovRegOps :=
  { cond := c, s := bitAt w 20, rd := fld w 12 4,
    rs := fld w 8 4, ty := .ofBits (fld w 5 2), rm := fld w 0 4 }

/-- Fields of MemImmPre. -/
def MemImmPreOps.read (c : Cond) (w : BitVec 32) : MemImmPreOps :=
  { cond := c, u := bitAt w 23, w := bitAt w 21,
    rn := fld w 16 4, rd := fld w 12 4, imm12 := fld w 0 12 }

/-- Fields of MemImmPost. -/
def MemImmPostOps.read (c : Cond) (w : BitVec 32) : MemImmPostOps :=
  { cond := c, u := bitAt w 23, rn := fld w 16 4, rd := fld w 12 4, imm12 := fld w 0 12 }

/-- Fields of MemRegPre. -/
def MemRegPreOps.read (c : Cond) (w : BitVec 32) : MemRegPreOps :=
  { cond := c, u := bitAt w 23, w := bitAt w 21, rn := fld w 16 4,
    rd := fld w 12 4, amount := fld w 7 5, ty := .ofBits (fld w 5 2), rm := fld w 0 4 }

/-- Fields of MemRegPost. -/
def MemRegPostOps.read (c : Cond) (w : BitVec 32) : MemRegPostOps :=
  { cond := c, u := bitAt w 23, rn := fld w 16 4,
    rd := fld w 12 4, amount := fld w 7 5, ty := .ofBits (fld w 5 2), rm := fld w 0 4 }

/-- Fields of PldImm. -/
def PldImmOps.read (w : BitVec 32) : PldImmOps :=
  { u := bitAt w 23, rn := fld w 16 4, imm12 := fld w 0 12 }

/-- Fields of PldReg. -/
def PldRegOps.read (w : BitVec 32) : PldRegOps :=
  { u := bitAt w 23, rn := fld w 16 4,
    amount := fld w 7 5, ty := .ofBits (fld w 5 2), rm := fld w 0 4 }

/-- Fields of Ldm. -/
def LdmOps.read (c : Cond) (w : BitVec 32) : LdmOps :=
  { cond := c, p := bitAt w 24, u := bitAt w 23,
    w := bitAt w 21, rn := fld w 16 4, list := fld w 0 16 }

/-- Fields of Ldm15. -/
def Ldm15Ops.read (c : Cond) (w : BitVec 32) : Ldm15Ops :=
  { cond := c, p := bitAt w 24, u := bitAt w 23,
    w := bitAt w 21, rn := fld w 16 4, list := fld w 0 15 }

/-- Fields of Branch. -/
def BranchOps.read (c : Cond) (w : BitVec 32) : BranchOps :=
  { cond := c, imm24 := fld w 0 24 }

/-- Fields of BlxImm. -/
def BlxImmOps.read (w : BitVec 32) : BlxImmOps :=
  { h := bitAt w 24, imm24 := fld w 0 24 }

/-- Fields of Cdp. -/
def CdpOps.read (c : Cond) (w : BitVec 32) : CdpOps :=
  { cond := c, op1 := fld w 20 4, crn := fld w 16 4,
    crd := fld w 12 4, cp := fld w 8 4, op2 := fld w 5 3, crm := fld w 0 4 }

/-- Fields of Mcr. -/
def McrOps.read (c : Cond) (w : BitVec 32) : McrOps :=
  { cond := c, op1 := fld w 21 3, crn := fld w 16 4,
    rd := fld w 12 4, cp := fld w 8 4, op2 := fld w 5 3, crm := fld w 0 4 }

/-- Fields of Ldc. -/
def LdcOps.read (c : Cond) (w : BitVec 32) : LdcOps :=
  { cond := c, p := bitAt w 24, u := bitAt w 23, n := bitAt w 22,
    w := bitAt w 21, rn := fld w 16 4, crd := fld w 12 4, cp := fld w 8 4, imm8 := fld w 0 8 }

/-- Fields of Cdp2. -/
def Cdp2Ops.read (w : BitVec 32) : Cdp2Ops :=
  { op1 := fld w 20 4, crn := fld w 16 4, crd := fld w 12 4,
    cp := fld w 8 4, op2 := fld w 5 3, crm := fld w 0 4 }

/-- Fields of Mcr2. -/
def Mcr2Ops.read (w : BitVec 32) : Mcr2Ops :=
  { op1 := fld w 21 3, crn := fld w 16 4, rd := fld w 12 4,
    cp := fld w 8 4, op2 := fld w 5 3, crm := fld w 0 4 }

/-- Fields of Ldc2. -/
def Ldc2Ops.read (w : BitVec 32) : Ldc2Ops :=
  { p := bitAt w 24, u := bitAt w 23, n := bitAt w 22, w := bitAt w 21,
    rn := fld w 16 4, crd := fld w 12 4, cp := fld w 8 4, imm8 := fld w 0 8 }

/-- Fields of Mcrr. -/
def McrrOps.read (c : Cond) (w : BitVec 32) : McrrOps :=
  { cond := c, rn := fld w 16 4, rd := fld w 12 4,
    cp := fld w 8 4, op1 := fld w 4 4, crm := fld w 0 4 }

/-- Fields of Swi. -/
def SwiOps.read (c : Cond) (w : BitVec 32) : SwiOps :=
  { cond := c, imm24 := fld w 0 24 }

/-- Fields of TShiftImm. -/
def TShiftImmOps.read (w : BitVec 16) : TShiftImmOps :=
  { imm5 := fld w 6 5, rs := fld w 3 3, rd := fld w 0 3 }

/-- Fields of TAdd3. -/
def TAdd3Ops.read (w : BitVec 16) : TAdd3Ops :=
  { rn := fld w 6 3, rs := fld w 3 3, rd := fld w 0 3 }

/-- Fields of TAddImm3. -/
def TAddImm3Ops.read (w : BitVec 16) : TAddImm3Ops :=
  { imm3 := fld w 6 3, rs := fld w 3 3, rd := fld w 0 3 }

/-- Fields of TRdImm8. -/
def TRdImm8Ops.read (w : BitVec 16) : TRdImm8Ops :=
  { rd := fld w 8 3, imm8 := fld w 0 8 }

/-- Fields of TAlu. -/
def TAluOps.read (w : BitVec 16) : TAluOps :=
  { rs := fld w 3 3, rd := fld w 0 3 }

/-- Fields of THi. -/
def THiOps.read (w : BitVec 16) : THiOps :=
  { rm := fld w 3 4, rd := fld w 7 1 ++ fld w 0 3 }

/-- Fields of TBx. -/
def TBxOps.read (w : BitVec 16) : TBxOps :=
  { rm := fld w 3 4 }

/-- Fields of TMemReg. -/
def TMemRegOps.read (w : BitVec 16) : TMemRegOps :=
  { ro := fld w 6 3, rb := fld w 3 3, rd := fld w 0 3 }

/-- Fields of TMemImm. -/
def TMemImmOps.read (w : BitVec 16) : TMemImmOps :=
  { imm5 := fld w 6 5, rb := fld w 3 3, rd := fld w 0 3 }

/-- Fields of TSpImm. -/
def TSpImmOps.read (w : BitVec 16) : TSpImmOps :=
  { imm7 := fld w 0 7 }

/-- Fields of TStack. -/
def TStackOps.read (w : BitVec 16) : TStackOps :=
  { extra := bitAt w 8, list := fld w 0 8 }

/-- Fields of TComment. -/
def TCommentOps.read (w : BitVec 16) : TCommentOps :=
  { imm8 := fld w 0 8 }

/-- Fields of TMulti. -/
def TMultiOps.read (w : BitVec 16) : TMultiOps :=
  { rb := fld w 8 3, list := fld w 0 8 }

/-- Fields of TCondBranch. -/
def TCondBranchOps.read (c : Cond) (w : BitVec 16) : TCondBranchOps :=
  { cond := c, imm8 := fld w 0 8 }

/-- Fields of TBranch. -/
def TBranchOps.read (w : BitVec 16) : TBranchOps :=
  { imm11 := fld w 0 11 }

/-- Fields of TBlxSuffix. -/
def TBlxSuffixOps.read (w : BitVec 16) : TBlxSuffixOps :=
  { imm10 := fld w 1 10 }

/-! ### ARM state: the decision tree of R114 -/

/-- Data processing, immediate operand, by opcode (R115); opcodes 8 to 11 have S = 1 here. -/
def decodeAluImm (c : Cond) (w : Word) : Instr :=
  let op := fld w 21 4
  if op = 0b0000#4 then .andImm (.read c w) else if op = 0b0001#4 then .eorImm (.read c w)
  else if op = 0b0010#4 then .subImm (.read c w) else if op = 0b0011#4 then .rsbImm (.read c w)
  else if op = 0b0100#4 then .addImm (.read c w) else if op = 0b0101#4 then .adcImm (.read c w)
  else if op = 0b0110#4 then .sbcImm (.read c w) else if op = 0b0111#4 then .rscImm (.read c w)
  else if op = 0b1000#4 then .tstImm (.read c w) else if op = 0b1001#4 then .teqImm (.read c w)
  else if op = 0b1010#4 then .cmpImm (.read c w) else if op = 0b1011#4 then .cmnImm (.read c w)
  else if op = 0b1100#4 then .orrImm (.read c w) else if op = 0b1101#4 then .movImm (.read c w)
  else if op = 0b1110#4 then .bicImm (.read c w) else .mvnImm (.read c w)

/-- Data processing, register shifted by an immediate, by opcode (R115). -/
def decodeAluShift (c : Cond) (w : Word) : Instr :=
  let op := fld w 21 4
  if op = 0b0000#4 then .andShift (.read c w) else if op = 0b0001#4 then .eorShift (.read c w)
  else if op = 0b0010#4 then .subShift (.read c w) else if op = 0b0011#4 then .rsbShift (.read c w)
  else if op = 0b0100#4 then .addShift (.read c w) else if op = 0b0101#4 then .adcShift (.read c w)
  else if op = 0b0110#4 then .sbcShift (.read c w) else if op = 0b0111#4 then .rscShift (.read c w)
  else if op = 0b1000#4 then .tstShift (.read c w) else if op = 0b1001#4 then .teqShift (.read c w)
  else if op = 0b1010#4 then .cmpShift (.read c w) else if op = 0b1011#4 then .cmnShift (.read c w)
  else if op = 0b1100#4 then .orrShift (.read c w) else if op = 0b1101#4 then .movShift (.read c w)
  else if op = 0b1110#4 then .bicShift (.read c w) else .mvnShift (.read c w)

/-- Data processing, register shifted by a register, by opcode (R115). -/
def decodeAluReg (c : Cond) (w : Word) : Instr :=
  let op := fld w 21 4
  if op = 0b0000#4 then .andReg (.read c w) else if op = 0b0001#4 then .eorReg (.read c w)
  else if op = 0b0010#4 then .subReg (.read c w) else if op = 0b0011#4 then .rsbReg (.read c w)
  else if op = 0b0100#4 then .addReg (.read c w) else if op = 0b0101#4 then .adcReg (.read c w)
  else if op = 0b0110#4 then .sbcReg (.read c w) else if op = 0b0111#4 then .rscReg (.read c w)
  else if op = 0b1000#4 then .tstReg (.read c w) else if op = 0b1001#4 then .teqReg (.read c w)
  else if op = 0b1010#4 then .cmpReg (.read c w) else if op = 0b1011#4 then .cmnReg (.read c w)
  else if op = 0b1100#4 then .orrReg (.read c w) else if op = 0b1101#4 then .movReg (.read c w)
  else if op = 0b1110#4 then .bicReg (.read c w) else .mvnReg (.read c w)

/-- The miscellaneous space with bit 7 = 1, bit 4 = 0: 16-bit multiplies (R118). -/
def decodeDspMul (c : Cond) (w : Word) : Instr :=
  let op := fld w 21 2
  if op = 0b00#2 then .smlaXy (.read c w)
  else if op = 0b01#2 then
    if fld w 5 1 = 0b0#1 then .smlaW (.read c w) else .smulW (.read c w)
  else if op = 0b10#2 then .smlalXy (.read c w)
  else .smulXy (.read c w)

/-- The miscellaneous space with bit 7 = 0 (R118). -/
def decodeMisc (c : Cond) (w : Word) : Except Reject Instr :=
  let op := fld w 21 2
  let k := fld w 4 3
  if k = 0b000#3 then
    if fld w 21 1 = 0b0#1 then .ok (.mrs (.read c w)) else .ok (.msrReg (.read c w))
  else if k = 0b001#3 then
    if op = 0b01#2 then .ok (.bx (.read c w))
    else if op = 0b11#2 then .ok (.clz (.read c w)) else .error .miscUnallocated
  else if k = 0b011#3 then
    if op = 0b01#2 then .ok (.blxReg (.read c w)) else .error .miscUnallocated
  else if k = 0b101#3 then
    if op = 0b00#2 then .ok (.qadd (.read c w)) else if op = 0b01#2 then .ok (.qsub (.read c w))
    else if op = 0b10#2 then .ok (.qdadd (.read c w)) else .ok (.qdsub (.read c w))
  else if k = 0b111#3 then
    if op = 0b01#2 then (if c = .al then .ok (.bkpt (.read w)) else .error .breakpointCondition)
    else .error .miscUnallocated
  else .error .miscUnallocated

/-- Multiplies and swaps: bits 7:4 = 1001 (R119). -/
def decodeMultiply (c : Cond) (w : Word) : Except Reject Instr :=
  if fld w 24 1 = 0b0#1 then
    let op := fld w 21 3
    if op = 0b000#3 then .ok (.mul (.read c w)) else if op = 0b001#3 then .ok (.mla (.read c w))
    else if op = 0b100#3 then .ok (.umull (.read c w)) else if op = 0b101#3 then .ok (.umlal (.read c w))
    else if op = 0b110#3 then .ok (.smull (.read c w)) else if op = 0b111#3 then .ok (.smlal (.read c w))
    else .error .multiplyUnallocated
  else
    let op := fld w 20 4
    if op = 0b0000#4 then .ok (.swp (.read c w)) else if op = 0b0100#4 then .ok (.swpb (.read c w))
    else .error .multiplyUnallocated

/-- Extra loads and stores: bit 7 = bit 4 = 1, bits 6:5 not 00 (R120); bit 22 chooses the offset form. -/
def decodeExtra (c : Cond) (w : Word) : Instr :=
  let k := fld w 20 1 ++ fld w 5 2
  if fld w 22 1 = 0b1#1 then
    if k = 0b001#3 then .strhImm (.read c w) else if k = 0b101#3 then .ldrhImm (.read c w)
    else if k = 0b110#3 then .ldrsbImm (.read c w) else if k = 0b111#3 then .ldrshImm (.read c w)
    else if k = 0b010#3 then .ldrdImm (.read c w) else .strdImm (.read c w)
  else
    if k = 0b001#3 then .strhReg (.read c w) else if k = 0b101#3 then .ldrhReg (.read c w)
    else if k = 0b110#3 then .ldrsbReg (.read c w) else if k = 0b111#3 then .ldrshReg (.read c w)
    else if k = 0b010#3 then .ldrdReg (.read c w) else .strdReg (.read c w)

/-- Bits 27:25 = 000 (R114). -/
def decode000 (c : Cond) (w : Word) : Except Reject Instr :=
  if fld w 7 1 = 0b1#1 ∧ fld w 4 1 = 0b1#1 then
    if fld w 5 2 = 0b00#2 then decodeMultiply c w else .ok (decodeExtra c w)
  else if fld w 23 2 = 0b10#2 ∧ fld w 20 1 = 0b0#1 then
    if fld w 7 1 = 0b1#1 then .ok (decodeDspMul c w) else decodeMisc c w
  else if fld w 4 1 = 0b0#1 then .ok (decodeAluShift c w)
  else .ok (decodeAluReg c w)

/-- Bits 27:25 = 001 (R114). -/
def decode001 (c : Cond) (w : Word) : Except Reject Instr :=
  if fld w 23 2 = 0b10#2 ∧ fld w 20 1 = 0b0#1 then
    if fld w 21 1 = 0b1#1 then .ok (.msrImm (.read c w)) else .error .msrNeighbour
  else .ok (decodeAluImm c w)

/-- Word and byte transfers, immediate offset: bits B, W, L with P (R121). -/
def decodeMemImm (c : Cond) (w : Word) : Instr :=
  let bl := fld w 22 1 ++ fld w 20 1
  if fld w 24 1 = 0b1#1 then
    if bl = 0b01#2 then .ldrImmPre (.read c w) else if bl = 0b00#2 then .strImmPre (.read c w)
    else if bl = 0b11#2 then .ldrbImmPre (.read c w) else .strbImmPre (.read c w)
  else if fld w 21 1 = 0b0#1 then
    if bl = 0b01#2 then .ldrImmPost (.read c w) else if bl = 0b00#2 then .strImmPost (.read c w)
    else if bl = 0b11#2 then .ldrbImmPost (.read c w) else .strbImmPost (.read c w)
  else
    if bl = 0b01#2 then .ldrtImm (.read c w) else if bl = 0b00#2 then .strtImm (.read c w)
    else if bl = 0b11#2 then .ldrbtImm (.read c w) else .strbtImm (.read c w)

/-- Word and byte transfers, scaled register offset (R121). -/
def decodeMemReg (c : Cond) (w : Word) : Instr :=
  let bl := fld w 22 1 ++ fld w 20 1
  if fld w 24 1 = 0b1#1 then
    if bl = 0b01#2 then .ldrRegPre (.read c w) else if bl = 0b00#2 then .strRegPre (.read c w)
    else if bl = 0b11#2 then .ldrbRegPre (.read c w) else .strbRegPre (.read c w)
  else if fld w 21 1 = 0b0#1 then
    if bl = 0b01#2 then .ldrRegPost (.read c w) else if bl = 0b00#2 then .strRegPost (.read c w)
    else if bl = 0b11#2 then .ldrbRegPost (.read c w) else .strbRegPost (.read c w)
  else
    if bl = 0b01#2 then .ldrtReg (.read c w) else if bl = 0b00#2 then .strtReg (.read c w)
    else if bl = 0b11#2 then .ldrbtReg (.read c w) else .strbtReg (.read c w)

/-- Load and store multiple: bits S, L, and list bit 15 for the LDM forms (R124, R283, R284). -/
def decodeMultiple (c : Cond) (w : Word) : Instr :=
  let sl := fld w 22 1 ++ fld w 20 1
  if sl = 0b01#2 then .ldm1 (.read c w)
  else if sl = 0b00#2 then .stm1 (.read c w)
  else if sl = 0b10#2 then .stm2 (.read c w)
  else if fld w 15 1 = 0b0#1 then .ldm2 (.read c w) else .ldm3 (.read c w)

/-- Bits 27:25 = 110: P = U = W = 0 is MCRR/MRRC (N = 1) or undefined, else STC/LDC (R126). -/
def decode110 (c : Cond) (w : Word) : Except Reject Instr :=
  if fld w 23 2 = 0b00#2 ∧ fld w 21 1 = 0b0#1 then
    if fld w 22 1 = 0b1#1 then
      if fld w 20 1 = 0b0#1 then .ok (.mcrr (.read c w)) else .ok (.mrrc (.read c w))
    else .error .coprocessorSlot
  else if fld w 20 1 = 0b0#1 then .ok (.stc (.read c w)) else .ok (.ldc (.read c w))

/-- Bits 27:25 = 111 (R114, R126, R127). -/
def decode111 (c : Cond) (w : Word) : Instr :=
  if fld w 24 1 = 0b1#1 then .swi (.read c w)
  else if fld w 4 1 = 0b0#1 then .cdp (.read c w)
  else if fld w 20 1 = 0b0#1 then .mcr (.read c w) else .mrc (.read c w)

/-- A conditional ARM word, by bits 27:25 (R114). -/
def decodeCond (c : Cond) (w : Word) : Except Reject Instr :=
  let k := fld w 25 3
  if k = 0b000#3 then decode000 c w
  else if k = 0b001#3 then decode001 c w
  else if k = 0b010#3 then .ok (decodeMemImm c w)
  else if k = 0b011#3 then
    if fld w 4 1 = 0b0#1 then .ok (decodeMemReg c w) else .error .archUndefined
  else if k = 0b100#3 then .ok (decodeMultiple c w)
  else if k = 0b101#3 then
    if fld w 24 1 = 0b0#1 then .ok (.b (.read c w)) else .ok (.bl (.read c w))
  else if k = 0b110#3 then decode110 c w
  else .ok (decode111 c w)

/-- The cond = 1111 space (R113). -/
def decodeUncond (w : Word) : Except Reject Instr :=
  if fld w 25 3 = 0b101#3 then .ok (.blxImm (.read w))
  else if fld w 24 4 = 0b0101#4 ∧ fld w 20 3 = 0b101#3 then .ok (.pldImm (.read w))
  else if fld w 24 4 = 0b0111#4 ∧ fld w 20 3 = 0b101#3 ∧ fld w 4 1 = 0b0#1 then .ok (.pldReg (.read w))
  else if fld w 24 4 = 0b1110#4 then
    if fld w 4 1 = 0b0#1 then .ok (.cdp2 (.read w))
    else if fld w 20 1 = 0b0#1 then .ok (.mcr2 (.read w)) else .ok (.mrc2 (.read w))
  else if fld w 25 3 = 0b110#3 then
    if fld w 23 2 = 0b00#2 ∧ fld w 21 1 = 0b0#1 then .error .coprocessorSlot
    else if fld w 20 1 = 0b0#1 then .ok (.stc2 (.read w)) else .ok (.ldc2 (.read w))
  else .error .unconditional

/-- Every 32-bit ARM word (R110, R139). -/
def decodeArm (w : Word) : Except Reject Instr :=
  match Cond.ofBits (fld w 28 4) with
  | some c => decodeCond c w
  | none => decodeUncond w

/-! ### Thumb state: the formats of R135 -/

/-- Format 4 by its opcode (R135). -/
def decodeThumbAlu (h : Half) : Instr :=
  let op := fld h 6 4
  if op = 0b0000#4 then .tAnd (.read h) else if op = 0b0001#4 then .tEor (.read h)
  else if op = 0b0010#4 then .tLslReg (.read h) else if op = 0b0011#4 then .tLsrReg (.read h)
  else if op = 0b0100#4 then .tAsrReg (.read h) else if op = 0b0101#4 then .tAdc (.read h)
  else if op = 0b0110#4 then .tSbc (.read h) else if op = 0b0111#4 then .tRor (.read h)
  else if op = 0b1000#4 then .tTst (.read h) else if op = 0b1001#4 then .tNeg (.read h)
  else if op = 0b1010#4 then .tCmpLow (.read h) else if op = 0b1011#4 then .tCmn (.read h)
  else if op = 0b1100#4 then .tOrr (.read h) else if op = 0b1101#4 then .tMul (.read h)
  else if op = 0b1110#4 then .tBic (.read h) else .tMvn (.read h)

/-- Bits 15:13 = 000: formats 1 and 2. -/
def decodeThumb000 (h : Half) : Instr :=
  let op := fld h 11 2
  if op = 0b00#2 then .tLslImm (.read h) else if op = 0b01#2 then .tLsrImm (.read h)
  else if op = 0b10#2 then .tAsrImm (.read h)
  else
    let k := fld h 9 2
    if k = 0b00#2 then .tAddReg (.read h) else if k = 0b01#2 then .tSubReg (.read h)
    else if k = 0b10#2 then .tAddImm3 (.read h) else .tSubImm3 (.read h)

/-- Bits 15:13 = 001: format 3. -/
def decodeThumb001 (h : Half) : Instr :=
  let op := fld h 11 2
  if op = 0b00#2 then .tMovImm (.read h) else if op = 0b01#2 then .tCmpImm (.read h)
  else if op = 0b10#2 then .tAddImm8 (.read h) else .tSubImm8 (.read h)

/-- Bits 15:10 = 010001: format 5. -/
def decodeThumbHi (h : Half) : Instr :=
  let op := fld h 8 2
  if op = 0b00#2 then .tAddHi (.read h) else if op = 0b01#2 then .tCmpHi (.read h)
  else if op = 0b10#2 then .tMovHi (.read h)
  else if fld h 7 1 = 0b0#1 then .tBx (.read h) else .tBlxReg (.read h)

/-- Bits 15:12 = 0101: formats 7 and 8. -/
def decodeThumb0101 (h : Half) : Instr :=
  let op := fld h 9 3
  if op = 0b000#3 then .tStrReg (.read h) else if op = 0b001#3 then .tStrhReg (.read h)
  else if op = 0b010#3 then .tStrbReg (.read h) else if op = 0b011#3 then .tLdrsbReg (.read h)
  else if op = 0b100#3 then .tLdrReg (.read h) else if op = 0b101#3 then .tLdrhReg (.read h)
  else if op = 0b110#3 then .tLdrbReg (.read h) else .tLdrshReg (.read h)

/-- Bits 15:13 = 010. -/
def decodeThumb010 (h : Half) : Instr :=
  if fld h 12 1 = 0b1#1 then decodeThumb0101 h
  else if fld h 11 1 = 0b1#1 then .tLdrPc (.read h)
  else if fld h 10 1 = 0b0#1 then decodeThumbAlu h
  else decodeThumbHi h

/-- Bits 15:13 = 011: format 9. -/
def decodeThumb011 (h : Half) : Instr :=
  let op := fld h 11 2
  if op = 0b00#2 then .tStrImm (.read h) else if op = 0b01#2 then .tLdrImm (.read h)
  else if op = 0b10#2 then .tStrbImm (.read h) else .tLdrbImm (.read h)

/-- Bits 15:13 = 100: formats 10 and 11. -/
def decodeThumb100 (h : Half) : Instr :=
  let op := fld h 11 2
  if op = 0b00#2 then .tStrhImm (.read h) else if op = 0b01#2 then .tLdrhImm (.read h)
  else if op = 0b10#2 then .tStrSp (.read h) else .tLdrSp (.read h)

/-- Bits 15:13 = 101: formats 12, 13, 14 and BKPT. -/
def decodeThumb101 (h : Half) : Except Reject Instr :=
  if fld h 12 1 = 0b0#1 then
    if fld h 11 1 = 0b0#1 then .ok (.tAddPc (.read h)) else .ok (.tAddSp (.read h))
  else if fld h 8 4 = 0b0000#4 then
    if fld h 7 1 = 0b0#1 then .ok (.tIncSp (.read h)) else .ok (.tDecSp (.read h))
  else if fld h 9 2 = 0b10#2 then
    if fld h 11 1 = 0b0#1 then .ok (.tPush (.read h)) else .ok (.tPop (.read h))
  else if fld h 8 4 = 0b1110#4 then .ok (.tBkpt (.read h))
  else .error .thumbMisc

/-- Bits 15:13 = 110: formats 15, 16 and 17. -/
def decodeThumb110 (h : Half) : Except Reject Instr :=
  if fld h 12 1 = 0b0#1 then
    if fld h 11 1 = 0b0#1 then .ok (.tStmia (.read h)) else .ok (.tLdmia (.read h))
  else
    match Cond.ofBits (fld h 8 4) with
    | none => .ok (.tSwi (.read h))
    | some c => if c = .al then .error .thumbCond else .ok (.tBCond (.read c h))

/-- Bits 15:13 = 111: formats 18 and 19. -/
def decodeThumb111 (h : Half) : Except Reject Instr :=
  let op := fld h 11 2
  if op = 0b00#2 then .ok (.tB (.read h))
  else if op = 0b10#2 then .ok (.tBlPrefix (.read h))
  else if op = 0b11#2 then .ok (.tBlSuffix (.read h))
  else if fld h 0 1 = 0b0#1 then .ok (.tBlxSuffix (.read h)) else .error .thumbSuffix

/-- Every 16-bit Thumb halfword (R135, R439). -/
def decodeThumb (h : Half) : Except Reject Instr :=
  let k := fld h 13 3
  if k = 0b000#3 then .ok (decodeThumb000 h)
  else if k = 0b001#3 then .ok (decodeThumb001 h)
  else if k = 0b010#3 then .ok (decodeThumb010 h)
  else if k = 0b011#3 then .ok (decodeThumb011 h)
  else if k = 0b100#3 then .ok (decodeThumb100 h)
  else if k = 0b101#3 then decodeThumb101 h
  else if k = 0b110#3 then decodeThumb110 h
  else decodeThumb111 h

/-! ### The encoder: the bit patterns of spec/30_encoding.md, most significant field first -/

/-- Bits of Mrs. -/
def MrsOps.word (o : MrsOps) : BitVec 32 :=
  o.cond.bits ++ 0b00010#5 ++ bit o.spsr ++ 0b00#2 ++ 0b1111#4 ++ o.rd ++ 0x000#12

/-- Bits of MsrReg. -/
def MsrRegOps.word (o : MsrRegOps) : BitVec 32 :=
  o.cond.bits ++ 0b00010#5 ++ bit o.spsr ++ 0b10#2 ++ o.mask ++ 0b1111#4 ++ 0x00#8 ++ o.rm

/-- Bits of MsrImm. -/
def MsrImmOps.word (o : MsrImmOps) : BitVec 32 :=
  o.cond.bits ++ 0b00110#5 ++ bit o.spsr ++ 0b10#2 ++ o.mask ++ 0b1111#4 ++ o.rot ++ o.imm8

/-- Bits of Bx. -/
def BxOps.word (op : BitVec 4) (o : BxOps) : BitVec 32 :=
  o.cond.bits ++ 0b00010010#8 ++ 0xFFF#12 ++ op ++ o.rm

/-- Bits of Clz. -/
def ClzOps.word (o : ClzOps) : BitVec 32 :=
  o.cond.bits ++ 0b00010110#8 ++ 0b1111#4 ++ o.rd ++ 0b1111#4 ++ 0b0001#4 ++ o.rm

/-- Bits of Q. -/
def QOps.word (op : BitVec 2) (o : QOps) : BitVec 32 :=
  o.cond.bits ++ 0b00010#5 ++ op ++ 0b0#1 ++ o.rn ++ o.rd ++ 0x05#8 ++ o.rm

/-- Bits of Bkpt. -/
def BkptOps.word (o : BkptOps) : BitVec 32 :=
  0b1110#4 ++ 0b00010010#8 ++ o.imm16.extractLsb' 4 12 ++ 0b0111#4 ++ o.imm16.extractLsb' 0 4

/-- Bits of SmlaXy. -/
def SmlaXyOps.word (o : SmlaXyOps) : BitVec 32 :=
  o.cond.bits ++ 0b00010000#8 ++ o.rd ++ o.rn ++ o.rs ++
    0b1#1 ++ bit o.y ++ bit o.x ++ 0b0#1 ++ o.rm

/-- Bits of SmlaW. -/
def SmlaWOps.word (o : SmlaWOps) : BitVec 32 :=
  o.cond.bits ++ 0b00010010#8 ++ o.rd ++ o.rn ++ o.rs ++ 0b1#1 ++ bit o.y ++ 0b00#2 ++ o.rm

/-- Bits of SmulW. -/
def SmulWOps.word (o : SmulWOps) : BitVec 32 :=
  o.cond.bits ++ 0b00010010#8 ++ o.rd ++ 0b0000#4 ++ o.rs ++
    0b1#1 ++ bit o.y ++ 0b10#2 ++ o.rm

/-- Bits of SmlalXy. -/
def SmlalXyOps.word (o : SmlalXyOps) : BitVec 32 :=
  o.cond.bits ++ 0b00010100#8 ++ o.rdHi ++ o.rdLo ++ o.rs ++
    0b1#1 ++ bit o.y ++ bit o.x ++ 0b0#1 ++ o.rm

/-- Bits of SmulXy. -/
def SmulXyOps.word (o : SmulXyOps) : BitVec 32 :=
  o.cond.bits ++ 0b00010110#8 ++ o.rd ++ 0b0000#4 ++ o.rs ++
    0b1#1 ++ bit o.y ++ bit o.x ++ 0b0#1 ++ o.rm

/-- Bits of Mul. -/
def MulOps.word (o : MulOps) : BitVec 32 :=
  o.cond.bits ++ 0b0000000#7 ++ bit o.s ++ o.rd ++ 0b0000#4 ++ o.rs ++ 0b1001#4 ++ o.rm

/-- Bits of Mla. -/
def MlaOps.word (o : MlaOps) : BitVec 32 :=
  o.cond.bits ++ 0b0000001#7 ++ bit o.s ++ o.rd ++ o.rn ++ o.rs ++ 0b1001#4 ++ o.rm

/-- Bits of Mull. -/
def MullOps.word (op : BitVec 2) (o : MullOps) : BitVec 32 :=
  o.cond.bits ++ 0b00001#5 ++ op ++ bit o.s ++ o.rdHi ++ o.rdLo ++ o.rs ++ 0b1001#4 ++ o.rm

/-- Bits of Swp. -/
def SwpOps.word (b : BitVec 1) (o : SwpOps) : BitVec 32 :=
  o.cond.bits ++ 0b00010#5 ++ b ++ 0b00#2 ++ o.rn ++ o.rd ++ 0b0000#4 ++ 0b1001#4 ++ o.rm

/-- Bits of ExtImm. -/
def ExtImmOps.word (l : BitVec 1) (sh : BitVec 2) (o : ExtImmOps) : BitVec 32 :=
  o.cond.bits ++ 0b000#3 ++ bit o.p ++ bit o.u ++ 0b1#1 ++ bit o.w ++ l ++
    o.rn ++ o.rd ++ o.imm8.extractLsb' 4 4 ++ 0b1#1 ++ sh ++ 0b1#1 ++ o.imm8.extractLsb' 0 4

/-- Bits of ExtReg. -/
def ExtRegOps.word (l : BitVec 1) (sh : BitVec 2) (o : ExtRegOps) : BitVec 32 :=
  o.cond.bits ++ 0b000#3 ++ bit o.p ++ bit o.u ++ 0b0#1 ++ bit o.w ++ l ++
    o.rn ++ o.rd ++ 0b0000#4 ++ 0b1#1 ++ sh ++ 0b1#1 ++ o.rm

/-- Bits of AluImm. -/
def AluImmOps.word (op : BitVec 4) (o : AluImmOps) : BitVec 32 :=
  o.cond.bits ++ 0b001#3 ++ op ++ bit o.s ++ o.rn ++ o.rd ++ o.rot ++ o.imm8

/-- Bits of AluShift. -/
def AluShiftOps.word (op : BitVec 4) (o : AluShiftOps) : BitVec 32 :=
  o.cond.bits ++ 0b000#3 ++ op ++ bit o.s ++ o.rn ++
    o.rd ++ o.amount ++ o.ty.bits ++ 0b0#1 ++ o.rm

/-- Bits of AluReg. -/
def AluRegOps.word (op : BitVec 4) (o : AluRegOps) : BitVec 32 :=
  o.cond.bits ++ 0b000#3 ++ op ++ bit o.s ++ o.rn ++ o.rd ++
    o.rs ++ 0b0#1 ++ o.ty.bits ++ 0b1#1 ++ o.rm

/-- Bits of CmpImm. -/
def CmpImmOps.word (op : BitVec 4) (o : CmpImmOps) : BitVec 32 :=
  o.cond.bits ++ 0b001#3 ++ op ++ 0b1#1 ++ o.rn ++ 0b0000#4 ++ o.rot ++ o.imm8

/-- Bits of CmpShift. -/
def CmpShiftOps.word (op : BitVec 4) (o : CmpShiftOps) : BitVec 32 :=
  o.cond.bits ++ 0b000#3 ++ op ++ 0b1#1 ++ o.rn ++
    0b0000#4 ++ o.amount ++ o.ty.bits ++ 0b0#1 ++ o.rm

/-- Bits of CmpReg. -/
def CmpRegOps.word (op : BitVec 4) (o : CmpRegOps) : BitVec 32 :=
  o.cond.bits ++ 0b000#3 ++ op ++ 0b1#1 ++ o.rn ++ 0b0000#4 ++
    o.rs ++ 0b0#1 ++ o.ty.bits ++ 0b1#1 ++ o.rm

/-- Bits of MovImm. -/
def MovImmOps.word (op : BitVec 4) (o : MovImmOps) : BitVec 32 :=
  o.cond.bits ++ 0b001#3 ++ op ++ bit o.s ++ 0b0000#4 ++ o.rd ++ o.rot ++ o.imm8

/-- Bits of MovShift. -/
def MovShiftOps.word (op : BitVec 4) (o : MovShiftOps) : BitVec 32 :=
  o.cond.bits ++ 0b000#3 ++ op ++ bit o.s ++ 0b0000#4 ++
    o.rd ++ o.amount ++ o.ty.bits ++ 0b0#1 ++ o.rm

/-- Bits of MovReg. -/
def MovRegOps.word (op : BitVec 4) (o : MovRegOps) : BitVec 32 :=
  o.cond.bits ++ 0b000#3 ++ op ++ bit o.s ++ 0b0000#4 ++ o.rd ++
    o.rs ++ 0b0#1 ++ o.ty.bits ++ 0b1#1 ++ o.rm

/-- Bits of MemImmPre. -/
def MemImmPreOps.word (b : BitVec 1) (l : BitVec 1) (o : MemImmPreOps) : BitVec 32 :=
  o.cond.bits ++ 0b0101#4 ++ bit o.u ++ b ++ bit o.w ++ l ++ o.rn ++ o.rd ++ o.imm12

/-- Bits of MemImmPost. -/
def MemImmPostOps.word (b : BitVec 1) (t : BitVec 1) (l : BitVec 1) (o : MemImmPostOps) : BitVec 32 :=
  o.cond.bits ++ 0b0100#4 ++ bit o.u ++ b ++ t ++ l ++ o.rn ++ o.rd ++ o.imm12

/-- Bits of MemRegPre. -/
def MemRegPreOps.word (b : BitVec 1) (l : BitVec 1) (o : MemRegPreOps) : BitVec 32 :=
  o.cond.bits ++ 0b0111#4 ++ bit o.u ++ b ++ bit o.w ++ l ++
    o.rn ++ o.rd ++ o.amount ++ o.ty.bits ++ 0b0#1 ++ o.rm

/-- Bits of MemRegPost. -/
def MemRegPostOps.word (b : BitVec 1) (t : BitVec 1) (l : BitVec 1) (o : MemRegPostOps) : BitVec 32 :=
  o.cond.bits ++ 0b0110#4 ++ bit o.u ++ b ++ t ++ l ++
    o.rn ++ o.rd ++ o.amount ++ o.ty.bits ++ 0b0#1 ++ o.rm

/-- Bits of PldImm. -/
def PldImmOps.word (o : PldImmOps) : BitVec 32 :=
  0b11110101#8 ++ bit o.u ++ 0b101#3 ++ o.rn ++ 0b1111#4 ++ o.imm12

/-- Bits of PldReg. -/
def PldRegOps.word (o : PldRegOps) : BitVec 32 :=
  0b11110111#8 ++ bit o.u ++ 0b101#3 ++ o.rn ++ 0b1111#4 ++
    o.amount ++ o.ty.bits ++ 0b0#1 ++ o.rm

/-- Bits of Ldm. -/
def LdmOps.word (s : BitVec 1) (l : BitVec 1) (o : LdmOps) : BitVec 32 :=
  o.cond.bits ++ 0b100#3 ++ bit o.p ++ bit o.u ++ s ++ bit o.w ++ l ++ o.rn ++ o.list

/-- Bits of Ldm15. -/
def Ldm15Ops.word (top : BitVec 1) (o : Ldm15Ops) : BitVec 32 :=
  o.cond.bits ++ 0b100#3 ++ bit o.p ++ bit o.u ++ 0b1#1 ++
    bit o.w ++ 0b1#1 ++ o.rn ++ top ++ o.list

/-- Bits of Branch. -/
def BranchOps.word (l : BitVec 1) (o : BranchOps) : BitVec 32 :=
  o.cond.bits ++ 0b101#3 ++ l ++ o.imm24

/-- Bits of BlxImm. -/
def BlxImmOps.word (o : BlxImmOps) : BitVec 32 :=
  0b1111101#7 ++ bit o.h ++ o.imm24

/-- Bits of Cdp. -/
def CdpOps.word (o : CdpOps) : BitVec 32 :=
  o.cond.bits ++ 0b1110#4 ++ o.op1 ++ o.crn ++ o.crd ++ o.cp ++ o.op2 ++ 0b0#1 ++ o.crm

/-- Bits of Mcr. -/
def McrOps.word (l : BitVec 1) (o : McrOps) : BitVec 32 :=
  o.cond.bits ++ 0b1110#4 ++ o.op1 ++ l ++ o.crn ++ o.rd ++ o.cp ++ o.op2 ++ 0b1#1 ++ o.crm

/-- Bits of Ldc. -/
def LdcOps.word (l : BitVec 1) (o : LdcOps) : BitVec 32 :=
  o.cond.bits ++ 0b110#3 ++ bit o.p ++ bit o.u ++ bit o.n ++ bit o.w ++
    l ++ o.rn ++ o.crd ++ o.cp ++ o.imm8

/-- Bits of Cdp2. -/
def Cdp2Ops.word (o : Cdp2Ops) : BitVec 32 :=
  0b11111110#8 ++ o.op1 ++ o.crn ++ o.crd ++ o.cp ++ o.op2 ++ 0b0#1 ++ o.crm

/-- Bits of Mcr2. -/
def Mcr2Ops.word (l : BitVec 1) (o : Mcr2Ops) : BitVec 32 :=
  0b11111110#8 ++ o.op1 ++ l ++ o.crn ++ o.rd ++ o.cp ++ o.op2 ++ 0b1#1 ++ o.crm

/-- Bits of Ldc2. -/
def Ldc2Ops.word (l : BitVec 1) (o : Ldc2Ops) : BitVec 32 :=
  0b1111110#7 ++ bit o.p ++ bit o.u ++ bit o.n ++ bit o.w ++
    l ++ o.rn ++ o.crd ++ o.cp ++ o.imm8

/-- Bits of Mcrr. -/
def McrrOps.word (l : BitVec 1) (o : McrrOps) : BitVec 32 :=
  o.cond.bits ++ 0b1100010#7 ++ l ++ o.rn ++ o.rd ++ o.cp ++ o.op1 ++ o.crm

/-- Bits of Swi. -/
def SwiOps.word (o : SwiOps) : BitVec 32 :=
  o.cond.bits ++ 0b1111#4 ++ o.imm24

/-- Bits of TShiftImm. -/
def TShiftImmOps.word (op : BitVec 2) (o : TShiftImmOps) : BitVec 16 :=
  0b000#3 ++ op ++ o.imm5 ++ o.rs ++ o.rd

/-- Bits of TAdd3. -/
def TAdd3Ops.word (op : BitVec 1) (o : TAdd3Ops) : BitVec 16 :=
  0b000110#6 ++ op ++ o.rn ++ o.rs ++ o.rd

/-- Bits of TAddImm3. -/
def TAddImm3Ops.word (op : BitVec 1) (o : TAddImm3Ops) : BitVec 16 :=
  0b000111#6 ++ op ++ o.imm3 ++ o.rs ++ o.rd

/-- Bits of TRdImm8. -/
def TRdImm8Ops.word (op : BitVec 5) (o : TRdImm8Ops) : BitVec 16 :=
  op ++ o.rd ++ o.imm8

/-- Bits of TAlu. -/
def TAluOps.word (op : BitVec 4) (o : TAluOps) : BitVec 16 :=
  0b010000#6 ++ op ++ o.rs ++ o.rd

/-- Bits of THi. -/
def THiOps.word (op : BitVec 2) (o : THiOps) : BitVec 16 :=
  0b010001#6 ++ op ++ o.rd.extractLsb' 3 1 ++ o.rm ++ o.rd.extractLsb' 0 3

/-- Bits of TBx. -/
def TBxOps.word (h1 : BitVec 1) (o : TBxOps) : BitVec 16 :=
  0b01000111#8 ++ h1 ++ o.rm ++ 0b000#3

/-- Bits of TMemReg. -/
def TMemRegOps.word (op : BitVec 3) (o : TMemRegOps) : BitVec 16 :=
  0b0101#4 ++ op ++ o.ro ++ o.rb ++ o.rd

/-- Bits of TMemImm. -/
def TMemImmOps.word (op : BitVec 5) (o : TMemImmOps) : BitVec 16 :=
  op ++ o.imm5 ++ o.rb ++ o.rd

/-- Bits of TSpImm. -/
def TSpImmOps.word (s : BitVec 1) (o : TSpImmOps) : BitVec 16 :=
  0b10110000#8 ++ s ++ o.imm7

/-- Bits of TStack. -/
def TStackOps.word (l : BitVec 1) (o : TStackOps) : BitVec 16 :=
  0b1011#4 ++ l ++ 0b10#2 ++ bit o.extra ++ o.list

/-- Bits of TComment. -/
def TCommentOps.word (op : BitVec 8) (o : TCommentOps) : BitVec 16 :=
  op ++ o.imm8

/-- Bits of TMulti. -/
def TMultiOps.word (l : BitVec 1) (o : TMultiOps) : BitVec 16 :=
  0b1100#4 ++ l ++ o.rb ++ o.list

/-- Bits of TCondBranch. -/
def TCondBranchOps.word (o : TCondBranchOps) : BitVec 16 :=
  0b1101#4 ++ o.cond.bits ++ o.imm8

/-- Bits of TBranch. -/
def TBranchOps.word (op : BitVec 5) (o : TBranchOps) : BitVec 16 :=
  op ++ o.imm11

/-- Bits of TBlxSuffix. -/
def TBlxSuffixOps.word (o : TBlxSuffixOps) : BitVec 16 :=
  0b11101#5 ++ o.imm10 ++ 0b0#1

/-- The encoding of an instruction: one 32-bit ARM word or one 16-bit Thumb halfword (R110). -/
inductive Code where
  | arm (w : Word)
  | thumb (h : Half)
  deriving DecidableEq, Repr

/-- The words of an instruction, from the encoding tables (R111 to R128, R135). -/
def encode : Instr → Code
  | .mrs o => .arm (o.word)
  | .msrReg o => .arm (o.word)
  | .msrImm o => .arm (o.word)
  | .bx o => .arm (o.word 0b0001#4)
  | .blxReg o => .arm (o.word 0b0011#4)
  | .clz o => .arm (o.word)
  | .qadd o => .arm (o.word 0b00#2)
  | .qsub o => .arm (o.word 0b01#2)
  | .qdadd o => .arm (o.word 0b10#2)
  | .qdsub o => .arm (o.word 0b11#2)
  | .bkpt o => .arm (o.word)
  | .smlaXy o => .arm (o.word)
  | .smlaW o => .arm (o.word)
  | .smulW o => .arm (o.word)
  | .smlalXy o => .arm (o.word)
  | .smulXy o => .arm (o.word)
  | .mul o => .arm (o.word)
  | .mla o => .arm (o.word)
  | .umull o => .arm (o.word 0b00#2)
  | .umlal o => .arm (o.word 0b01#2)
  | .smull o => .arm (o.word 0b10#2)
  | .smlal o => .arm (o.word 0b11#2)
  | .swp o => .arm (o.word 0b0#1)
  | .swpb o => .arm (o.word 0b1#1)
  | .strhImm o => .arm (o.word 0b0#1 0b01#2)
  | .strhReg o => .arm (o.word 0b0#1 0b01#2)
  | .ldrhImm o => .arm (o.word 0b1#1 0b01#2)
  | .ldrhReg o => .arm (o.word 0b1#1 0b01#2)
  | .ldrsbImm o => .arm (o.word 0b1#1 0b10#2)
  | .ldrsbReg o => .arm (o.word 0b1#1 0b10#2)
  | .ldrshImm o => .arm (o.word 0b1#1 0b11#2)
  | .ldrshReg o => .arm (o.word 0b1#1 0b11#2)
  | .ldrdImm o => .arm (o.word 0b0#1 0b10#2)
  | .ldrdReg o => .arm (o.word 0b0#1 0b10#2)
  | .strdImm o => .arm (o.word 0b0#1 0b11#2)
  | .strdReg o => .arm (o.word 0b0#1 0b11#2)
  | .andImm o => .arm (o.word 0b0000#4)
  | .andShift o => .arm (o.word 0b0000#4)
  | .andReg o => .arm (o.word 0b0000#4)
  | .eorImm o => .arm (o.word 0b0001#4)
  | .eorShift o => .arm (o.word 0b0001#4)
  | .eorReg o => .arm (o.word 0b0001#4)
  | .subImm o => .arm (o.word 0b0010#4)
  | .subShift o => .arm (o.word 0b0010#4)
  | .subReg o => .arm (o.word 0b0010#4)
  | .rsbImm o => .arm (o.word 0b0011#4)
  | .rsbShift o => .arm (o.word 0b0011#4)
  | .rsbReg o => .arm (o.word 0b0011#4)
  | .addImm o => .arm (o.word 0b0100#4)
  | .addShift o => .arm (o.word 0b0100#4)
  | .addReg o => .arm (o.word 0b0100#4)
  | .adcImm o => .arm (o.word 0b0101#4)
  | .adcShift o => .arm (o.word 0b0101#4)
  | .adcReg o => .arm (o.word 0b0101#4)
  | .sbcImm o => .arm (o.word 0b0110#4)
  | .sbcShift o => .arm (o.word 0b0110#4)
  | .sbcReg o => .arm (o.word 0b0110#4)
  | .rscImm o => .arm (o.word 0b0111#4)
  | .rscShift o => .arm (o.word 0b0111#4)
  | .rscReg o => .arm (o.word 0b0111#4)
  | .tstImm o => .arm (o.word 0b1000#4)
  | .tstShift o => .arm (o.word 0b1000#4)
  | .tstReg o => .arm (o.word 0b1000#4)
  | .teqImm o => .arm (o.word 0b1001#4)
  | .teqShift o => .arm (o.word 0b1001#4)
  | .teqReg o => .arm (o.word 0b1001#4)
  | .cmpImm o => .arm (o.word 0b1010#4)
  | .cmpShift o => .arm (o.word 0b1010#4)
  | .cmpReg o => .arm (o.word 0b1010#4)
  | .cmnImm o => .arm (o.word 0b1011#4)
  | .cmnShift o => .arm (o.word 0b1011#4)
  | .cmnReg o => .arm (o.word 0b1011#4)
  | .orrImm o => .arm (o.word 0b1100#4)
  | .orrShift o => .arm (o.word 0b1100#4)
  | .orrReg o => .arm (o.word 0b1100#4)
  | .movImm o => .arm (o.word 0b1101#4)
  | .movShift o => .arm (o.word 0b1101#4)
  | .movReg o => .arm (o.word 0b1101#4)
  | .bicImm o => .arm (o.word 0b1110#4)
  | .bicShift o => .arm (o.word 0b1110#4)
  | .bicReg o => .arm (o.word 0b1110#4)
  | .mvnImm o => .arm (o.word 0b1111#4)
  | .mvnShift o => .arm (o.word 0b1111#4)
  | .mvnReg o => .arm (o.word 0b1111#4)
  | .ldrImmPre o => .arm (o.word 0b0#1 0b1#1)
  | .ldrImmPost o => .arm (o.word 0b0#1 0b0#1 0b1#1)
  | .ldrtImm o => .arm (o.word 0b0#1 0b1#1 0b1#1)
  | .ldrRegPre o => .arm (o.word 0b0#1 0b1#1)
  | .ldrRegPost o => .arm (o.word 0b0#1 0b0#1 0b1#1)
  | .ldrtReg o => .arm (o.word 0b0#1 0b1#1 0b1#1)
  | .ldrbImmPre o => .arm (o.word 0b1#1 0b1#1)
  | .ldrbImmPost o => .arm (o.word 0b1#1 0b0#1 0b1#1)
  | .ldrbtImm o => .arm (o.word 0b1#1 0b1#1 0b1#1)
  | .ldrbRegPre o => .arm (o.word 0b1#1 0b1#1)
  | .ldrbRegPost o => .arm (o.word 0b1#1 0b0#1 0b1#1)
  | .ldrbtReg o => .arm (o.word 0b1#1 0b1#1 0b1#1)
  | .strImmPre o => .arm (o.word 0b0#1 0b0#1)
  | .strImmPost o => .arm (o.word 0b0#1 0b0#1 0b0#1)
  | .strtImm o => .arm (o.word 0b0#1 0b1#1 0b0#1)
  | .strRegPre o => .arm (o.word 0b0#1 0b0#1)
  | .strRegPost o => .arm (o.word 0b0#1 0b0#1 0b0#1)
  | .strtReg o => .arm (o.word 0b0#1 0b1#1 0b0#1)
  | .strbImmPre o => .arm (o.word 0b1#1 0b0#1)
  | .strbImmPost o => .arm (o.word 0b1#1 0b0#1 0b0#1)
  | .strbtImm o => .arm (o.word 0b1#1 0b1#1 0b0#1)
  | .strbRegPre o => .arm (o.word 0b1#1 0b0#1)
  | .strbRegPost o => .arm (o.word 0b1#1 0b0#1 0b0#1)
  | .strbtReg o => .arm (o.word 0b1#1 0b1#1 0b0#1)
  | .pldImm o => .arm (o.word)
  | .pldReg o => .arm (o.word)
  | .ldm1 o => .arm (o.word 0b0#1 0b1#1)
  | .ldm2 o => .arm (o.word 0b0#1)
  | .ldm3 o => .arm (o.word 0b1#1)
  | .stm1 o => .arm (o.word 0b0#1 0b0#1)
  | .stm2 o => .arm (o.word 0b1#1 0b0#1)
  | .b o => .arm (o.word 0b0#1)
  | .bl o => .arm (o.word 0b1#1)
  | .blxImm o => .arm (o.word)
  | .cdp o => .arm (o.word)
  | .mcr o => .arm (o.word 0b0#1)
  | .mrc o => .arm (o.word 0b1#1)
  | .ldc o => .arm (o.word 0b1#1)
  | .stc o => .arm (o.word 0b0#1)
  | .cdp2 o => .arm (o.word)
  | .mcr2 o => .arm (o.word 0b0#1)
  | .mrc2 o => .arm (o.word 0b1#1)
  | .ldc2 o => .arm (o.word 0b1#1)
  | .stc2 o => .arm (o.word 0b0#1)
  | .mcrr o => .arm (o.word 0b0#1)
  | .mrrc o => .arm (o.word 0b1#1)
  | .swi o => .arm (o.word)
  | .tLslImm o => .thumb (o.word 0b00#2)
  | .tLsrImm o => .thumb (o.word 0b01#2)
  | .tAsrImm o => .thumb (o.word 0b10#2)
  | .tAddReg o => .thumb (o.word 0b0#1)
  | .tSubReg o => .thumb (o.word 0b1#1)
  | .tAddImm3 o => .thumb (o.word 0b0#1)
  | .tSubImm3 o => .thumb (o.word 0b1#1)
  | .tMovImm o => .thumb (o.word 0b00100#5)
  | .tCmpImm o => .thumb (o.word 0b00101#5)
  | .tAddImm8 o => .thumb (o.word 0b00110#5)
  | .tSubImm8 o => .thumb (o.word 0b00111#5)
  | .tAnd o => .thumb (o.word 0b0000#4)
  | .tEor o => .thumb (o.word 0b0001#4)
  | .tLslReg o => .thumb (o.word 0b0010#4)
  | .tLsrReg o => .thumb (o.word 0b0011#4)
  | .tAsrReg o => .thumb (o.word 0b0100#4)
  | .tAdc o => .thumb (o.word 0b0101#4)
  | .tSbc o => .thumb (o.word 0b0110#4)
  | .tRor o => .thumb (o.word 0b0111#4)
  | .tTst o => .thumb (o.word 0b1000#4)
  | .tNeg o => .thumb (o.word 0b1001#4)
  | .tCmpLow o => .thumb (o.word 0b1010#4)
  | .tCmn o => .thumb (o.word 0b1011#4)
  | .tOrr o => .thumb (o.word 0b1100#4)
  | .tMul o => .thumb (o.word 0b1101#4)
  | .tBic o => .thumb (o.word 0b1110#4)
  | .tMvn o => .thumb (o.word 0b1111#4)
  | .tAddHi o => .thumb (o.word 0b00#2)
  | .tCmpHi o => .thumb (o.word 0b01#2)
  | .tMovHi o => .thumb (o.word 0b10#2)
  | .tBx o => .thumb (o.word 0b0#1)
  | .tBlxReg o => .thumb (o.word 0b1#1)
  | .tLdrPc o => .thumb (o.word 0b01001#5)
  | .tStrReg o => .thumb (o.word 0b000#3)
  | .tStrhReg o => .thumb (o.word 0b001#3)
  | .tStrbReg o => .thumb (o.word 0b010#3)
  | .tLdrsbReg o => .thumb (o.word 0b011#3)
  | .tLdrReg o => .thumb (o.word 0b100#3)
  | .tLdrhReg o => .thumb (o.word 0b101#3)
  | .tLdrbReg o => .thumb (o.word 0b110#3)
  | .tLdrshReg o => .thumb (o.word 0b111#3)
  | .tStrImm o => .thumb (o.word 0b01100#5)
  | .tLdrImm o => .thumb (o.word 0b01101#5)
  | .tStrbImm o => .thumb (o.word 0b01110#5)
  | .tLdrbImm o => .thumb (o.word 0b01111#5)
  | .tStrhImm o => .thumb (o.word 0b10000#5)
  | .tLdrhImm o => .thumb (o.word 0b10001#5)
  | .tStrSp o => .thumb (o.word 0b10010#5)
  | .tLdrSp o => .thumb (o.word 0b10011#5)
  | .tAddPc o => .thumb (o.word 0b10100#5)
  | .tAddSp o => .thumb (o.word 0b10101#5)
  | .tIncSp o => .thumb (o.word 0b0#1)
  | .tDecSp o => .thumb (o.word 0b1#1)
  | .tPush o => .thumb (o.word 0b0#1)
  | .tPop o => .thumb (o.word 0b1#1)
  | .tBkpt o => .thumb (o.word 0b10111110#8)
  | .tStmia o => .thumb (o.word 0b0#1)
  | .tLdmia o => .thumb (o.word 0b1#1)
  | .tBCond o => .thumb (o.word)
  | .tSwi o => .thumb (o.word 0b11011111#8)
  | .tB o => .thumb (o.word 0b11100#5)
  | .tBlPrefix o => .thumb (o.word 0b11110#5)
  | .tBlSuffix o => .thumb (o.word 0b11111#5)
  | .tBlxSuffix o => .thumb (o.word)

/-- Decode a word in the state it belongs to (R110). -/
def decode : Code → Except Reject Instr
  | .arm w => decodeArm w
  | .thumb h => decodeThumb h

/-- The instruction this decoder reads from a row's word: 16 bits are one Thumb halfword, 32 bits one ARM word
(spec/opcode_table.json's numbering; the core stores each whole, R62). -/
def decodeTableWord (nbits w : Nat) : Option Instr :=
  if nbits = 16 then (decodeThumb (BitVec.ofNat 16 w)).toOption
  else if nbits = 32 then (decodeArm (BitVec.ofNat 32 w)).toOption
  else none

end Sys2Proof
end

