-- ==== Sys2Proof/Machine/State.lean ====
section
/-! DEFINITION. The state of the ARM9E-S r2p1 as plain data (spec/10_state.md), the ways a step stops, and the
state right after full system reset (R56, R57). Accessors stand in Bits.lean, Ice.lean and Ops.lean. -/

namespace Sys2Proof.Machine

/-- The seven processor modes (R19). -/
inductive Mode where
  | usr | fiq | irq | svc | abt | und | sys
  deriving DecidableEq, Repr

/-- The exceptions taken by R460 (R450); reset is not one of them (R464). -/
inductive ExcKind where
  | undefined | swi | prefetchAbort | dataAbort | irq | fiq
  deriving DecidableEq, Repr

/-- The three transfer sizes of `DMAS` (R85). -/
inductive Size where
  | byte | half | word
  deriving DecidableEq, Repr

/-- What an access is, as the abort oracle of D10 sees it. -/
inductive Access where
  | fetch | read | write
  deriving DecidableEq, Repr

/-- One rule of the abort oracle (D10): the accesses it aborts. An empty list admits every value. -/
structure AbortRule where
  /-- first and last byte address -/
  lo : Nat
  hi : Nat
  accesses : List Access
  sizes : List Size
  /-- values of `InTRANS`/`DnTRANS` (true: privileged) -/
  privileged : List Bool
  /-- values of `InM`/`DnM`, the inverted mode bits (R80) -/
  modeBits : List (BitVec 5)
  deriving DecidableEq, Repr

/-- A window of the memory map that is not RAM (R68, D9): absent, or a device the spec does not describe. -/
structure Window where
  lo : Nat
  hi : Nat
  device : Bool
  deriving DecidableEq, Repr

/-- The static inputs (R8, R605) and the parameters the hardware leaves to its surroundings (R9). -/
structure Cfg where
  bigEnd : Bool
  hiVecs : Bool
  disLTbit : Bool
  thumb32 : Bool
  dbgen : Bool
  tapId : Word
  /-- STORE_PC_OFFSET is 12, else 8 (R262, D21) -/
  storePc12 : Bool
  aborts : List AbortRule
  windows : List Window
  /-- SPLIT_MEMORY (D2): fetches read the instruction array, not what the data interface reaches -/
  split : Bool
  /-- with split memories, the data addresses, first to last, that reach the instruction array too (R61) -/
  codeWindows : List (Nat × Nat)
  /-- the memory system performs the write of a swap whose read aborted: R292's "default: … a read abort followed by a
  non-aborted write does write"; clear it for R471's row, where that write is not performed (entry 15) -/
  swapWrites : Bool
  /-- an LDRD whose second word aborts keeps the first register, as R471's table says; clear it for R249's and R272's
  "neither register is written" (entry 15) -/
  ldrdKeeps : Bool
  /-- the instruction after a watchpointed access completes before the entry, as R563 and R581 quote; clear it for R329's
  "the instruction after … an access that hit a watchpoint, is never executed architecturally" (entry 19) -/
  watchRuns : Bool
  deriving DecidableEq, Repr

/-- The levels of the input pins at one boundary (R55, D11); names in n are active LOW. -/
structure Pins where
  nFIQ : Bool
  nIRQ : Bool
  nRESET : Bool
  nTRST : Bool
  edbgrq : Bool
  iebkpt : Bool
  dewpt : Bool
  dbgext : BitVec 2
  deriving DecidableEq, Repr

/-- One `CLK` edge with `DBGTCKEN` HIGH: the TAP inputs (R542). -/
structure TapClock where
  tms : Bool
  tdi : Bool
  deriving DecidableEq, Repr

/-- What the environment supplies for one boundary (D11): pin levels and the TAP clocks before it. -/
structure Boundary where
  pins : Pins
  clocks : List TapClock
  deriving DecidableEq, Repr

/-- A prefetched instruction (R31): where it came from, its bits, and the class of the fetch (R77, R81). -/
structure Fetched where
  addr : Word
  bits : Word
  thumb : Bool
  /-- `IABORT` was returned for it (R82) -/
  aborted : Bool
  /-- breakpoint mark, with its method of entry (R556, R51) -/
  mark : Option (BitVec 4)
  /-- `InTRANS` of the fetch -/
  privileged : Bool
  /-- `InM` of the fetch -/
  modeBits : BitVec 5
  deriving DecidableEq, Repr

/-- One request of the instruction interface (R70 to R82): `InMREQ` LOW, with what came back on `INSTR` and
`IABORT`. Internal and cancelled cycles are not listed (R83, entry 24). -/
structure FetchCycle where
  /-- `IA` -/
  addr : Word
  /-- word or halfword (R78) -/
  size : Size
  /-- `ISEQ`: S cycle rather than N cycle (R74) -/
  seq : Bool
  /-- `ITBIT` (R77) -/
  thumb : Bool
  /-- `InTRANS` -/
  privileged : Bool
  /-- `InM` (R80) -/
  modeBits : BitVec 5
  /-- `INSTR` (R79) -/
  instr : Word
  /-- `IABORT` (R82) -/
  aborted : Bool
  deriving DecidableEq, Repr

/-- One cycle of the data interface (R84 to R97): `request` and `seq` make it an N, S, I or C cycle (R86). -/
structure BusCycle where
  addr : Word
  size : Size
  /-- `DnRW`; in a C cycle, towards the coprocessor (R95) -/
  write : Bool
  /-- `DnMREQ` LOW: a transfer of memory is requested (R86) -/
  request : Bool
  /-- `DSEQ` (R86) -/
  seq : Bool
  /-- `DMORE`: another word of the burst follows (R87, R290) -/
  more : Bool
  /-- `DnTRANS` -/
  privileged : Bool
  /-- `DnM` -/
  modeBits : BitVec 5
  /-- `DLOCK` (R97) -/
  lock : Bool
  /-- `DnSPEC` asserted in an internal cycle: no transfer (R93) -/
  spec : Bool
  /-- `DBURST` (R88) -/
  burst : BitVec 4
  /-- `WDATA` of a write; in a C cycle the word transferred, on `WDATA` or `RDATA` (R95); 0 otherwise -/
  data : Word
  deriving DecidableEq, Repr

/-- The four cycle types of the data interface (R86). -/
inductive CycleType where
  | nonsequential | sequential | internal | coprocessor
  deriving DecidableEq, Repr

/-- An external coprocessor's answer to one handshake (R324, R325): absent, one busy-wait, or accepted with
`more + 1` transfer steps (GO `more` times, then LAST) and the words it supplies. -/
inductive CpAnswer where
  | absent
  | wait
  | accept (more : Nat) (words : List Word)
  deriving DecidableEq, Repr

/-- What the core shows an external coprocessor (R322): an instruction word with its privilege, a data word, or a
word held on `IA` and `DA` for a GO cycle without a memory request (R343). -/
inductive CpEvent where
  | offered (instr : Word) (privileged : Bool)
  | received (w : Word)
  | driven (w : Word)
  deriving DecidableEq, Repr

/-- A watchpoint unit (R46 to R49). -/
structure WatchUnit where
  addrValue : Word
  addrMask : Word
  dataValue : Word
  dataMask : Word
  control : BitVec 9
  controlMask : BitVec 8
  /-- the CHAINOUT latch (R49) -/
  chainOut : Bool
  deriving DecidableEq, Repr

/-- EmbeddedICE-RT and coprocessor 14 (R40 to R52). -/
structure Ice where
  control : BitVec 6
  /-- the "disabled out of reset" latch (R50) -/
  offLatch : Bool
  /-- debug status MOE (R51) -/
  moe : BitVec 4
  /-- debug status SYSCOMP (R51) -/
  sysComp : Bool
  vectorCatch : BitVec 8
  unit0 : WatchUnit
  unit1 : WatchUnit
  dccRd : Word
  dccWr : Word
  /-- comms control W (R44) -/
  w : Bool
  /-- comms control R (R44) -/
  r : Bool
  /-- CP14 c2 bit 0 (R45) -/
  dbgAbt : Bool
  /-- the watchpoint register being written in this cycle: its unit's matches are off (R584) -/
  updating : Option (BitVec 5)
  deriving DecidableEq, Repr

/-- The sixteen TAP controller states (R545). -/
inductive TapState where
  | reset | idle
  | selectDr | captureDr | shiftDr | exit1Dr | pauseDr | exit2Dr | updateDr
  | selectIr | captureIr | shiftIr | exit1Ir | pauseIr | exit2Ir | updateIr
  deriving DecidableEq, Repr

/-- The TAP controller's registers (R53). -/
structure Tap where
  state : TapState
  ir : BitVec 4
  irShift : BitVec 4
  /-- scan path select register -/
  chain : BitVec 5
  chainShift : BitVec 5
  bypass : Bool
  idShift : Word
  scan1 : BitVec 67
  scan2 : BitVec 38
  tdo : Bool
  /-- the bits that left on DBGTDO in the last step, oldest first -/
  tdoTrace : List Bool
  deriving DecidableEq, Repr

/-- A watchpointed access on its way to debug entry (R563, R569), with its method of entry. -/
inductive Watch where
  | idle
  /-- the access is done; the next instruction still completes -/
  | hit (moe : BitVec 4)
  /-- the next instruction is a coprocessor instruction that busy-waits (R328) -/
  | waiting (moe : BitVec 4)
  /-- the next instruction is done; entry before the one after it -/
  | armed (moe : BitVec 4)
  /-- the access also aborted: entry at the abort vector -/
  | aborted (moe : BitVec 4)
  deriving DecidableEq, Repr

/-- The debug logic's hidden state inside the core (R34, R560 to R569). -/
structure Debug where
  /-- debug state (R560) -/
  active : Bool
  /-- entry cause bits of scan chain 1: SYSSPEED HIGH after a watchpoint (R551) -/
  entryWatch : Bool
  /-- WPTANDBKPT (R551) -/
  entryBoth : Bool
  /-- the instruction scanned in and not yet executed (R566) -/
  pending : Option Word
  /-- the scan after it had SYSSPEED set (R567) -/
  pendingSystem : Bool
  /-- words scanned in for the pending instruction's reads -/
  dataIn : List Word
  /-- words written by scanned instructions, not yet captured -/
  dataOut : List Word
  /-- a system speed access is being made (R567): the data interface reaches memory -/
  systemSpeed : Bool
  watch : Watch
  /-- the next fetch is an exception vector that vector catch marks (R558), or the reset vector, which it marks if bit 0
  of its register is set by then (R604) -/
  catchNext : Bool
  /-- scanned words still to be discarded: the pipeline slots behind a branch executed in debug state (R565) -/
  shadow : Nat
  deriving DecidableEq, Repr

/-- Memory: the (address, byte) pairs that differ from what an unlisted address reads as, addresses rising. -/
abbrev Memory := List Host.Cell

/-- The machine (spec/10_state.md; INVENTORY.md lists every field with its rule). -/
structure State where
  /-- the 30 banked general registers: r0 to r14 (0 to 14), r8_fiq to r14_fiq (15 to 21), then r13 and r14 of
  svc (22, 23), abt (24, 25), irq (26, 27) and und (28, 29) (R13) -/
  regs : Vector Word 30
  /-- the address of the instruction being executed (R14) -/
  pc : Word
  cpsr : Word
  spsrFiq : Word
  spsrSvc : Word
  spsrAbt : Word
  spsrIrq : Word
  spsrUnd : Word
  /-- memory as the data interface reaches it, and the instruction interface too unless `cfg.split` (R61) -/
  mem : Memory
  /-- the instruction array of a system with split memories (D2); unused otherwise -/
  imem : Memory
  /-- prefetched instructions, the next to execute first (R31) -/
  fetchQ : List Fetched
  /-- fiq_reg: the registered nFIQ is asserted (R32) -/
  fiqReg : Bool
  /-- irq_reg (R32) -/
  irqReg : Bool
  /-- the registered nRESET was LOW: reset was held at the last boundary already (R602) -/
  resetReg : Bool
  /-- the previous instruction was a user-bank LDM or STM (R283, R286) -/
  bankHazard : Bool
  /-- data-interface cycles of the last step, oldest first -/
  bus : List BusCycle
  /-- instruction-interface requests of the last step, oldest first -/
  ibus : List FetchCycle
  cfg : Cfg
  pins : Pins
  /-- the boundaries to come; when it is empty the pins keep their levels (D11) -/
  pinStream : List Boundary
  /-- the answers external coprocessors will give; empty is ABSENT (R347) -/
  cpScript : List CpAnswer
  /-- what the last step showed an external coprocessor -/
  cpEvents : List CpEvent
  ice : Ice
  tap : Tap
  dbg : Debug
  /-- the MODEL's own counter: the next free value is `Config.freeWord freeIx` (entry 11) -/
  freeIx : Nat
  deriving DecidableEq, Repr

/-- Why the model stops with a fault. -/
inductive Fault where
  /-- The step touched an address the configured memory map says is absent (R68, D9). Raised by the boundary
  after an instruction's accesses or a fetch; safe: the model stops where a system may go on (entry 10). -/
  | absentAddress
  deriving DecidableEq, Repr

/-- Why the model refuses: the spec calls the case UNPREDICTABLE or outside what it describes and permits no
total alternative (93_implementation_defined.md, entry 4). All are safe. -/
inductive Refusal where
  /-- An instruction without a meaning yet; raised by an arm of `exec` only. -/
  | notModelled (mnemonic : String)
  /-- r15 in a register field where its use is UNPREDICTABLE (93 section 2.2); raised by the meanings. -/
  | pcOperand
  /-- r15 with a register-specified shift (U22). -/
  | pcRegisterShift
  /-- Writeback to r15, or writeback with Rn = Rd or Rn = Rm (R246, R248). -/
  | writebackConflict
  /-- A word load to r15 from an unaligned address (R250). -/
  | unalignedPcLoad
  /-- BKPT with a condition other than AL (R305); raised by the boundary for a word the decoder rejects. -/
  | breakpointCondition
  /-- LDRD or STRD of r14, or LDRD with its offset register among the destinations (R272, R273). -/
  | doublewordRegister
  /-- SWP or SWPB with Rn = Rd (R292). -/
  | swapRegister
  /-- A multiple transfer with an empty list or Rn = r15 (R281). -/
  | multipleForm
  /-- A user-bank transfer with writeback, or in User or System mode (R283, R286). -/
  | userBankForm
  /-- A banked register read directly after a user-bank transfer (R283, R286). -/
  | bankedAfterUserBank
  /-- MRRC with Rd = Rn (R336). -/
  | coprocessorRegister
  /-- EXTEST with scan chain 1 or 2 selected (U18); raised by the TAP. -/
  | extest
  /-- nRESET driven LOW alone in debug state (U26, D23); raised by the boundary. -/
  | resetInDebug
  /-- A monitor-mode restriction violated (U27, R583); raised by the boundary. -/
  | monitorRestriction
  /-- An instruction scanned in that debug state does not allow (U28, R566); raised by the debug logic. -/
  | debugInstruction
  /-- The step touched a device window of the configured memory map (entry 10). -/
  | deviceWindow
  deriving DecidableEq, Repr

/-- The outcome of an instruction or a step. -/
abbrev Out := Host.Outcome State Fault Refusal

/-- The default configuration: the spec's defaults (R8, 93 section 2.4; entry 7). -/
def Cfg.default : Cfg where
  bigEnd := false
  hiVecs := false
  disLTbit := false
  thumb32 := false
  dbgen := false
  tapId := 0x25900477#32
  storePc12 := true
  aborts := []
  windows := []
  split := false
  codeWindows := []
  swapWrites := true
  ldrdKeeps := false
  watchRuns := true

/-- Every input inactive (D11's default; entry 8). -/
def Pins.inactive : Pins where
  nFIQ := true
  nIRQ := true
  nRESET := true
  nTRST := true
  edbgrq := false
  iebkpt := false
  dewpt := false
  dbgext := 0b00#2

/-- A watchpoint unit after debug reset: ENABLE is 0 (R57); the rest is 0 by DESIGN CHOICE (entry 1). -/
def WatchUnit.afterReset : WatchUnit where
  addrValue := 0
  addrMask := 0
  dataValue := 0
  dataMask := 0
  control := 0
  controlMask := 0
  chainOut := false

/-- EmbeddedICE-RT after debug reset (R57); DCC data and SYSCOMP are 0 by DESIGN CHOICE (entry 1). -/
def Ice.afterReset : Ice where
  control := 0b010000#6
  offLatch := true
  moe := 0b0000#4
  sysComp := false
  vectorCatch := 0
  unit0 := .afterReset
  unit1 := .afterReset
  dccRd := 0
  dccWr := 0
  w := false
  r := false
  dbgAbt := false
  updating := none

/-- The TAP controller after debug reset (R57, R546); the shift stages are 0 by DESIGN CHOICE (entry 1). -/
def Tap.afterReset : Tap where
  state := .reset
  ir := 0b1110#4
  irShift := 0
  chain := 0b00011#5
  chainShift := 0
  bypass := false
  idShift := 0
  scan1 := 0
  scan2 := 0
  tdo := false
  tdoTrace := []

/-- The debug logic inside the core when no debug event has happened (R34). -/
def Debug.idle : Debug where
  active := false
  entryWatch := false
  entryBoth := false
  pending := none
  pendingSystem := false
  dataIn := []
  dataOut := []
  systemSpeed := false
  watch := .idle
  catchNext := false
  shadow := 0

/-- The machine right after full system reset (R56, R57, R610): Supervisor mode, ARM state, I = F = 1, the pc at
the reset vector. The registers and flags the spec calls indeterminate are 0 by DESIGN CHOICE (entry 1). -/
def State.reset : State where
  regs := Vector.replicate 30 0
  pc := 0x00000000#32
  cpsr := 0x000000D3#32
  spsrFiq := 0
  spsrSvc := 0
  spsrAbt := 0
  spsrIrq := 0
  spsrUnd := 0
  mem := []
  imem := []
  fetchQ := []
  fiqReg := false
  irqReg := false
  resetReg := false
  bankHazard := false
  bus := []
  ibus := []
  cfg := .default
  pins := .inactive
  pinStream := []
  cpScript := []
  cpEvents := []
  ice := .afterReset
  tap := .afterReset
  dbg := .idle
  freeIx := 0

end Sys2Proof.Machine
end

