-- ==== Sys2Proof/Machine/Bits.lean ====
section
/-! DEFINITION. Bit-level helpers, and the fields of the program status registers (R20): the modes, the flags and
the control bits as read from and written into a 32-bit PSR value. -/

namespace Sys2Proof.Machine

/-- `w` with bit `i` set to `b` (R10). -/
def setBit (w : Word) (i : Nat) (b : Bool) : Word :=
  (w &&& ~~~BitVec.twoPow 32 i) ||| (if b then BitVec.twoPow 32 i else 0)

/-- Bits 1:0 cleared: the naturally aligned word address (R64, R237). -/
def align4 (w : Word) : Word := w &&& 0xFFFFFFFC#32

/-- Bit 0 cleared: the naturally aligned halfword address (R64, R237). -/
def align2 (w : Word) : Word := w &&& 0xFFFFFFFE#32

/-- `zext_N` to 32 bits (R11). -/
def zext {n : Nat} (x : BitVec n) : Word := x.setWidth 32

/-- `sext_N` to 32 bits (R11). -/
def sext {n : Nat} (x : BitVec n) : Word := x.signExtend 32

/-- The mode an M field names; none for the 25 illegal values (R19, R25). -/
def Mode.ofBits (b : BitVec 5) : Option Mode :=
  if b = 0b10000#5 then some .usr else if b = 0b10001#5 then some .fiq
  else if b = 0b10010#5 then some .irq else if b = 0b10011#5 then some .svc
  else if b = 0b10111#5 then some .abt else if b = 0b11011#5 then some .und
  else if b = 0b11111#5 then some .sys else none

/-- The M field of a mode (R19). -/
def Mode.bits : Mode → BitVec 5
  | .usr => 0b10000#5 | .fiq => 0b10001#5 | .irq => 0b10010#5 | .svc => 0b10011#5
  | .abt => 0b10111#5 | .und => 0b11011#5 | .sys => 0b11111#5

/-! ### PSR fields (R20) -/

/-- The N flag. -/
def psrN (p : Word) : Bool := bitAt p 31
/-- The Z flag. -/
def psrZ (p : Word) : Bool := bitAt p 30
/-- The C flag. -/
def psrC (p : Word) : Bool := bitAt p 29
/-- The V flag. -/
def psrV (p : Word) : Bool := bitAt p 28
/-- The sticky Q flag (R22). -/
def psrQ (p : Word) : Bool := bitAt p 27
/-- The IRQ disable bit (R23). -/
def psrI (p : Word) : Bool := bitAt p 7
/-- The FIQ disable bit (R23). -/
def psrF (p : Word) : Bool := bitAt p 6
/-- The Thumb state bit (R24). -/
def psrT (p : Word) : Bool := bitAt p 5
/-- The mode field M[4:0] (R25). -/
def psrM (p : Word) : BitVec 5 := fld p 0 5

/-- Write the mode field. -/
def setPsrM (p : Word) (m : BitVec 5) : Word := (p &&& 0xFFFFFFE0#32) ||| m.setWidth 32
/-- Write the T bit. -/
def setPsrT (p : Word) (b : Bool) : Word := setBit p 5 b
/-- Write the Q flag. -/
def setPsrQ (p : Word) (b : Bool) : Word := setBit p 27 b

/-- Write N and Z from a 32-bit result (R166). -/
def setPsrNZ (p : Word) (r : Word) : Word := setBit (setBit p 31 (bitAt r 31)) 30 (r == 0)

/-- Write all four condition flags. -/
def setPsrNZCV (p : Word) (n z c v : Bool) : Word := setBit (setBit (setBit (setBit p 31 n) 30 z) 29 c) 28 v

end Sys2Proof.Machine
end

