-- ==== Sys2Proof/Machine/Flags.lean ====
section
/-! DEFINITION. Conditions and flag computations: R112, R165, R166, R215, R218. Exact integer arithmetic first,
then narrowing. -/

namespace Sys2Proof.Machine

/-- `ConditionPassed(cond)` against the flags of a PSR (R112). -/
def condPassed (c : Cond) (p : Word) : Bool :=
  match c with
  | .eq => psrZ p
  | .ne => !psrZ p
  | .cs => psrC p
  | .cc => !psrC p
  | .mi => psrN p
  | .pl => !psrN p
  | .vs => psrV p
  | .vc => !psrV p
  | .hi => psrC p && !psrZ p
  | .ls => !psrC p || psrZ p
  | .ge => psrN p == psrV p
  | .lt => psrN p != psrV p
  | .gt => !psrZ p && (psrN p == psrV p)
  | .le => psrZ p || (psrN p != psrV p)
  | .al => true

/-- What `AddWithCarry` answers (R165). -/
structure AddResult where
  value : Word
  carry : Bool
  overflow : Bool
  deriving DecidableEq, Repr

/-- `AddWithCarry(x, y, c)` (R165): the sum over the integers, unsigned for the carry, signed for the overflow. -/
def addWithCarry (x y : Word) (c : Bool) : AddResult :=
  let usum : Nat := x.toNat + y.toNat + c.toNat
  let ssum : Int := x.toInt + y.toInt + (c.toNat : Int)
  { value := BitVec.ofNat 32 usum
    carry := decide (2 ^ 32 ≤ usum)
    overflow := decide (ssum < -2 ^ 31 ∨ 2 ^ 31 - 1 < ssum) }

/-- The flags of the arithmetic class (R166). -/
def arithFlags (p : Word) (r : AddResult) : Word :=
  setPsrNZCV p (bitAt r.value 31) (r.value == 0) r.carry r.overflow

/-- The flags of the logical class: N and Z of the result, C from the shifter, V unchanged (R166). -/
def logicFlags (p : Word) (r : Word) (carry : Bool) : Word := setBit (setPsrNZ p r) 29 carry

/-- N and Z of a 64-bit result; C and V unchanged (R218). -/
def longFlags (p : Word) (r : BitVec 64) : Word := setBit (setBit p 31 (bitAt r 63)) 30 (r == 0)

/-- Q is set when saturation or signed overflow happened, and never cleared here (R22). -/
def stickyQ (p : Word) (happened : Bool) : Word := if happened then setPsrQ p true else p

/-- Does the integer fall outside the signed 32-bit range (R212, R215)? -/
def outOfRange (i : Int) : Bool := decide (i < -2 ^ 31 ∨ 2 ^ 31 - 1 < i)

/-- `SignedSat32(i)` (R215): the clamped value and whether it was clamped. -/
def signedSat32 (i : Int) : Word × Bool :=
  if 2 ^ 31 - 1 < i then (0x7FFFFFFF#32, true)
  else if i < -2 ^ 31 then (0x80000000#32, true)
  else (BitVec.ofInt 32 i, false)

end Sys2Proof.Machine
end

