-- ==== Sys2Proof/Machine/Ice.lean ====
section
/-! DEFINITION. The EmbeddedICE-RT unit on its own: comparators (R555 to R557), and its registers as scan chain 2
reads and writes them (R46 to R52). -/

namespace Sys2Proof.Machine

/-- What the comparators see of one access (R555): address, data and control buses. -/
structure BusView where
  /-- the data interface, else the instruction interface -/
  isData : Bool
  addr : Word
  /-- the address on the other interface's bus then: a free value, since no rule orders the two buses (entry 20) -/
  other : Word
  data : Word
  /-- `DnTRANS` or `InTRANS` -/
  privileged : Bool
  /-- `DMAS`, or 0 : `ITBIT` -/
  size : BitVec 2
  /-- `DnRW`; X for a fetch -/
  write : Bool
  deriving DecidableEq, Repr

/-- `DMAS` (R85). -/
def Size.bits : Size → BitVec 2
  | .byte => 0b00#2 | .half => 0b01#2 | .word => 0b10#2

/-- Control value bit 3: this unit watches the data interface (R48). -/
def WatchUnit.watchesData (u : WatchUnit) : Bool := bitAt u.control 3

/-- A[31:0] of a unit: the bus that its own bit 3 selects (R555). -/
def WatchUnit.addressBus (u : WatchUnit) (v : BusView) : Word := if u.watchesData == v.isData then v.addr else v.other

/-- The address comparison alone: masked bits are ignored (R47, R555). -/
def WatchUnit.addrOnly (u : WatchUnit) (v : BusView) : Bool :=
  (u.addrValue ^^^ u.addressBus v) &&& ~~~u.addrMask == 0

/-- The combined control bus C[7:0] of R555. -/
def controlBus (v : BusView) (range chain ext : Bool) : BitVec 8 :=
  bit range ++ bit chain ++ bit ext ++ bit v.privileged ++ bit v.isData ++ v.size ++ bit v.write

/-- `addr_match(u)`: the address, and control bits 4, 2, 1, 0 (R555). -/
def WatchUnit.addrMatch (u : WatchUnit) (v : BusView) (c : BitVec 8) : Bool :=
  u.addrOnly v && ((u.control.setWidth 8 ^^^ c) &&& ~~~u.controlMask &&& 0b00010111#8 == 0)

/-- `data_match(u)`: the data, and control bits 7, 6, 5 (R555). -/
def WatchUnit.dataMatch (u : WatchUnit) (v : BusView) (c : BitVec 8) : Bool :=
  ((u.dataValue ^^^ v.data) &&& ~~~u.dataMask == 0) &&
    ((u.control.setWidth 8 ^^^ c) &&& ~~~u.controlMask &&& 0b11100000#8 == 0)

/-- Control value bit 8, ENABLE (R48). -/
def WatchUnit.enabled (u : WatchUnit) : Bool := bitAt u.control 8

/-- Comparators enabled: debug control bit 5 clear and the "disabled out of reset" latch clear (R50, R556). -/
def Ice.comparing (i : Ice) : Bool := !bitAt i.control 5 && !i.offLatch

/-- Monitor mode enable, debug control bit 4 (R50). -/
def Ice.monitor (i : Ice) : Bool := bitAt i.control 4

/-- Is a register of watchpoint 0 (address 0b01xxx) or 1 (0b10xxx) being written in this cycle (R46, R584)? -/
def Ice.updatingUnit (i : Ice) (unit : BitVec 2) : Bool :=
  match i.updating with
  | some a => fld a 3 2 == unit
  | none => false

/-- Unit 1, whose address comparison is unit 0's RANGE input, watches the other interface than the one accessed (R555). -/
def Ice.crossRange (i : Ice) (isData : Bool) : Bool := i.comparing && i.unit1.watchesData != isData

/-- The RANGE input of unit 0: unit 1's address comparison on its own bus (R48, R555), off while that comparison's register is being
written (R584). -/
def Ice.rangeOut (i : Ice) (v : BusView) : Bool :=
  i.unit1.addrOnly v && i.updating != some 0b10000#5 && i.updating != some 0b10001#5

/-- The control bus unit 0 compares with: unit 1's RANGE and CHAINOUT, and `DBGEXT[0]` (R555). -/
def Ice.bus0 (i : Ice) (v : BusView) (ext : BitVec 2) : BitVec 8 :=
  controlBus v (i.rangeOut v) i.unit1.chainOut (bitAt ext 0)

/-- The control bus unit 1 compares with: RANGE and CHAIN are 0 (R48, R555). -/
def Ice.bus1 (v : BusView) (ext : BitVec 2) : BitVec 8 := controlBus v false false (bitAt ext 1)

/-- Unit 0's address and control match for an access of the kind it watches; none while it is being updated. -/
def Ice.address0 (i : Ice) (v : BusView) (ext : BitVec 2) : Bool :=
  i.unit0.watchesData == v.isData && !i.updatingUnit 0b01#2 && i.unit0.addrMatch v (i.bus0 v ext)

/-- The same of unit 1. -/
def Ice.address1 (i : Ice) (v : BusView) (ext : BitVec 2) : Bool :=
  i.unit1.watchesData == v.isData && !i.updatingUnit 0b10#2 && i.unit1.addrMatch v (Ice.bus1 v ext)

/-- `DBGRNG` of unit 0 and unit 1 for one access: the match, whatever ENABLE says (R555). -/
def Ice.dbgrng (i : Ice) (v : BusView) (ext : BitVec 2) : Bool × Bool :=
  (i.address0 v ext && i.unit0.dataMatch v (i.bus0 v ext), i.address1 v ext && i.unit1.dataMatch v (Ice.bus1 v ext))

/-- The CHAINOUT latches after one access: each is taken when its unit's address matches (R49, R557). -/
def Ice.latchChain (i : Ice) (v : BusView) (ext : BitVec 2) : Ice :=
  { i with
    unit0 := { i.unit0 with chainOut := if i.address0 v ext then i.unit0.dataMatch v (i.bus0 v ext) else i.unit0.chainOut }
    unit1 := { i.unit1 with chainOut := if i.address1 v ext then i.unit1.dataMatch v (Ice.bus1 v ext) else i.unit1.chainOut } }

/-- Compare one access with both units (R555): the CHAINOUT latches as they become, and the method of entry
of the unit that triggers. When both trigger, unit 0 is reported (N24; entry 20). -/
def Ice.compare (i : Ice) (v : BusView) (ext : BitVec 2) : Ice × Option (BitVec 4) :=
  if i.comparing then
    let r := i.dbgrng v ext
    let base : BitVec 4 := if v.isData then 0b0110#4 else 0b0001#4
    (i.latchChain v ext,
      if r.1 && i.unit0.enabled then some base
      else if r.2 && i.unit1.enabled then some (base + 1)
      else none)
  else (i, none)

/-- A monitor-mode restriction is violated by an enabled unit: it depends on data, or on RANGE (R583). R583 does not say
whether a breakpoint chained to a disabled unit 1 that compares data is data-dependent too; it allows "chained
comparisons", and only enabled units are looked at: DESIGN CHOICE (entry 22). -/
def Ice.unitRestricted (u : WatchUnit) : Bool :=
  u.enabled && (u.dataMask != 0xFFFFFFFF#32 || !bitAt u.controlMask 7)

/-- Debug control bits 2 and 0 inhibit interrupts (R484). -/
def Ice.inhibits (i : Ice) : Bool := bitAt i.control 2 || bitAt i.control 0

/-- The comms control register as CP14 and the debugger read it (R44): version 0110, W, R. -/
def commsControl (w r : Bool) : Word := (0b0110#4 ++ 0#26 ++ bit w ++ bit r : BitVec 32)

/-- The debug status register (R51). -/
def debugStatus (moe : BitVec 4) (itbit syscomp ifen dbgrq dbgack : Bool) : BitVec 10 :=
  moe ++ 0b0#1 ++ bit itbit ++ bit syscomp ++ bit ifen ++ bit dbgrq ++ bit dbgack

/-- The value of an EmbeddedICE-RT register (R46); none for an address the map does not list (U16). At 0b00100, where
R46 counts six low bits and R44 has bits 31:28 and 1:0, it is R44's word: DESIGN CHOICE (entry 13). -/
def Ice.value (i : Ice) (status : BitVec 10) (a : BitVec 5) : Option Word :=
  if a = 0b00000#5 then some (zext i.control)
  else if a = 0b00001#5 then some (zext status)
  else if a = 0b00010#5 then some (zext i.vectorCatch)
  else if a = 0b00100#5 then some (commsControl i.w i.r)
  else if a = 0b00101#5 then some i.dccWr
  else if a = 0b01000#5 then some i.unit0.addrValue
  else if a = 0b01001#5 then some i.unit0.addrMask
  else if a = 0b01010#5 then some i.unit0.dataValue
  else if a = 0b01011#5 then some i.unit0.dataMask
  else if a = 0b01100#5 then some (zext i.unit0.control)
  else if a = 0b01101#5 then some (zext i.unit0.controlMask)
  else if a = 0b10000#5 then some i.unit1.addrValue
  else if a = 0b10001#5 then some i.unit1.addrMask
  else if a = 0b10010#5 then some i.unit1.dataValue
  else if a = 0b10011#5 then some i.unit1.dataMask
  else if a = 0b10100#5 then some (zext i.unit1.control)
  else if a = 0b10101#5 then some (zext i.unit1.controlMask)
  else none

/-- What reading a register does to the unit: the comms data read clears W (R42, R46). -/
def Ice.afterRead (i : Ice) (a : BitVec 5) : Ice := if a = 0b00101#5 then { i with w := false } else i

/-- What a debugger's write stores (R46): reserved bits read 0 (U14 and R52: the written bit is ignored), the control
value write clears CHAINOUT (R49), unlisted addresses have no effect (U16). -/
def Ice.writeRegister (i : Ice) (a : BitVec 5) (d : Word) : Ice :=
  if a = 0b00000#5 then { i with control := fld d 0 6 &&& 0b110111#6 }
  else if a = 0b00010#5 then { i with vectorCatch := fld d 0 8 &&& 0b11011111#8 }
  else if a = 0b00100#5 then { i with r := false }
  else if a = 0b00101#5 then { i with dccRd := d, r := true }
  else if a = 0b01000#5 then { i with unit0 := { i.unit0 with addrValue := d } }
  else if a = 0b01001#5 then { i with unit0 := { i.unit0 with addrMask := d } }
  else if a = 0b01010#5 then { i with unit0 := { i.unit0 with dataValue := d } }
  else if a = 0b01011#5 then { i with unit0 := { i.unit0 with dataMask := d } }
  else if a = 0b01100#5 then { i with unit0 := { i.unit0 with control := fld d 0 9, chainOut := false } }
  else if a = 0b01101#5 then { i with unit0 := { i.unit0 with controlMask := fld d 0 8 &&& 0b11110111#8 } }
  else if a = 0b10000#5 then { i with unit1 := { i.unit1 with addrValue := d } }
  else if a = 0b10001#5 then { i with unit1 := { i.unit1 with addrMask := d } }
  else if a = 0b10010#5 then { i with unit1 := { i.unit1 with dataValue := d } }
  else if a = 0b10011#5 then { i with unit1 := { i.unit1 with dataMask := d } }
  else if a = 0b10100#5 then { i with unit1 := { i.unit1 with control := fld d 0 9, chainOut := false } }
  else if a = 0b10101#5 then { i with unit1 := { i.unit1 with controlMask := fld d 0 8 &&& 0b11110111#8 } }
  else i

/-- A debugger's write to an EmbeddedICE-RT register (R46), noted for this cycle (R584). -/
def Ice.write (i : Ice) (a : BitVec 5) (d : Word) : Ice := { i.writeRegister a d with updating := some a }

/-- A new cycle: no register is being written (R584). -/
def Ice.settled (i : Ice) : Ice := { i with updating := none }

end Sys2Proof.Machine
end

