-- ==== Sys2Proof/Machine/Ops.lean ====
section
/-! DEFINITION. The named operations every meaning is made of: banked registers, the program counter, memory, the
data interface, free values, taking an exception and returning from one, coprocessor answers. -/

namespace Sys2Proof.Machine

/-! ### Mode and state -/

/-- The current mode. An illegal M field is stuck before any instruction runs (R25); the model reads it as User. -/
def State.mode (s : State) : Mode := (Mode.ofBits (psrM s.cpsr)).getD .usr

/-- The T bit: Thumb state (R24, R29). -/
def State.thumb (s : State) : Bool := psrT s.cpsr

/-- Privileged: any mode but User (R19). -/
def State.privileged (s : State) : Bool := s.mode != .usr

/-- Length of an instruction in the present state (R110). -/
def State.instrSize (s : State) : Word := if s.thumb then 2#32 else 4#32

/-- The address of the next instruction in sequence. -/
def State.nextPc (s : State) : Word := s.pc + s.instrSize

/-- Go on to the next instruction in sequence. -/
def State.advance (s : State) : State := { s with pc := s.nextPc }

/-- A conditional instruction: a failed condition only advances the pc (R112, R625). -/
def State.ifPassed (s : State) (c : Cond) (k : State → Out) : Out :=
  if condPassed c s.cpsr then k s else .next s.advance

/-! ### Registers (R13, R15) -/

/-- How far register `k` of mode `m` lies from its User-bank number in the register file (R13). -/
def bankOffset (m : Mode) (k : Nat) : Nat :=
  match m with
  | .usr => 0
  | .sys => 0
  | .fiq => if 8 ≤ k then 7 else 0
  | .svc => if 13 ≤ k then 9 else 0
  | .abt => if 13 ≤ k then 11 else 0
  | .irq => if 13 ≤ k then 13 else 0
  | .und => if 13 ≤ k then 15 else 0

/-- `phys(mode, n)` for n = 0 to 14 (R13). -/
def physIx (m : Mode) (n : Reg) : Fin 30 := Fin.ofNat 30 (n.toNat + bankOffset m n.toNat)

/-- `R[15]` as an operand: the instruction's address + 8, or + 4 in Thumb state (R15). -/
def State.pcOperand (s : State) : Word := s.pc + (if s.thumb then 4#32 else 8#32)

/-- The register of the named bank (`R_mode[n]`, R11). -/
def State.bankReg (s : State) (m : Mode) (n : Reg) : Word := s.regs[physIx m n]

/-- `R[n]` (R11, R13, R15). -/
def State.reg (s : State) (n : Reg) : Word := if n = 15#4 then s.pcOperand else s.bankReg s.mode n

/-- Write a register of the named bank. -/
def State.setBankReg (s : State) (m : Mode) (n : Reg) (v : Word) : State :=
  { s with regs := s.regs.set (physIx m n) v }

/-- `R[n] <- v` for n = 0 to 14; r15 is written by `State.writePc` and its kin only (R11). -/
def State.setReg (s : State) (n : Reg) (v : Word) : State := if n = 15#4 then s else s.setBankReg s.mode n v

/-- A Thumb low register (R136). -/
def low (r : LowReg) : Reg := r.setWidth 4

/-- Is register `n` banked in mode `m` (R13)? -/
def banked (m : Mode) (n : Reg) : Bool := decide (n ≠ 15#4 ∧ bankOffset m n.toNat ≠ 0)

/-! ### Saved status registers (R27) -/

/-- The SPSR of a mode; User and System have none. -/
def State.spsrOf (s : State) : Mode → Option Word
  | .usr => none
  | .sys => none
  | .fiq => some s.spsrFiq
  | .svc => some s.spsrSvc
  | .abt => some s.spsrAbt
  | .irq => some s.spsrIrq
  | .und => some s.spsrUnd

/-- The SPSR of the current mode. -/
def State.spsr (s : State) : Option Word := s.spsrOf s.mode

/-- Write the SPSR of a mode; nothing in User and System mode (U10). -/
def State.setSpsrOf (s : State) (m : Mode) (v : Word) : State :=
  match m with
  | .usr => s
  | .sys => s
  | .fiq => { s with spsrFiq := v }
  | .svc => { s with spsrSvc := v }
  | .abt => { s with spsrAbt := v }
  | .irq => { s with spsrIrq := v }
  | .und => { s with spsrUnd := v }

/-- Write the CPSR. -/
def State.setCpsr (s : State) (v : Word) : State := { s with cpsr := v }

/-! ### Free values (entry 11) -/

/-- Draw the next free value. -/
def State.draw (s : State) : Word × State := (Config.freeWord s.freeIx, { s with freeIx := s.freeIx + 1 })

/-! ### Writing the program counter (R230, R236, R237) -/

/-- `pc <- target`: the prefetched instructions are discarded (R31, R230). -/
def State.branchTo (s : State) (target : Word) : State := { s with pc := target, fetchQ := [] }

/-- The address bits the instruction interface keeps (R65; U24's alternative, entry 3). -/
def alignPc (thumb : Bool) (v : Word) : Word := if thumb then align2 v else align4 v

/-- A write to the PC that keeps the state (R167, R237, R387). -/
def State.writePc (s : State) (v : Word) : State := s.branchTo (alignPc s.thumb v)

/-- Branch and exchange: T from bit 0 (R233, R435). -/
def State.branchExchange (s : State) (v : Word) : State :=
  (s.setCpsr (setPsrT s.cpsr (bitAt v 0))).branchTo (alignPc (bitAt v 0) v)

/-- `LoadPC(v)` (R236): branch and exchange unless CFGDISLTBIT. -/
def State.loadPc (s : State) (v : Word) : State := if s.cfg.disLTbit then s.writePc v else s.branchExchange v

/-! ### Taking an exception and returning from one -/

/-- The mode an exception is taken in (R456). -/
def ExcKind.mode : ExcKind → Mode
  | .undefined => .und
  | .swi => .svc
  | .prefetchAbort => .abt
  | .dataAbort => .abt
  | .irq => .irq
  | .fiq => .fiq

/-- The vector offset (R456). -/
def ExcKind.offset : ExcKind → Word
  | .undefined => 0x04#32
  | .swi => 0x08#32
  | .prefetchAbort => 0x0C#32
  | .dataAbort => 0x10#32
  | .irq => 0x18#32
  | .fiq => 0x1C#32

/-- The vector base (R455). -/
def Cfg.vectorBase (c : Cfg) : Word := if c.hiVecs then 0xFFFF0000#32 else 0x00000000#32

/-- The vector catch bit of an exception (R52). -/
def ExcKind.catchBit : ExcKind → Nat
  | .undefined => 1
  | .swi => 2
  | .prefetchAbort => 3
  | .dataAbort => 4
  | .irq => 6
  | .fiq => 7

/-- Vector catch of an exception: its bit, DBGEN, and in monitor mode not the two aborts (R558, R590). -/
def State.catches (s : State) (k : ExcKind) : Bool :=
  s.cfg.dbgen && bitAt s.ice.vectorCatch k.catchBit &&
    !(s.ice.monitor && (k == .prefetchAbort || k == .dataAbort))

/-- The CPSR an exception leaves: M, T = 0, I = 1, and F = 1 for FIQ; the rest unchanged (R460). -/
def ExcKind.newCpsr (k : ExcKind) (old : Word) : Word :=
  let p := setBit (setPsrT (setPsrM old k.mode.bits) false) 7 true
  if k = .fiq then setBit p 6 true else p

/-- `TakeException(kind, ret)` (R460): r14 and the SPSR of the new mode, then the CPSR, then the vector. The handler's
first instruction is not "the instruction following" a user-bank transfer (R283; entry 29). -/
def State.takeException (s : State) (k : ExcKind) (ret : Word) : State :=
  let t := (s.setBankReg k.mode 14#4 ret).setSpsrOf k.mode s.cpsr
  { t with
    cpsr := k.newCpsr s.cpsr
    pc := s.cfg.vectorBase + k.offset
    fetchQ := []
    bankHazard := false
    dbg := { s.dbg with catchNext := s.catches k } }

/-- `raise Undefined`: r14 is the next instruction's address (R306, R462, R465). -/
def State.undefinedInstr (s : State) : State := s.takeException .undefined s.nextPc

/-- `raise SWI` (R304, R437, R462). -/
def State.softwareInterrupt (s : State) : State := s.takeException .swi s.nextPc

/-- `raise PrefetchAbort`: r14 = A + 4 in both states (R462). -/
def State.prefetchAbort (s : State) : State := s.takeException .prefetchAbort (s.pc + 4#32)

/-- `raise DataAbort` with r14 = A + 8 in both states (R462, R470); a watchpoint hit by the same instruction is
remembered in halt mode and dropped in monitor mode (R569, R581). R581 speaks of one access; that a hit on one transfer
of a burst is dropped too when another of its transfers aborts is a DESIGN CHOICE (entry 19). -/
def State.dataAbort (s : State) : State :=
  let t := s.takeException .dataAbort (s.pc + 8#32)
  match s.dbg.watch with
  | .hit m => { t with dbg := { t.dbg with watch := if s.ice.monitor then .idle else .aborted m } }
  | _ => t

/-- Exception return: `CPSR <- SPSR`, then the pc aligned for the restored state (R169, R475). Without an SPSR only
the pc is written (U10's alternative, entry 3). -/
def State.exceptionReturn (s : State) (v : Word) : State :=
  match s.spsr with
  | some p => (s.setCpsr p).writePc v
  | none => s.writePc v

/-! ### Debug entry (R560, R570) -/

/-- Enter debug state with the method of entry; the pc reads three instructions on, so that the first scanned
instruction sees the source's four-address advance (R570, entry 17). -/
def State.enterDebug (s : State) (moe : BitVec 4) : State :=
  { s with
    pc := s.pc + s.instrSize + s.instrSize + s.instrSize
    fetchQ := []
    bankHazard := false
    ice := { s.ice with moe := moe }
    dbg := { s.dbg with active := true, watch := .idle, catchNext := false, pending := none,
                        pendingSystem := false, dataIn := [], dataOut := [], systemSpeed := false,
                        entryWatch := false, entryBoth := false, shadow := 0 } }

/-- Halt-mode debug is on: DBGEN and monitor mode enable clear (R468, R560). -/
def State.haltMode (s : State) : Bool := s.cfg.dbgen && !s.ice.monitor

/-- BKPT: debug state in halt mode, else the Prefetch Abort (R305, R438, R468). -/
def State.softBreakpoint (s : State) : State :=
  if s.haltMode then s.enterDebug 0b0011#4 else s.prefetchAbort

/-! ### Memory (R60 to R62) -/

/-- What a byte address reads as; an unlisted one reads 0 (D9, entry 2). -/
def Memory.get : Memory → Nat → Byte
  | [], _ => 0
  | (k, v) :: t, a => if a = k then v else if a < k then 0 else Memory.get t a

/-- Write a byte, keeping addresses rising and no entry equal to 0. -/
def Memory.put : Memory → Nat → Byte → Memory
  | [], a, b => if b = 0 then [] else [(a, b)]
  | (k, v) :: t, a, b =>
    if a < k then (if b = 0 then (k, v) :: t else (a, b) :: (k, v) :: t)
    else if a = k then (if b = 0 then t else (a, b) :: t)
    else (k, v) :: Memory.put t a b

/-- Every address of the list is at least `lo` and below 2^32, they rise strictly, and no byte is 0. -/
def Memory.wfFrom : Nat → Memory → Bool
  | _, [] => true
  | lo, (k, v) :: t => decide (lo ≤ k) && decide (k < 2 ^ 32) && v != 0 && Memory.wfFrom (k + 1) t

/-- The canonical form of memory. -/
def Memory.wf (m : Memory) : Bool := Memory.wfFrom 0 m

/-- The byte at an address. -/
def Memory.byte (m : Memory) (a : Word) : Byte := m.get a.toNat

/-- The word at a word-aligned address, by byte order (R62). -/
def Memory.word (m : Memory) (big : Bool) (a : Word) : Word :=
  if big then m.byte a ++ m.byte (a + 1) ++ m.byte (a + 2) ++ m.byte (a + 3)
  else m.byte (a + 3) ++ m.byte (a + 2) ++ m.byte (a + 1) ++ m.byte a

/-- The halfword at a halfword-aligned address (R62). -/
def Memory.half (m : Memory) (big : Bool) (a : Word) : Half :=
  if big then m.byte a ++ m.byte (a + 1) else m.byte (a + 1) ++ m.byte a

/-- Store one byte. -/
def Memory.putByte (m : Memory) (a : Word) (b : Byte) : Memory := m.put a.toNat b

/-- Store a word at a word-aligned address (R62, R92). -/
def Memory.putWord (m : Memory) (big : Bool) (a v : Word) : Memory :=
  if big then
    (((m.putByte a (fld v 24 8)).putByte (a + 1) (fld v 16 8)).putByte (a + 2) (fld v 8 8)).putByte (a + 3) (fld v 0 8)
  else
    (((m.putByte a (fld v 0 8)).putByte (a + 1) (fld v 8 8)).putByte (a + 2) (fld v 16 8)).putByte (a + 3) (fld v 24 8)

/-- Store a halfword at a halfword-aligned address (R62, R92). -/
def Memory.putHalf (m : Memory) (big : Bool) (a : Word) (v : Half) : Memory :=
  if big then (m.putByte a (fld v 8 8)).putByte (a + 1) (fld v 0 8)
  else (m.putByte a (fld v 0 8)).putByte (a + 1) (fld v 8 8)

/-- The address memory acts on: the low bits the size makes insignificant are dropped (R64, D7). -/
def Size.align (z : Size) (a : Word) : Word :=
  match z with
  | .byte => a
  | .half => align2 a
  | .word => align4 a

/-- `MemRead(addr, n)` on the byte array, zero-extended (R90). -/
def Memory.read (m : Memory) (big : Bool) (z : Size) (a : Word) : Word :=
  match z with
  | .byte => zext (m.byte a)
  | .half => zext (m.half big (align2 a))
  | .word => m.word big (align4 a)

/-- `MemWrite(addr, n, v)` on the byte array (R92). -/
def Memory.write (m : Memory) (big : Bool) (z : Size) (a v : Word) : Memory :=
  match z with
  | .byte => m.putByte a (fld v 0 8)
  | .half => m.putHalf big (align2 a) (fld v 0 16)
  | .word => m.putWord big (align4 a) v

/-- Does a data access at an address reach the instruction array of a split memory (R61, D2)? The one address on `DA`,
low bits included, decides for the whole access, so a word at a window's edge is not divided: DESIGN CHOICE, D2 does not
say (entry 10). -/
def Cfg.reachesCode (c : Cfg) (a : Word) : Bool :=
  c.split && c.codeWindows.any fun r => decide (r.1 ≤ a.toNat) && decide (a.toNat ≤ r.2)

/-- The memory the instruction interface reads (R61, D2). -/
def State.codeMem (s : State) : Memory := if s.cfg.split then s.imem else s.mem

/-- A store: the data side's memory, and the instruction array where the address reaches it (R61, D2). -/
def State.store (s : State) (z : Size) (a v : Word) : State :=
  { s with mem := s.mem.write s.cfg.bigEnd z a v
           imem := if s.cfg.reachesCode a then s.imem.write s.cfg.bigEnd z a v else s.imem }

/-! ### The data interface (R84 to R97) -/

/-- `WDATA`: a byte four times, a halfword twice (R92). -/
def Size.replicate (z : Size) (v : Word) : Word :=
  match z with
  | .byte => fld v 0 8 ++ fld v 0 8 ++ fld v 0 8 ++ fld v 0 8
  | .half => fld v 0 16 ++ fld v 0 16
  | .word => v

/-- The lanes of `RDATA` the core takes (R90). -/
def laneRead (big : Bool) (z : Size) (a : Word) (rdata : Word) : Word :=
  match z with
  | .word => rdata
  | .half => if bitAt a 1 = big then zext (fld rdata 0 16) else zext (fld rdata 16 16)
  | .byte =>
    let k := fld a 0 2
    let lane := if big then 3#2 - k else k
    if lane = 0b00#2 then zext (fld rdata 0 8) else if lane = 0b01#2 then zext (fld rdata 8 8)
    else if lane = 0b10#2 then zext (fld rdata 16 8) else zext (fld rdata 24 8)

/-- A request on the data interface. -/
structure Req where
  addr : Word
  size : Size
  /-- the T suffix: `DnTRANS` LOW (R85) -/
  user : Bool
  seq : Bool
  /-- `DMORE` (R87) -/
  more : Bool
  lock : Bool
  burst : BitVec 4
  deriving DecidableEq, Repr

/-- A single transfer with nothing special about it. -/
def Req.plain (a : Word) (z : Size) : Req :=
  { addr := a, size := z, user := false, seq := false, more := false, lock := false, burst := 0 }

/-- `DnTRANS` of a request: privileged unless User mode or a T variant (R85). -/
def State.transOf (s : State) (q : Req) : Bool := s.privileged && !q.user

/-- `DnM`: the mode bits inverted; a forced User access shows User mode (R80). -/
def State.modePins (s : State) (q : Req) : BitVec 5 := if q.user then ~~~Mode.usr.bits else ~~~psrM s.cpsr

/-- Does a rule of the abort oracle abort this access (D10)? -/
def AbortRule.applies (r : AbortRule) (acc : Access) (z : Size) (a : Word) (priv : Bool) (m : BitVec 5) : Bool :=
  decide (r.lo ≤ a.toNat) && decide (a.toNat ≤ r.hi) &&
    (r.accesses.isEmpty || r.accesses.contains acc) && (r.sizes.isEmpty || r.sizes.contains z) &&
    (r.privileged.isEmpty || r.privileged.contains priv) && (r.modeBits.isEmpty || r.modeBits.contains m)

/-- The abort oracle (D10). -/
def Cfg.abort (c : Cfg) (acc : Access) (z : Size) (a : Word) (priv : Bool) (m : BitVec 5) : Bool :=
  c.aborts.any fun r => r.applies acc z a priv m

/-- Is `DABORT` returned for this request? The oracle is asked for the address on `DA`, low bits included, as D10 gives
it the bus signals; for a fetch it is the aligned `IA` (DESIGN CHOICE, entry 10). -/
def State.dabort (s : State) (acc : Access) (q : Req) : Bool :=
  s.cfg.abort acc q.size q.addr (s.transOf q) (s.modePins q)

/-- The type of a data-interface cycle (R86). -/
def BusCycle.kind (c : BusCycle) : CycleType :=
  match c.request, c.seq with
  | true, false => .nonsequential
  | true, true => .sequential
  | false, false => .internal
  | false, true => .coprocessor

/-- The bus cycle of a request: an N or S cycle (R86). -/
def State.cycle (s : State) (q : Req) (write : Bool) (data : Word) : BusCycle :=
  { addr := q.addr, size := q.size, write := write, request := true, seq := q.seq, more := q.more, privileged := s.transOf q,
    modeBits := s.modePins q, lock := q.lock, spec := false, burst := q.burst, data := data }

/-- The counter of free values after a comparison: the address on the other bus was one if unit 1 watches that bus (R555,
entry 20). -/
def State.freeAfterCompare (s : State) (isData : Bool) : Nat :=
  if s.cfg.dbgen && s.ice.crossRange isData then s.freeIx + 1 else s.freeIx

/-- What a bus cycle does outside memory: it is seen on the bus, compared with the watchpoint units, and may arm a
watchpoint (R555, R556, R563). In monitor mode an external abort on the same access wins (R581). The transfers of a
system speed access are compared like any other and may change CHAINOUT (R555), but a unit that triggers then arms
nothing, since debug state is entered again with MOE 0b1011 anyway (R567): DESIGN CHOICE (N24, entry 18). -/
def State.observe (s : State) (c : BusCycle) (data : Word) (aborted : Bool) : State :=
  let v : BusView := { isData := true, addr := c.addr, other := Config.freeWord s.freeIx, data := data, privileged := c.privileged,
                       size := c.size.bits, write := c.write }
  let r := if s.cfg.dbgen then s.ice.compare v s.pins.dbgext else (s.ice, none)
  let moe := match r.2 with
    | some m => some m
    | none => if s.cfg.dbgen && s.pins.dewpt then some 0b1000#4 else none
  let watch := match s.dbg.watch, moe with
    | .idle, some m => if s.dbg.active || aborted && s.ice.monitor then .idle else .hit m
    | w, _ => w
  { s with bus := s.bus ++ [c], ice := r.1, dbg := { s.dbg with watch := watch },
           freeIx := s.freeAfterCompare true }

/-- The data interface is cut off from memory: debug state at debug speed (R560, R565). -/
def State.scanned (s : State) : Bool := s.dbg.active && !s.dbg.systemSpeed

/-- The word the debugger supplied for a read at debug speed (R551); 0 if none was scanned in. -/
def State.takeScanned (s : State) : Word × State :=
  (s.dbg.dataIn.headD 0, { s with dbg := { s.dbg with dataIn := s.dbg.dataIn.tail } })

/-- `MemRead`: the value of the size read, zero-extended, or none for an abort (R89, R90). What `RDATA` carries on an
aborted read is not stated (R89: it is not used); the watchpoint comparators see the word that memory holds: DESIGN CHOICE
(entry 20). -/
def State.dataRead (s : State) (q : Req) : Option Word × State :=
  if s.scanned then
    (some (laneRead s.cfg.bigEnd q.size q.addr s.takeScanned.1), s.takeScanned.2)
  else
    let aborted := s.dabort .read q
    let t := s.observe (s.cycle q false 0) (s.mem.word s.cfg.bigEnd (align4 q.addr)) aborted
    (if aborted then none else some (s.mem.read s.cfg.bigEnd q.size q.addr), t)

/-- `MemWrite`: true if it was not aborted. An aborted write leaves memory as it was (D10). -/
def State.dataWrite (s : State) (q : Req) (v : Word) : Bool × State :=
  if s.scanned then
    (true, { s with dbg := { s.dbg with dataOut := s.dbg.dataOut ++ [q.size.replicate v] } })
  else
    let aborted := s.dabort .write q
    let w := q.size.replicate v
    let t := s.observe (s.cycle q true w) w aborted
    (!aborted, if aborted then t else t.store q.size q.addr v)

/-! ### Coprocessors (R322 to R329, entry 12) -/

/-- The instruction after a watchpointed access busy-waits, so it is not done yet (R328, R563; entry 19). -/
def Watch.busy : Watch → Watch
  | .idle => .idle
  | .hit m => .hit m
  | .waiting m => .waiting m
  | .armed m => .waiting m
  | .aborted m => .aborted m

/-- A busy-wait: the instruction stays in Execute (R326, R328). -/
def State.busyWait (s : State) : State := { s with dbg := { s.dbg with watch := s.dbg.watch.busy } }

/-- The four states of the handshake (R324, R325). -/
inductive Handshake where
  | absent | wait | go | last
  deriving DecidableEq, Repr

/-- The code on `CHSD` and `CHSE` (R324). -/
def Handshake.bits : Handshake → BitVec 2
  | .absent => 0b10#2 | .wait => 0b00#2 | .go => 0b01#2 | .last => 0b11#2

/-- What an answer of the script is on the handshake buses, cycle by cycle (R325, R326). -/
def CpAnswer.handshakes : CpAnswer → List Handshake
  | .absent => [.absent]
  | .wait => [.wait]
  | .accept more _ => List.replicate more .go ++ [.last]

/-- The next handshake answer; with no script, ABSENT (R347). -/
def State.cpAnswer (s : State) : CpAnswer × State := (s.cpScript.headD .absent, { s with cpScript := s.cpScript.tail })

/-- Show an instruction to the coprocessors (R320, R341). -/
def State.cpOffer (s : State) (instr : Word) : State :=
  { s with cpEvents := s.cpEvents ++ [.offered instr s.privileged] }

/-- MCR to coprocessor 15: the word stands on `IA` and `DA` in each of the GO cycles, with no memory request (R343).
For other coprocessors nothing is shown: DESIGN CHOICE (entry 12). -/
def State.cpDrive (s : State) (cp : BitVec 4) (more : Nat) (w : Word) : State :=
  if cp = 15#4 then { s with cpEvents := s.cpEvents ++ List.replicate more (.driven w) } else s

/-- A data word goes to the coprocessor (R333, R335, R331). -/
def State.cpSend (s : State) (w : Word) : State := { s with cpEvents := s.cpEvents ++ [.received w] }

/-- A C cycle: one word of a register transfer goes to the coprocessor (`write`) or comes from it, over the data buses,
with no memory request (R86, R95, R333). What `DA`, `DMAS` and the other signals show in it is not stated ("no address");
the record says 0, a word and the instruction's privilege and mode, has the cycle for coprocessor 14 too, and compares it
with no watchpoint: DESIGN CHOICE (entry 37). -/
def State.cpTransfer (s : State) (write : Bool) (w : Word) : State :=
  { s with bus := s.bus ++ [{ s.cycle (Req.plain 0 .word) write w with request := false, seq := true }] }

end Sys2Proof.Machine
end

