-- ==== Sys2Proof/Machine/Operands.lean ====
section
/-! DEFINITION. Operand forms: the shifter operand (R117, R161 to R163) and addressing modes 2 to 5 (R246, R248,
R281, R337), with the combinations the spec calls UNPREDICTABLE. -/

namespace Sys2Proof.Machine

/-- A shifter operand and its carry-out (R163). -/
structure Shifted where
  value : Word
  carry : Bool
  deriving DecidableEq, Repr

/-- `ROR(x, n)` (R162). -/
def rotR (x : Word) (n : Nat) : Word := x.rotateRight (n % 32)

/-- `RRX(x, c)` (R162). -/
def rrx (x : Word) (c : Bool) : Word := BitVec.ofBool c ++ fld x 1 31

/-- The rotated immediate's value (R117). -/
def rotImm (rot : BitVec 4) (imm8 : BitVec 8) : Word := rotR (zext imm8) (2 * rot.toNat)

/-- `#32bit_Imm`: the carry is C, or bit 31 when there is a rotation (R163). -/
def immOperand (rot : BitVec 4) (imm8 : BitVec 8) (c : Bool) : Shifted :=
  let v := rotImm rot imm8
  { value := v, carry := if rot = 0#4 then c else bitAt v 31 }

/-- A register shifted by an immediate amount (R163): field 0 means 32 for LSR and ASR, and RRX for ROR. -/
def shiftImm (ty : ShiftTy) (amount : BitVec 5) (x : Word) (c : Bool) : Shifted :=
  let n := amount.toNat
  match ty with
  | .lsl => if n = 0 then ⟨x, c⟩ else ⟨x <<< n, bitAt x (32 - n)⟩
  | .lsr => if n = 0 then ⟨0, bitAt x 31⟩ else ⟨x >>> n, bitAt x (n - 1)⟩
  | .asr => if n = 0 then ⟨x.sshiftRight 31, bitAt x 31⟩ else ⟨x.sshiftRight n, bitAt x (n - 1)⟩
  | .ror => if n = 0 then ⟨rrx x c, bitAt x 0⟩ else ⟨rotR x n, bitAt x (n - 1)⟩

/-- A register shifted by the bottom byte of a register (R163). -/
def shiftReg (ty : ShiftTy) (n : Nat) (x : Word) (c : Bool) : Shifted :=
  match ty with
  | .lsl =>
    if n = 0 then ⟨x, c⟩ else if n < 32 then ⟨x <<< n, bitAt x (32 - n)⟩
    else if n = 32 then ⟨0, bitAt x 0⟩ else ⟨0, false⟩
  | .lsr =>
    if n = 0 then ⟨x, c⟩ else if n < 32 then ⟨x >>> n, bitAt x (n - 1)⟩
    else if n = 32 then ⟨0, bitAt x 31⟩ else ⟨0, false⟩
  | .asr =>
    if n = 0 then ⟨x, c⟩ else if n < 32 then ⟨x.sshiftRight n, bitAt x (n - 1)⟩
    else ⟨x.sshiftRight 31, bitAt x 31⟩
  | .ror =>
    if n = 0 then ⟨x, c⟩ else if n % 32 = 0 then ⟨x, bitAt x 31⟩
    else ⟨rotR x (n % 32), bitAt x (n % 32 - 1)⟩

/-- `Rm, <shift> #n` (R163, R168). -/
def State.shiftImmOperand (s : State) (ty : ShiftTy) (amount : BitVec 5) (rm : Reg) : Shifted :=
  shiftImm ty amount (s.reg rm) (psrC s.cpsr)

/-- The shift count in the bottom byte of Rs (R163). -/
def State.shiftCount (s : State) (rs : Reg) : Nat := (fld (s.reg rs) 0 8).toNat

/-- `Rm, <shift> Rs` (R163). -/
def State.shiftRegOperand (s : State) (ty : ShiftTy) (rm rs : Reg) : Shifted :=
  shiftReg ty (s.shiftCount rs) (s.reg rm) (psrC s.cpsr)

/-! ### Addresses -/

/-- An address, and the new base value if the form writes back. -/
structure Addressed where
  addr : Word
  writeback : Option Word
  deriving DecidableEq, Repr

/-- Base plus or minus offset (R246). -/
def addOffset (u : Bool) (base off : Word) : Word := if u then base + off else base - off

/-- Offset (w = false) or pre-indexed (w = true) form (R246). -/
def preIndexed (u w : Bool) (base off : Word) : Addressed :=
  let t := addOffset u base off
  { addr := t, writeback := if w then some t else none }

/-- Post-indexed form (R246). -/
def postIndexed (u : Bool) (base off : Word) : Addressed :=
  { addr := base, writeback := some (addOffset u base off) }

/-- Addressing mode 3: P and W choose the form; P = 0, W = 1 acts as post-indexed (R248; U20, entry 3). -/
def mode3 (p u w : Bool) (base off : Word) : Addressed :=
  if p then preIndexed u w base off else postIndexed u base off

/-- The scaled register offset of addressing mode 2, without its carry (R246). -/
def State.scaledOffset (s : State) (ty : ShiftTy) (amount : BitVec 5) (rm : Reg) : Word :=
  (s.shiftImmOperand ty amount rm).value

/-- Write the new base back, if there is one. -/
def State.writeBack (s : State) (rn : Reg) (a : Addressed) : State :=
  match a.writeback with
  | some b => s.setReg rn b
  | none => s

/-- Writeback that R246 and R248 call UNPREDICTABLE: Rn = r15, Rn = Rd, or Rn = Rm. -/
def writebackConflict (wb : Bool) (rn rd : Reg) (rm : Option Reg) : Bool :=
  wb && (decide (rn = 15#4) || decide (rn = rd) || rm == some rn)

/-- What addressing mode 2 or 3 refuses before any access (R246, R248). -/
def addressRefusal (wb : Bool) (rn rd : Reg) (rm : Option Reg) : Option Refusal :=
  if rm == some 15#4 then some .pcOperand
  else if writebackConflict wb rn rd rm then some .writebackConflict
  else none

/-- The registers of a list in rising order (R281). -/
def listRegs (list : BitVec 16) : List Reg :=
  ((List.range 16).filter fun i => list.getLsbD i).map fun i => BitVec.ofNat 4 i

/-- Addressing mode 4: the first address and the new base for `n` registers (R281). -/
def mode4 (p u : Bool) (n : Nat) (base : Word) : Word × Word :=
  let size : Word := 4#32 * BitVec.ofNat 32 n
  if u then ((if p then base + 4#32 else base), base + size)
  else ((if p then base - size else base - size + 4#32), base - size)

/-- Addressing mode 5: P = 0, W = 0 is unindexed (R337). -/
def mode5 (p u w : Bool) (imm8 : BitVec 8) (base : Word) : Addressed :=
  let off : Word := zext imm8 <<< 2
  if p then preIndexed u w base off
  else if w then postIndexed u base off
  else { addr := base, writeback := none }

end Sys2Proof.Machine
end

