-- ==== Sys2Proof/Machine/Branch.lean ====
section
/-! DEFINITION. ARM branches (spec/42_branch.md). -/

namespace Sys2Proof.Machine

/-- The target of B, BL and BLX label: the address + 8 plus a word offset (R231; it wraps, D8). -/
def branchTarget (pc : Word) (imm24 : BitVec 24) : Word := pc + 8#32 + (sext imm24 <<< 2)

/-- B (R231). -/
def execB (o : BranchOps) (s : State) : Out :=
  s.ifPassed o.cond fun s => .next (s.writePc (branchTarget s.pc o.imm24))

/-- BL: r14 is the address of the next instruction (R232). -/
def execBl (o : BranchOps) (s : State) : Out :=
  s.ifPassed o.cond fun s => .next ((s.setReg 14#4 (s.pc + 4#32)).writePc (branchTarget s.pc o.imm24))

/-- BLX label: always to Thumb state, H is bit 1 of the target (R234). -/
def execBlxImm (o : BlxImmOps) (s : State) : Out :=
  let t := branchTarget s.pc o.imm24 + (if o.h then 2#32 else 0#32)
  .next (((s.setReg 14#4 (s.pc + 4#32)).setCpsr (setPsrT s.cpsr true)).branchTo (align2 t))

/-- BX; `BX PC` reads the address + 8 (R233). -/
def execBx (o : BxOps) (s : State) : Out :=
  s.ifPassed o.cond fun s => .next (s.branchExchange (s.reg o.rm))

/-- BLX register: Rm is read before r14 is written; r15 is refused (R235). -/
def execBlxReg (o : BxOps) (s : State) : Out :=
  s.ifPassed o.cond fun s =>
    if o.rm = 15#4 then .refused .pcOperand
    else .next ((s.setReg 14#4 (s.pc + 4#32)).branchExchange (s.reg o.rm))

end Sys2Proof.Machine
end

