-- ==== Sys2Proof/Machine/LoadStore.lean ====
section
/-! DEFINITION. ARM single loads and stores, doubleword transfers and PLD (spec/43_load_store.md). The order of
effects and the abort behaviour are R249: nothing is written if the access aborts. -/

namespace Sys2Proof.Machine

/-- What a single load does with the data (R250, R251, R258 to R260). -/
inductive LoadKind where
  | word | byte | half | signedByte | signedHalf
  deriving DecidableEq, Repr

/-- The transfer size of a load. -/
def LoadKind.size : LoadKind → Size
  | .word => .word
  | .byte => .byte
  | .half => .half
  | .signedByte => .byte
  | .signedHalf => .half

/-- The loaded value: a word is rotated right by 8 times the low address bits (R64, R250). -/
def LoadKind.value (k : LoadKind) (a raw : Word) : Word :=
  match k with
  | .word => rotR raw (8 * (fld a 0 2).toNat)
  | .byte => raw
  | .half => raw
  | .signedByte => sext (fld raw 0 8)
  | .signedHalf => sext (fld raw 0 16)

/-- The value stored for a register: r15 is the address + STORE_PC_OFFSET (R262). -/
def State.storeReg (s : State) (n : Reg) : Word :=
  if n = 15#4 then s.pc + (if s.cfg.storePc12 then 12#32 else 8#32) else s.reg n

/-- A single load, after its refusals: access, then writeback, then Rd; r15 goes through LoadPC (R249, R275). -/
def State.loadInto (s : State) (k : LoadKind) (user : Bool) (rn rd : Reg) (a : Addressed) : State :=
  let r := s.dataRead { Req.plain a.addr k.size with user := user }
  match r.1 with
  | none => r.2.dataAbort
  | some raw =>
    let t := r.2.writeBack rn a
    if rd = 15#4 then t.loadPc (k.value a.addr raw) else (t.setReg rd (k.value a.addr raw)).advance

/-- A single load: r15 may be loaded by LDR only, from an aligned address (R250). -/
def loadSingle (k : LoadKind) (pcOk user : Bool) (rn rd : Reg) (rm : Option Reg) (a : Addressed) (s : State) : Out :=
  match addressRefusal a.writeback.isSome rn rd rm with
  | some r => .refused r
  | none =>
    if rd = 15#4 ∧ pcOk = false then .refused .pcOperand
    else if rd = 15#4 ∧ fld a.addr 0 2 ≠ 0b00#2 then .refused .unalignedPcLoad
    else .next (s.loadInto k user rn rd a)

/-- A single store, after its refusals: access, then writeback (R249). -/
def State.storeFrom (s : State) (z : Size) (user : Bool) (rn rd : Reg) (a : Addressed) : State :=
  let r := s.dataWrite { Req.plain a.addr z with user := user } (s.storeReg rd)
  if r.1 then (r.2.writeBack rn a).advance else r.2.dataAbort

/-- A single store: r15 may be stored as a word only (R254, R255, R261, R262). -/
def storeSingle (z : Size) (pcOk user : Bool) (rn rd : Reg) (rm : Option Reg) (a : Addressed) (s : State) : Out :=
  match addressRefusal a.writeback.isSome rn rd rm with
  | some r => .refused r
  | none => if rd = 15#4 ∧ pcOk = false then .refused .pcOperand else .next (s.storeFrom z user rn rd a)

/-! ### Bursts of words (R66, R281, R288) -/

/-- Read `n` words at rising addresses, an N cycle then S cycles; none marks an aborted one (R288, R290). -/
def readWords : Nat → State → Word → Bool → BitVec 4 → List (Option Word) × State
  | 0, s, _, _, _ => ([], s)
  | n + 1, s, a, seq, b =>
    let r := s.dataRead
      { addr := a, size := .word, user := false, seq := seq, more := decide (0 < n), lock := false, burst := b }
    let rest := readWords n r.2 (a + 4#32) true b
    (r.1 :: rest.1, rest.2)

/-- Write words at rising addresses; true if none was aborted. Later words are written all the same (R288, D10). -/
def writeWords : List Word → State → Word → Bool → BitVec 4 → Bool × State
  | [], s, _, _, _ => (true, s)
  | v :: vs, s, a, seq, b =>
    let r := s.dataWrite
      { addr := a, size := .word, user := false, seq := seq, more := !vs.isEmpty, lock := false, burst := b } v
    let rest := writeWords vs r.2 (a + 4#32) true b
    (r.1 && rest.1, rest.2)

/-- Write the loaded words into their registers of bank `m`, stopping at the first aborted one; r15 is not written
here (R288). -/
def loadRegs (m : Mode) : List Reg → List (Option Word) → State → State
  | n :: ns, some w :: ws, s => loadRegs m ns ws (if n = 15#4 then s else s.setBankReg m n w)
  | _, _, s => s

/-! ### Doubleword (R272, R273) -/

/-- What LDRD and STRD refuse: r14, writeback to a transferred register or r15, r15 as offset, and for LDRD an
offset register among the destinations. -/
def doubleRefusal (load wb : Bool) (rn rd : Reg) (rm : Option Reg) : Option Refusal :=
  if rd = 14#4 then some .doublewordRegister
  else if rm == some 15#4 then some .pcOperand
  else if writebackConflict wb rn rd rm || (wb && decide (rn = rd + 1)) then some .writebackConflict
  else if load && (rm == some rd || rm == some (rd + 1)) then some .doublewordRegister
  else none

/-- LDRD: after an abort of either word the base is as before and neither register is written (R249, R272), unless
`cfg.ldrdKeeps` has a register loaded before the abort keep its word, as R471's table says (entry 15). -/
def State.loadDouble (s : State) (rn rd : Reg) (a : Addressed) : State :=
  let r := readWords 2 s a.addr false 0b0001#4
  match r.1 with
  | [some w0, some w1] => (((r.2.writeBack rn a).setReg rd w0).setReg (rd + 1) w1).advance
  | ws => ((if s.cfg.ldrdKeeps then loadRegs s.mode [rd, rd + 1] ws r.2 else r.2).setReg rn (s.reg rn)).dataAbort

/-- LDRD: an odd Rd is UNDEFINED (R272). -/
def loadDoubleword (rn rd : Reg) (rm : Option Reg) (a : Addressed) (s : State) : Out :=
  if bitAt rd 0 then .next s.undefinedInstr
  else match doubleRefusal true a.writeback.isSome rn rd rm with
    | some r => .refused r
    | none => .next (s.loadDouble rn rd a)

/-- STRD, like an STM of two registers (R273, R288). -/
def State.storeDouble (s : State) (rn rd : Reg) (a : Addressed) : State :=
  let r := writeWords [s.reg rd, s.reg (rd + 1)] s a.addr false 0b0001#4
  if r.1 then (r.2.writeBack rn a).advance else r.2.dataAbort

/-- STRD: an odd Rd is UNDEFINED (R273). -/
def storeDoubleword (rn rd : Reg) (rm : Option Reg) (a : Addressed) (s : State) : Out :=
  if bitAt rd 0 then .next s.undefinedInstr
  else match doubleRefusal false a.writeback.isSome rn rd rm with
    | some r => .refused r
    | none => .next (s.storeDouble rn rd a)

/-! ### The addressing modes of each form -/

/-- Addressing mode 2, immediate, offset or pre-indexed (R246). -/
def addressMemImmPre (o : MemImmPreOps) (s : State) : Addressed := preIndexed o.u o.w (s.reg o.rn) (zext o.imm12)

/-- Addressing mode 2, immediate, post-indexed (R246). -/
def addressMemImmPost (o : MemImmPostOps) (s : State) : Addressed := postIndexed o.u (s.reg o.rn) (zext o.imm12)

/-- Addressing mode 2, scaled register, offset or pre-indexed (R246). -/
def addressMemRegPre (o : MemRegPreOps) (s : State) : Addressed :=
  preIndexed o.u o.w (s.reg o.rn) (s.scaledOffset o.ty o.amount o.rm)

/-- Addressing mode 2, scaled register, post-indexed (R246). -/
def addressMemRegPost (o : MemRegPostOps) (s : State) : Addressed :=
  postIndexed o.u (s.reg o.rn) (s.scaledOffset o.ty o.amount o.rm)

/-- Addressing mode 3, immediate (R248). -/
def addressExtImm (o : ExtImmOps) (s : State) : Addressed := mode3 o.p o.u o.w (s.reg o.rn) (zext o.imm8)

/-- Addressing mode 3, register (R248). -/
def addressExtReg (o : ExtRegOps) (s : State) : Addressed := mode3 o.p o.u o.w (s.reg o.rn) (s.reg o.rm)


/-- STRH, immediate offset (R261). -/
def execStrhImm (o : ExtImmOps) (s : State) : Out :=
  s.ifPassed o.cond fun s => storeSingle .half false false o.rn o.rd none (addressExtImm o s) s

/-- STRH, register offset (R261). -/
def execStrhReg (o : ExtRegOps) (s : State) : Out :=
  s.ifPassed o.cond fun s => storeSingle .half false false o.rn o.rd (some o.rm) (addressExtReg o s) s

/-- LDRH, immediate offset (R258). -/
def execLdrhImm (o : ExtImmOps) (s : State) : Out :=
  s.ifPassed o.cond fun s => loadSingle .half false false o.rn o.rd none (addressExtImm o s) s

/-- LDRH, register offset (R258). -/
def execLdrhReg (o : ExtRegOps) (s : State) : Out :=
  s.ifPassed o.cond fun s => loadSingle .half false false o.rn o.rd (some o.rm) (addressExtReg o s) s

/-- LDRSB, immediate offset (R259). -/
def execLdrsbImm (o : ExtImmOps) (s : State) : Out :=
  s.ifPassed o.cond fun s => loadSingle .signedByte false false o.rn o.rd none (addressExtImm o s) s

/-- LDRSB, register offset (R259). -/
def execLdrsbReg (o : ExtRegOps) (s : State) : Out :=
  s.ifPassed o.cond fun s => loadSingle .signedByte false false o.rn o.rd (some o.rm) (addressExtReg o s) s

/-- LDRSH, immediate offset (R260). -/
def execLdrshImm (o : ExtImmOps) (s : State) : Out :=
  s.ifPassed o.cond fun s => loadSingle .signedHalf false false o.rn o.rd none (addressExtImm o s) s

/-- LDRSH, register offset (R260). -/
def execLdrshReg (o : ExtRegOps) (s : State) : Out :=
  s.ifPassed o.cond fun s => loadSingle .signedHalf false false o.rn o.rd (some o.rm) (addressExtReg o s) s

/-- LDRD, immediate offset (R272). -/
def execLdrdImm (o : ExtImmOps) (s : State) : Out :=
  s.ifPassed o.cond fun s => loadDoubleword o.rn o.rd none (addressExtImm o s) s

/-- LDRD, register offset (R272). -/
def execLdrdReg (o : ExtRegOps) (s : State) : Out :=
  s.ifPassed o.cond fun s => loadDoubleword o.rn o.rd (some o.rm) (addressExtReg o s) s

/-- STRD, immediate offset (R273). -/
def execStrdImm (o : ExtImmOps) (s : State) : Out :=
  s.ifPassed o.cond fun s => storeDoubleword o.rn o.rd none (addressExtImm o s) s

/-- STRD, register offset (R273). -/
def execStrdReg (o : ExtRegOps) (s : State) : Out :=
  s.ifPassed o.cond fun s => storeDoubleword o.rn o.rd (some o.rm) (addressExtReg o s) s

/-- LDR, immediate, offset or pre-indexed (R250). -/
def execLdrImmPre (o : MemImmPreOps) (s : State) : Out :=
  s.ifPassed o.cond fun s => loadSingle .word true false o.rn o.rd none (addressMemImmPre o s) s

/-- LDR, immediate, post-indexed (R250). -/
def execLdrImmPost (o : MemImmPostOps) (s : State) : Out :=
  s.ifPassed o.cond fun s => loadSingle .word true false o.rn o.rd none (addressMemImmPost o s) s

/-- LDRT, immediate, post-indexed (R252). -/
def execLdrtImm (o : MemImmPostOps) (s : State) : Out :=
  s.ifPassed o.cond fun s => loadSingle .word false true o.rn o.rd none (addressMemImmPost o s) s

/-- LDR, scaled register, offset or pre-indexed (R250). -/
def execLdrRegPre (o : MemRegPreOps) (s : State) : Out :=
  s.ifPassed o.cond fun s => loadSingle .word true false o.rn o.rd (some o.rm) (addressMemRegPre o s) s

/-- LDR, scaled register, post-indexed (R250). -/
def execLdrRegPost (o : MemRegPostOps) (s : State) : Out :=
  s.ifPassed o.cond fun s => loadSingle .word true false o.rn o.rd (some o.rm) (addressMemRegPost o s) s

/-- LDRT, scaled register, post-indexed (R252). -/
def execLdrtReg (o : MemRegPostOps) (s : State) : Out :=
  s.ifPassed o.cond fun s => loadSingle .word false true o.rn o.rd (some o.rm) (addressMemRegPost o s) s

/-- LDRB, immediate, offset or pre-indexed (R251). -/
def execLdrbImmPre (o : MemImmPreOps) (s : State) : Out :=
  s.ifPassed o.cond fun s => loadSingle .byte false false o.rn o.rd none (addressMemImmPre o s) s

/-- LDRB, immediate, post-indexed (R251). -/
def execLdrbImmPost (o : MemImmPostOps) (s : State) : Out :=
  s.ifPassed o.cond fun s => loadSingle .byte false false o.rn o.rd none (addressMemImmPost o s) s

/-- LDRBT, immediate, post-indexed (R253). -/
def execLdrbtImm (o : MemImmPostOps) (s : State) : Out :=
  s.ifPassed o.cond fun s => loadSingle .byte false true o.rn o.rd none (addressMemImmPost o s) s

/-- LDRB, scaled register, offset or pre-indexed (R251). -/
def execLdrbRegPre (o : MemRegPreOps) (s : State) : Out :=
  s.ifPassed o.cond fun s => loadSingle .byte false false o.rn o.rd (some o.rm) (addressMemRegPre o s) s

/-- LDRB, scaled register, post-indexed (R251). -/
def execLdrbRegPost (o : MemRegPostOps) (s : State) : Out :=
  s.ifPassed o.cond fun s => loadSingle .byte false false o.rn o.rd (some o.rm) (addressMemRegPost o s) s

/-- LDRBT, scaled register, post-indexed (R253). -/
def execLdrbtReg (o : MemRegPostOps) (s : State) : Out :=
  s.ifPassed o.cond fun s => loadSingle .byte false true o.rn o.rd (some o.rm) (addressMemRegPost o s) s

/-- STR, immediate, offset or pre-indexed (R254). -/
def execStrImmPre (o : MemImmPreOps) (s : State) : Out :=
  s.ifPassed o.cond fun s => storeSingle .word true false o.rn o.rd none (addressMemImmPre o s) s

/-- STR, immediate, post-indexed (R254). -/
def execStrImmPost (o : MemImmPostOps) (s : State) : Out :=
  s.ifPassed o.cond fun s => storeSingle .word true false o.rn o.rd none (addressMemImmPost o s) s

/-- STRT, immediate, post-indexed (R256). -/
def execStrtImm (o : MemImmPostOps) (s : State) : Out :=
  s.ifPassed o.cond fun s => storeSingle .word true true o.rn o.rd none (addressMemImmPost o s) s

/-- STR, scaled register, offset or pre-indexed (R254). -/
def execStrRegPre (o : MemRegPreOps) (s : State) : Out :=
  s.ifPassed o.cond fun s => storeSingle .word true false o.rn o.rd (some o.rm) (addressMemRegPre o s) s

/-- STR, scaled register, post-indexed (R254). -/
def execStrRegPost (o : MemRegPostOps) (s : State) : Out :=
  s.ifPassed o.cond fun s => storeSingle .word true false o.rn o.rd (some o.rm) (addressMemRegPost o s) s

/-- STRT, scaled register, post-indexed (R256). -/
def execStrtReg (o : MemRegPostOps) (s : State) : Out :=
  s.ifPassed o.cond fun s => storeSingle .word true true o.rn o.rd (some o.rm) (addressMemRegPost o s) s

/-- STRB, immediate, offset or pre-indexed (R255). -/
def execStrbImmPre (o : MemImmPreOps) (s : State) : Out :=
  s.ifPassed o.cond fun s => storeSingle .byte false false o.rn o.rd none (addressMemImmPre o s) s

/-- STRB, immediate, post-indexed (R255). -/
def execStrbImmPost (o : MemImmPostOps) (s : State) : Out :=
  s.ifPassed o.cond fun s => storeSingle .byte false false o.rn o.rd none (addressMemImmPost o s) s

/-- STRBT, immediate, post-indexed (R257). -/
def execStrbtImm (o : MemImmPostOps) (s : State) : Out :=
  s.ifPassed o.cond fun s => storeSingle .byte false true o.rn o.rd none (addressMemImmPost o s) s

/-- STRB, scaled register, offset or pre-indexed (R255). -/
def execStrbRegPre (o : MemRegPreOps) (s : State) : Out :=
  s.ifPassed o.cond fun s => storeSingle .byte false false o.rn o.rd (some o.rm) (addressMemRegPre o s) s

/-- STRB, scaled register, post-indexed (R255). -/
def execStrbRegPost (o : MemRegPostOps) (s : State) : Out :=
  s.ifPassed o.cond fun s => storeSingle .byte false false o.rn o.rd (some o.rm) (addressMemRegPost o s) s

/-- STRBT, scaled register, post-indexed (R257). -/
def execStrbtReg (o : MemRegPostOps) (s : State) : Out :=
  s.ifPassed o.cond fun s => storeSingle .byte false true o.rn o.rd (some o.rm) (addressMemRegPost o s) s

/-! ### PLD (R274) -/

/-- The preload hint: an I cycle, the address on DA with DnSPEC asserted, and nothing else (R86, R93, R274). What `DMAS`, `DnRW`, `DBURST`
and the other signals show in that internal cycle is not stated; the record says a byte, a read, burst 0, no lock, the
privilege and mode of the instruction: DESIGN CHOICE (entry 37). -/
def State.preload (s : State) (a : Word) : State :=
  { s with bus := s.bus ++ [{ s.cycle (Req.plain a .byte) false 0 with request := false, spec := true }] }

/-- PLD, immediate offset (R274). -/
def execPldImm (o : PldImmOps) (s : State) : Out :=
  .next (s.preload (addOffset o.u (s.reg o.rn) (zext o.imm12))).advance

/-- PLD, scaled register offset; Rm = r15 is refused (R274). -/
def execPldReg (o : PldRegOps) (s : State) : Out :=
  if o.rm = 15#4 then .refused .pcOperand
  else .next (s.preload (addOffset o.u (s.reg o.rn) (s.scaledOffset o.ty o.amount o.rm))).advance

end Sys2Proof.Machine
end

