-- ==== Sys2Proof/Machine/Coprocessor.lean ====
section
/-! DEFINITION. Coprocessor instructions (spec/46_coprocessor.md): the handshake with the coprocessors outside, and
coprocessor 14 inside the core. -/

namespace Sys2Proof.Machine

/-- A coprocessor instruction addressed outside the core: offered with its word, then ABSENT is Undefined, WAIT
leaves the instruction in Execute, an acceptance commits (R326 to R328). p14 is never offered (R345). -/
def coprocessor (instr : Word) (cp : BitVec 4) (k : Nat → List Word → State → Out) (s : State) : Out :=
  if cp = 14#4 then .next s.undefinedInstr
  else
    let t := s.cpAnswer.2.cpOffer instr
    match s.cpAnswer.1 with
    | .absent => .next t.undefinedInstr
    | .wait => .next t.busyWait
    | .accept more ws => k more ws t

/-- The first word the coprocessor supplies; a free value if the script has none (entry 12). -/
def State.supplied (s : State) (ws : List Word) : Word × State :=
  match ws with
  | w :: _ => (w, s)
  | [] => s.draw

/-- `n` supplied words. -/
def suppliedWords : Nat → List Word → State → List Word × State
  | 0, _, s => ([], s)
  | n + 1, ws, s =>
    let r := s.supplied ws
    let rest := suppliedWords n ws.tail r.2
    (r.1 :: rest.1, rest.2)

/-- The word MCR drives: r15's is free (R333; 93 section 2.2, entry 3). -/
def State.mcrWord (s : State) (rd : Reg) : Word × State := if rd = 15#4 then s.draw else (s.reg rd, s)

/-- MRC's destination: r15 means the four condition flags (R334). -/
def State.writeMrc (s : State) (rd : Reg) (w : Word) : State :=
  if rd = 15#4 then s.setCpsr (setPsrNZCV s.cpsr (bitAt w 31) (bitAt w 30) (bitAt w 29) (bitAt w 28))
  else s.setReg rd w

/-! ### Coprocessor 14 (R344, R345) -/

/-- The exact encodings of R344: op1 = 0, CRm = c0, op2 = 0, CRn = c0, c1 or c2. -/
def cp14Register (op1 : BitVec 3) (crn : BitVec 4) (op2 : BitVec 3) (crm : BitVec 4) : Bool :=
  decide (op1 = 0 ∧ op2 = 0 ∧ crm = 0 ∧ (crn = 0#4 ∨ crn = 1#4 ∨ crn = 2#4))

/-- The comms control register as the processor reads it; while DBGnTRST is LOW bits 1:0 read 10 (R603). -/
def State.commsStatus (s : State) : Word :=
  if s.pins.nTRST then commsControl s.ice.w s.ice.r else commsControl true false

/-- What an MRC from coprocessor 14 reads (R344). -/
def State.cp14Value (s : State) (crn : BitVec 4) : Word :=
  if crn = 0#4 then s.commsStatus else if crn = 1#4 then s.ice.dccRd else zext (bit s.ice.dbgAbt)

/-- An MRC of the data register clears R (R344). -/
def State.cp14AfterRead (s : State) (crn : BitVec 4) : State :=
  if crn = 1#4 then { s with ice := { s.ice with r := false } } else s

/-- An MCR to coprocessor 14: c0 is ignored, c1 sets W, c2 writes DbgAbt (R344). While DBGnTRST is LOW W is held
in reset (R57, R603), and DbgAbt too: DESIGN CHOICE, since R57 gives only its value after the reset (entry 13). -/
def State.cp14Write (s : State) (crn : BitVec 4) (v : Word) : State :=
  if crn = 1#4 then { s with ice := { s.ice with dccWr := v, w := s.pins.nTRST } }
  else if crn = 2#4 then { s with ice := { s.ice with dbgAbt := s.pins.nTRST && bitAt v 0 } }
  else s

/-! ### The instructions -/

/-- CDP (R330). -/
def execCdp (o : CdpOps) (s : State) : Out :=
  s.ifPassed o.cond fun s => coprocessor o.word o.cp (fun _ _ t => .next t.advance) s

/-- CDP2 (R338). -/
def execCdp2 (o : Cdp2Ops) (s : State) : Out := coprocessor o.word o.cp (fun _ _ t => .next t.advance) s

/-- MCR to a coprocessor outside: one word is driven, in a C cycle (R86, R333, R343). -/
def moveToCoprocessor (instr : Word) (cp : BitVec 4) (rd : Reg) (s : State) : Out :=
  coprocessor instr cp (fun more _ t =>
    let r := t.mcrWord rd
    .next (((r.2.cpDrive cp more r.1).cpTransfer true r.1).cpSend r.1).advance) s

/-- MRC from a coprocessor outside: one word is read, in a C cycle (R86, R334). -/
def moveFromCoprocessor (instr : Word) (cp : BitVec 4) (rd : Reg) (s : State) : Out :=
  coprocessor instr cp (fun _ ws t =>
    let r := t.supplied ws
    .next ((r.2.cpTransfer false r.1).writeMrc rd r.1).advance) s

/-- MCR (R333, R344). -/
def execMcr (o : McrOps) (s : State) : Out :=
  s.ifPassed o.cond fun s =>
    if o.cp = 14#4 ∧ cp14Register o.op1 o.crn o.op2 o.crm then
      let r := s.mcrWord o.rd
      .next ((r.2.cpTransfer true r.1).cp14Write o.crn r.1).advance
    else moveToCoprocessor (o.word 0b0#1) o.cp o.rd s

/-- MRC (R334, R344). -/
def execMrc (o : McrOps) (s : State) : Out :=
  s.ifPassed o.cond fun s =>
    if o.cp = 14#4 ∧ cp14Register o.op1 o.crn o.op2 o.crm then
      let w := s.cp14Value o.crn
      .next (((s.cp14AfterRead o.crn).cpTransfer false w).writeMrc o.rd w).advance
    else moveFromCoprocessor (o.word 0b1#1) o.cp o.rd s

/-- MCR2: never coprocessor 14 (R338). -/
def execMcr2 (o : Mcr2Ops) (s : State) : Out := moveToCoprocessor (o.word 0b0#1) o.cp o.rd s

/-- MRC2 (R338). -/
def execMrc2 (o : Mcr2Ops) (s : State) : Out := moveFromCoprocessor (o.word 0b1#1) o.cp o.rd s

/-- MCRR: Rd then Rn, in two C cycles; r15 is refused once accepted (R86, R335). -/
def execMcrr (o : McrrOps) (s : State) : Out :=
  s.ifPassed o.cond fun s =>
    coprocessor (o.word 0b0#1) o.cp (fun _ _ t =>
      if o.rd = 15#4 ∨ o.rn = 15#4 then .refused .pcOperand
      else
        let u := (t.cpTransfer true (t.reg o.rd)).cpTransfer true (t.reg o.rn)
        .next ((u.cpSend (t.reg o.rd)).cpSend (t.reg o.rn)).advance) s

/-- MRRC: the first word to Rd, the second to Rn, in two C cycles (R86, R336). -/
def execMrrc (o : McrrOps) (s : State) : Out :=
  s.ifPassed o.cond fun s =>
    coprocessor (o.word 0b1#1) o.cp (fun _ ws t =>
      if o.rd = 15#4 ∨ o.rn = 15#4 then .refused .pcOperand
      else if o.rd = o.rn then .refused .coprocessorRegister
      else
        let r := suppliedWords 2 ws t
        let first := r.1.headD 0
        let second := r.1.getLast?.getD 0
        let u := (r.2.cpTransfer false first).cpTransfer false second
        .next ((u.setReg o.rd first).setReg o.rn second).advance) s

/-- The words before the first aborted one go to the coprocessor (R331, R339). -/
def sendWords : List (Option Word) → State → State
  | some w :: ws, s => sendWords ws (s.cpSend w)
  | _, s => s

/-- LDC's transfer of `n` words (R331, R337, R339). After an aborted word the later ones are still requested on the data
interface, as LDM's are (R288), and go nowhere; of LDC R339 says only that the data phase stops: DESIGN CHOICE (entry
15). -/
def State.loadCoprocessor (s : State) (n : Nat) (rn : Reg) (a : Addressed) : State :=
  let r := readWords n s a.addr false 0
  let t := sendWords r.1 r.2
  if r.1.all Option.isSome then (t.writeBack rn a).advance else t.dataAbort

/-- STC's transfer of the supplied words (R332, R337, R339). -/
def State.storeCoprocessor (s : State) (vs : List Word) (rn : Reg) (a : Addressed) : State :=
  let r := writeWords vs s a.addr false 0
  if r.1 then (r.2.writeBack rn a).advance else r.2.dataAbort

/-- LDC and LDC2: writeback to r15 is refused once accepted (R331, R337). -/
def coprocessorLoad (instr : Word) (cp : BitVec 4) (rn : Reg) (a : State → Addressed) (s : State) : Out :=
  coprocessor instr cp (fun more _ t =>
    if rn = 15#4 ∧ (a t).writeback.isSome then .refused .writebackConflict
    else .next (t.loadCoprocessor (more + 1) rn (a t))) s

/-- STC and STC2 (R332, R337). -/
def coprocessorStore (instr : Word) (cp : BitVec 4) (rn : Reg) (a : State → Addressed) (s : State) : Out :=
  coprocessor instr cp (fun more ws t =>
    if rn = 15#4 ∧ (a t).writeback.isSome then .refused .writebackConflict
    else
      let r := suppliedWords (more + 1) ws t
      .next (r.2.storeCoprocessor r.1 rn (a t))) s

/-- LDC (R331). -/
def execLdc (o : LdcOps) (s : State) : Out :=
  s.ifPassed o.cond fun s =>
    coprocessorLoad (o.word 0b1#1) o.cp o.rn (fun t => mode5 o.p o.u o.w o.imm8 (t.reg o.rn)) s

/-- STC (R332). -/
def execStc (o : LdcOps) (s : State) : Out :=
  s.ifPassed o.cond fun s =>
    coprocessorStore (o.word 0b0#1) o.cp o.rn (fun t => mode5 o.p o.u o.w o.imm8 (t.reg o.rn)) s

/-- LDC2 (R338). -/
def execLdc2 (o : Ldc2Ops) (s : State) : Out :=
  coprocessorLoad (o.word 0b1#1) o.cp o.rn (fun t => mode5 o.p o.u o.w o.imm8 (t.reg o.rn)) s

/-- STC2 (R338). -/
def execStc2 (o : Ldc2Ops) (s : State) : Out :=
  coprocessorStore (o.word 0b0#1) o.cp o.rn (fun t => mode5 o.p o.u o.w o.imm8 (t.reg o.rn)) s

end Sys2Proof.Machine
end

