-- ==== Sys2Proof/Machine/DataProcessing.lean ====
section
/-! DEFINITION. ARM data processing (spec/40_data_processing.md) and CLZ: one operation per opcode over the shared
frame of R187, then one meaning per row. -/

namespace Sys2Proof.Machine

/-- A data-processing operation: first operand, shifter operand and CPSR to the result and the CPSR its flags make
(R187). -/
abbrev AluOp := Word → Shifted → Word → Word × Word

/-- An operation of the logical class (R166). -/
def logicalOp (f : Word → Word → Word) : AluOp := fun a b p =>
  let r := f a b.value
  (r, logicFlags p r b.carry)

/-- An operation of the arithmetic class (R166). -/
def arithmeticOp (f : Word → Word → Bool → AddResult) : AluOp := fun a b p =>
  let r := f a b.value (psrC p)
  (r.value, arithFlags p r)

/-- AND (R170). -/
def aluAnd : AluOp := logicalOp fun a b => a &&& b
/-- EOR (R171). -/
def aluEor : AluOp := logicalOp fun a b => a ^^^ b
/-- SUB (R172). -/
def aluSub : AluOp := arithmeticOp fun a b _ => addWithCarry a (~~~b) true
/-- RSB (R173). -/
def aluRsb : AluOp := arithmeticOp fun a b _ => addWithCarry (~~~a) b true
/-- ADD (R174). -/
def aluAdd : AluOp := arithmeticOp fun a b _ => addWithCarry a b false
/-- ADC (R175). -/
def aluAdc : AluOp := arithmeticOp fun a b c => addWithCarry a b c
/-- SBC (R176). -/
def aluSbc : AluOp := arithmeticOp fun a b c => addWithCarry a (~~~b) c
/-- RSC (R177). -/
def aluRsc : AluOp := arithmeticOp fun a b c => addWithCarry (~~~a) b c
/-- TST (R178). -/
def aluTst : AluOp := logicalOp fun a b => a &&& b
/-- TEQ (R179). -/
def aluTeq : AluOp := logicalOp fun a b => a ^^^ b
/-- CMP (R180). -/
def aluCmp : AluOp := arithmeticOp fun a b _ => addWithCarry a (~~~b) true
/-- CMN (R181). -/
def aluCmn : AluOp := arithmeticOp fun a b _ => addWithCarry a b false
/-- ORR (R182). -/
def aluOrr : AluOp := logicalOp fun a b => a ||| b
/-- MOV (R183). -/
def aluMov : AluOp := logicalOp fun _ b => b
/-- BIC (R184). -/
def aluBic : AluOp := logicalOp fun a b => a &&& ~~~b
/-- MVN (R185). -/
def aluMvn : AluOp := logicalOp fun _ b => ~~~b

/-- Write a result: r15 is a branch, or with S an exception return (R167, R169, R187). -/
def State.writeResult (s : State) (setFlags : Bool) (rd : Reg) (r : Word × Word) : State :=
  if rd = 15#4 then (if setFlags then s.exceptionReturn r.1 else s.writePc r.1)
  else if setFlags then ((s.setReg rd r.1).setCpsr r.2).advance
  else (s.setReg rd r.1).advance

/-- The frame of R187 for an instruction that writes Rd. -/
def dataProcessing (op : AluOp) (c : Cond) (setFlags : Bool) (rn rd : Reg) (b : State → Shifted) (s : State) : Out :=
  s.ifPassed c fun s => .next (s.writeResult setFlags rd (op (s.reg rn) (b s) s.cpsr))

/-- MOV and MVN: there is no first operand (R160). -/
def dataMove (op : AluOp) (c : Cond) (setFlags : Bool) (rd : Reg) (b : State → Shifted) (s : State) : Out :=
  s.ifPassed c fun s => .next (s.writeResult setFlags rd (op 0 (b s) s.cpsr))

/-- The comparisons write the flags only (R160). -/
def dataCompare (op : AluOp) (c : Cond) (rn : Reg) (b : State → Shifted) (s : State) : Out :=
  s.ifPassed c fun s => .next (s.setCpsr (op (s.reg rn) (b s) s.cpsr).2).advance

/-- A register-specified shift refuses r15 in any register field (R164, U22). -/
def registerShift (c : Cond) (regs : List Reg) (k : State → Out) (s : State) : Out :=
  s.ifPassed c fun s => if regs.contains 15#4 then .refused .pcRegisterShift else k s


/-- AND, immediate (R170). -/
def execAndImm (o : AluImmOps) (s : State) : Out :=
  dataProcessing aluAnd o.cond o.s o.rn o.rd (fun s => immOperand o.rot o.imm8 (psrC s.cpsr)) s

/-- AND, register shifted by an immediate (R170). -/
def execAndShift (o : AluShiftOps) (s : State) : Out :=
  dataProcessing aluAnd o.cond o.s o.rn o.rd (fun s => s.shiftImmOperand o.ty o.amount o.rm) s

/-- AND, register shifted by a register (R170). -/
def execAndReg (o : AluRegOps) (s : State) : Out :=
  registerShift o.cond [o.rd, o.rn, o.rm, o.rs]
    (dataProcessing aluAnd o.cond o.s o.rn o.rd (fun s => s.shiftRegOperand o.ty o.rm o.rs)) s

/-- EOR, immediate (R171). -/
def execEorImm (o : AluImmOps) (s : State) : Out :=
  dataProcessing aluEor o.cond o.s o.rn o.rd (fun s => immOperand o.rot o.imm8 (psrC s.cpsr)) s

/-- EOR, register shifted by an immediate (R171). -/
def execEorShift (o : AluShiftOps) (s : State) : Out :=
  dataProcessing aluEor o.cond o.s o.rn o.rd (fun s => s.shiftImmOperand o.ty o.amount o.rm) s

/-- EOR, register shifted by a register (R171). -/
def execEorReg (o : AluRegOps) (s : State) : Out :=
  registerShift o.cond [o.rd, o.rn, o.rm, o.rs]
    (dataProcessing aluEor o.cond o.s o.rn o.rd (fun s => s.shiftRegOperand o.ty o.rm o.rs)) s

/-- SUB, immediate (R172). -/
def execSubImm (o : AluImmOps) (s : State) : Out :=
  dataProcessing aluSub o.cond o.s o.rn o.rd (fun s => immOperand o.rot o.imm8 (psrC s.cpsr)) s

/-- SUB, register shifted by an immediate (R172). -/
def execSubShift (o : AluShiftOps) (s : State) : Out :=
  dataProcessing aluSub o.cond o.s o.rn o.rd (fun s => s.shiftImmOperand o.ty o.amount o.rm) s

/-- SUB, register shifted by a register (R172). -/
def execSubReg (o : AluRegOps) (s : State) : Out :=
  registerShift o.cond [o.rd, o.rn, o.rm, o.rs]
    (dataProcessing aluSub o.cond o.s o.rn o.rd (fun s => s.shiftRegOperand o.ty o.rm o.rs)) s

/-- RSB, immediate (R173). -/
def execRsbImm (o : AluImmOps) (s : State) : Out :=
  dataProcessing aluRsb o.cond o.s o.rn o.rd (fun s => immOperand o.rot o.imm8 (psrC s.cpsr)) s

/-- RSB, register shifted by an immediate (R173). -/
def execRsbShift (o : AluShiftOps) (s : State) : Out :=
  dataProcessing aluRsb o.cond o.s o.rn o.rd (fun s => s.shiftImmOperand o.ty o.amount o.rm) s

/-- RSB, register shifted by a register (R173). -/
def execRsbReg (o : AluRegOps) (s : State) : Out :=
  registerShift o.cond [o.rd, o.rn, o.rm, o.rs]
    (dataProcessing aluRsb o.cond o.s o.rn o.rd (fun s => s.shiftRegOperand o.ty o.rm o.rs)) s

/-- ADD, immediate (R174). -/
def execAddImm (o : AluImmOps) (s : State) : Out :=
  dataProcessing aluAdd o.cond o.s o.rn o.rd (fun s => immOperand o.rot o.imm8 (psrC s.cpsr)) s

/-- ADD, register shifted by an immediate (R174). -/
def execAddShift (o : AluShiftOps) (s : State) : Out :=
  dataProcessing aluAdd o.cond o.s o.rn o.rd (fun s => s.shiftImmOperand o.ty o.amount o.rm) s

/-- ADD, register shifted by a register (R174). -/
def execAddReg (o : AluRegOps) (s : State) : Out :=
  registerShift o.cond [o.rd, o.rn, o.rm, o.rs]
    (dataProcessing aluAdd o.cond o.s o.rn o.rd (fun s => s.shiftRegOperand o.ty o.rm o.rs)) s

/-- ADC, immediate (R175). -/
def execAdcImm (o : AluImmOps) (s : State) : Out :=
  dataProcessing aluAdc o.cond o.s o.rn o.rd (fun s => immOperand o.rot o.imm8 (psrC s.cpsr)) s

/-- ADC, register shifted by an immediate (R175). -/
def execAdcShift (o : AluShiftOps) (s : State) : Out :=
  dataProcessing aluAdc o.cond o.s o.rn o.rd (fun s => s.shiftImmOperand o.ty o.amount o.rm) s

/-- ADC, register shifted by a register (R175). -/
def execAdcReg (o : AluRegOps) (s : State) : Out :=
  registerShift o.cond [o.rd, o.rn, o.rm, o.rs]
    (dataProcessing aluAdc o.cond o.s o.rn o.rd (fun s => s.shiftRegOperand o.ty o.rm o.rs)) s

/-- SBC, immediate (R176). -/
def execSbcImm (o : AluImmOps) (s : State) : Out :=
  dataProcessing aluSbc o.cond o.s o.rn o.rd (fun s => immOperand o.rot o.imm8 (psrC s.cpsr)) s

/-- SBC, register shifted by an immediate (R176). -/
def execSbcShift (o : AluShiftOps) (s : State) : Out :=
  dataProcessing aluSbc o.cond o.s o.rn o.rd (fun s => s.shiftImmOperand o.ty o.amount o.rm) s

/-- SBC, register shifted by a register (R176). -/
def execSbcReg (o : AluRegOps) (s : State) : Out :=
  registerShift o.cond [o.rd, o.rn, o.rm, o.rs]
    (dataProcessing aluSbc o.cond o.s o.rn o.rd (fun s => s.shiftRegOperand o.ty o.rm o.rs)) s

/-- RSC, immediate (R177). -/
def execRscImm (o : AluImmOps) (s : State) : Out :=
  dataProcessing aluRsc o.cond o.s o.rn o.rd (fun s => immOperand o.rot o.imm8 (psrC s.cpsr)) s

/-- RSC, register shifted by an immediate (R177). -/
def execRscShift (o : AluShiftOps) (s : State) : Out :=
  dataProcessing aluRsc o.cond o.s o.rn o.rd (fun s => s.shiftImmOperand o.ty o.amount o.rm) s

/-- RSC, register shifted by a register (R177). -/
def execRscReg (o : AluRegOps) (s : State) : Out :=
  registerShift o.cond [o.rd, o.rn, o.rm, o.rs]
    (dataProcessing aluRsc o.cond o.s o.rn o.rd (fun s => s.shiftRegOperand o.ty o.rm o.rs)) s

/-- TST, immediate (R178). -/
def execTstImm (o : CmpImmOps) (s : State) : Out :=
  dataCompare aluTst o.cond o.rn (fun s => immOperand o.rot o.imm8 (psrC s.cpsr)) s

/-- TST, register shifted by an immediate (R178). -/
def execTstShift (o : CmpShiftOps) (s : State) : Out :=
  dataCompare aluTst o.cond o.rn (fun s => s.shiftImmOperand o.ty o.amount o.rm) s

/-- TST, register shifted by a register (R178). -/
def execTstReg (o : CmpRegOps) (s : State) : Out :=
  registerShift o.cond [o.rn, o.rm, o.rs]
    (dataCompare aluTst o.cond o.rn (fun s => s.shiftRegOperand o.ty o.rm o.rs)) s

/-- TEQ, immediate (R179). -/
def execTeqImm (o : CmpImmOps) (s : State) : Out :=
  dataCompare aluTeq o.cond o.rn (fun s => immOperand o.rot o.imm8 (psrC s.cpsr)) s

/-- TEQ, register shifted by an immediate (R179). -/
def execTeqShift (o : CmpShiftOps) (s : State) : Out :=
  dataCompare aluTeq o.cond o.rn (fun s => s.shiftImmOperand o.ty o.amount o.rm) s

/-- TEQ, register shifted by a register (R179). -/
def execTeqReg (o : CmpRegOps) (s : State) : Out :=
  registerShift o.cond [o.rn, o.rm, o.rs]
    (dataCompare aluTeq o.cond o.rn (fun s => s.shiftRegOperand o.ty o.rm o.rs)) s

/-- CMP, immediate (R180). -/
def execCmpImm (o : CmpImmOps) (s : State) : Out :=
  dataCompare aluCmp o.cond o.rn (fun s => immOperand o.rot o.imm8 (psrC s.cpsr)) s

/-- CMP, register shifted by an immediate (R180). -/
def execCmpShift (o : CmpShiftOps) (s : State) : Out :=
  dataCompare aluCmp o.cond o.rn (fun s => s.shiftImmOperand o.ty o.amount o.rm) s

/-- CMP, register shifted by a register (R180). -/
def execCmpReg (o : CmpRegOps) (s : State) : Out :=
  registerShift o.cond [o.rn, o.rm, o.rs]
    (dataCompare aluCmp o.cond o.rn (fun s => s.shiftRegOperand o.ty o.rm o.rs)) s

/-- CMN, immediate (R181). -/
def execCmnImm (o : CmpImmOps) (s : State) : Out :=
  dataCompare aluCmn o.cond o.rn (fun s => immOperand o.rot o.imm8 (psrC s.cpsr)) s

/-- CMN, register shifted by an immediate (R181). -/
def execCmnShift (o : CmpShiftOps) (s : State) : Out :=
  dataCompare aluCmn o.cond o.rn (fun s => s.shiftImmOperand o.ty o.amount o.rm) s

/-- CMN, register shifted by a register (R181). -/
def execCmnReg (o : CmpRegOps) (s : State) : Out :=
  registerShift o.cond [o.rn, o.rm, o.rs]
    (dataCompare aluCmn o.cond o.rn (fun s => s.shiftRegOperand o.ty o.rm o.rs)) s

/-- ORR, immediate (R182). -/
def execOrrImm (o : AluImmOps) (s : State) : Out :=
  dataProcessing aluOrr o.cond o.s o.rn o.rd (fun s => immOperand o.rot o.imm8 (psrC s.cpsr)) s

/-- ORR, register shifted by an immediate (R182). -/
def execOrrShift (o : AluShiftOps) (s : State) : Out :=
  dataProcessing aluOrr o.cond o.s o.rn o.rd (fun s => s.shiftImmOperand o.ty o.amount o.rm) s

/-- ORR, register shifted by a register (R182). -/
def execOrrReg (o : AluRegOps) (s : State) : Out :=
  registerShift o.cond [o.rd, o.rn, o.rm, o.rs]
    (dataProcessing aluOrr o.cond o.s o.rn o.rd (fun s => s.shiftRegOperand o.ty o.rm o.rs)) s

/-- MOV, immediate (R183). -/
def execMovImm (o : MovImmOps) (s : State) : Out :=
  dataMove aluMov o.cond o.s o.rd (fun s => immOperand o.rot o.imm8 (psrC s.cpsr)) s

/-- MOV, register shifted by an immediate (R183). -/
def execMovShift (o : MovShiftOps) (s : State) : Out :=
  dataMove aluMov o.cond o.s o.rd (fun s => s.shiftImmOperand o.ty o.amount o.rm) s

/-- MOV, register shifted by a register (R183). -/
def execMovReg (o : MovRegOps) (s : State) : Out :=
  registerShift o.cond [o.rd, o.rm, o.rs]
    (dataMove aluMov o.cond o.s o.rd (fun s => s.shiftRegOperand o.ty o.rm o.rs)) s

/-- BIC, immediate (R184). -/
def execBicImm (o : AluImmOps) (s : State) : Out :=
  dataProcessing aluBic o.cond o.s o.rn o.rd (fun s => immOperand o.rot o.imm8 (psrC s.cpsr)) s

/-- BIC, register shifted by an immediate (R184). -/
def execBicShift (o : AluShiftOps) (s : State) : Out :=
  dataProcessing aluBic o.cond o.s o.rn o.rd (fun s => s.shiftImmOperand o.ty o.amount o.rm) s

/-- BIC, register shifted by a register (R184). -/
def execBicReg (o : AluRegOps) (s : State) : Out :=
  registerShift o.cond [o.rd, o.rn, o.rm, o.rs]
    (dataProcessing aluBic o.cond o.s o.rn o.rd (fun s => s.shiftRegOperand o.ty o.rm o.rs)) s

/-- MVN, immediate (R185). -/
def execMvnImm (o : MovImmOps) (s : State) : Out :=
  dataMove aluMvn o.cond o.s o.rd (fun s => immOperand o.rot o.imm8 (psrC s.cpsr)) s

/-- MVN, register shifted by an immediate (R185). -/
def execMvnShift (o : MovShiftOps) (s : State) : Out :=
  dataMove aluMvn o.cond o.s o.rd (fun s => s.shiftImmOperand o.ty o.amount o.rm) s

/-- MVN, register shifted by a register (R185). -/
def execMvnReg (o : MovRegOps) (s : State) : Out :=
  registerShift o.cond [o.rd, o.rm, o.rs]
    (dataMove aluMvn o.cond o.s o.rd (fun s => s.shiftRegOperand o.ty o.rm o.rs)) s

/-- `CLZ` of a word: 32 for 0, else 31 less the index of the top 1 bit (R186). -/
def countLeadingZeros (x : Word) : Word :=
  if x = 0 then 32#32 else BitVec.ofNat 32 (31 - Nat.log2 x.toNat)

/-- CLZ (R186); r15 in either field is refused. -/
def execClz (o : ClzOps) (s : State) : Out :=
  s.ifPassed o.cond fun s =>
    if o.rd = 15#4 ∨ o.rm = 15#4 then .refused .pcOperand
    else .next (s.setReg o.rd (countLeadingZeros (s.reg o.rm))).advance

end Sys2Proof.Machine
end

