-- ==== Sys2Proof/Machine/LoadStoreMultiple.lean ====
section
/-! DEFINITION. Load and store multiple, and swap (spec/44_load_store_multiple_swap.md). -/

namespace Sys2Proof.Machine

/-- DBURST: the number of words less one (R88). -/
def burstLength (n : Nat) : BitVec 4 := BitVec.ofNat 4 (n - 1)

/-- Read the words of a list from its first address (R281, R282). -/
def State.readList (s : State) (regs : List Reg) (start : Word) : List (Option Word) × State :=
  readWords regs.length s start false (burstLength regs.length)

/-- After the reads: on an abort the words before the first aborted one stay, Rn is restored and the Data Abort is
taken; otherwise writeback, then the registers of bank `m`, then `finish` with the last word (R282, R288). -/
def State.finishLoad (s : State) (m : Mode) (rn : Reg) (newBase : Option Word) (regs : List Reg)
    (r : List (Option Word) × State) (finish : State → Word → State) : State :=
  if r.1.all Option.isSome then
    let t := match newBase with
      | some b => r.2.setReg rn b
      | none => r.2
    finish (loadRegs m regs r.1 t) ((r.1.getLast?.getD none).getD 0)
  else ((loadRegs m regs r.1 r.2).setReg rn (s.reg rn)).dataAbort

/-- A load multiple into bank `m` (R281, R288). -/
def State.loadMultiple (s : State) (m : Mode) (p u w : Bool) (rn : Reg) (regs : List Reg)
    (finish : State → Word → State) : State :=
  let a := mode4 p u regs.length (s.reg rn)
  s.finishLoad m rn (if w then some a.2 else none) regs (s.readList regs a.1) finish

/-- An empty list or Rn = r15 is refused (R281). -/
def multipleRefused (rn : Reg) (regs : List Reg) : Bool := regs.isEmpty || decide (rn = 15#4)

/-- After the registers: LoadPC if r15 was in the list, else the next instruction (R282). -/
def loadPcLast (regs : List Reg) (s : State) (last : Word) : State :=
  if regs.contains 15#4 then s.loadPc last else s.advance

/-- LDM (1) (R282). With Rn in the list and writeback the loaded word wins (93 section 2.2; entry 3). -/
def execLdm1 (o : LdmOps) (s : State) : Out :=
  s.ifPassed o.cond fun s =>
    let regs := listRegs o.list
    if multipleRefused o.rn regs then .refused .multipleForm
    else .next (s.loadMultiple s.mode o.p o.u o.w o.rn regs (loadPcLast regs))

/-- Mark that the next instruction must not read a banked register (R283, R286; entry 29). -/
def State.noteUserBank (s : State) : State := { s with bankHazard := true }

/-- The user-bank forms are refused with writeback and in User and System mode (R283, R286). -/
def State.userBankRefused (s : State) (w : Bool) : Bool := w || s.mode == .usr || s.mode == .sys

/-- LDM (2), user registers (R283). -/
def execLdm2 (o : Ldm15Ops) (s : State) : Out :=
  s.ifPassed o.cond fun s =>
    let regs := listRegs (o.list.setWidth 16)
    if multipleRefused o.rn regs then .refused .multipleForm
    else if s.userBankRefused o.w then .refused .userBankForm
    else .next (s.loadMultiple .usr o.p o.u false o.rn regs (fun t _ => t.noteUserBank.advance))

/-- LDM (3), exception return: T comes from the SPSR (R284). -/
def execLdm3 (o : Ldm15Ops) (s : State) : Out :=
  s.ifPassed o.cond fun s =>
    let regs := listRegs (0b1#1 ++ o.list)
    if multipleRefused o.rn regs then .refused .multipleForm
    else .next (s.loadMultiple s.mode o.p o.u o.w o.rn regs (fun t last => t.exceptionReturn last))

/-- With writeback and Rn in the list but not lowest, the stored value of Rn is free (R285, R287). -/
def storedBaseFree (w : Bool) (rn : Reg) (regs : List Reg) : Bool :=
  w && regs.contains rn && regs.head? != some rn

/-- The words a store multiple stores, `value` giving those of the bank (R285, R286). -/
def storeList (value : Reg → Word) (free : Option Word) (rn : Reg) (regs : List Reg) : List Word :=
  regs.map fun n => match free with
    | some f => if n = rn then f else value n
    | none => value n

/-- A store multiple of the given words (R281, R285, R288). -/
def State.storeMultiple (s : State) (p u w : Bool) (rn : Reg) (vs : List Word) (finish : State → State) : State :=
  let a := mode4 p u vs.length (s.reg rn)
  let r := writeWords vs s a.1 false (burstLength vs.length)
  if r.1 then finish ((if w then r.2.setReg rn a.2 else r.2).advance) else r.2.dataAbort

/-- A store multiple of the current bank's registers, drawing a free value where R287 needs one. -/
def State.storeRegs (s : State) (p u w : Bool) (rn : Reg) (regs : List Reg) : State :=
  if storedBaseFree w rn regs then
    s.draw.2.storeMultiple p u w rn (storeList s.storeReg (some s.draw.1) rn regs) id
  else s.storeMultiple p u w rn (storeList s.storeReg none rn regs) id

/-- STM (1) (R285). -/
def execStm1 (o : LdmOps) (s : State) : Out :=
  s.ifPassed o.cond fun s =>
    let regs := listRegs o.list
    if multipleRefused o.rn regs then .refused .multipleForm
    else .next (s.storeRegs o.p o.u o.w o.rn regs)

/-- A User-bank register as a store multiple stores it; r15 is the same in every bank (R286). -/
def State.storeUserReg (s : State) (n : Reg) : Word := if n = 15#4 then s.storeReg n else s.bankReg .usr n

/-- STM (2), user registers (R286). -/
def execStm2 (o : LdmOps) (s : State) : Out :=
  s.ifPassed o.cond fun s =>
    let regs := listRegs o.list
    if multipleRefused o.rn regs then .refused .multipleForm
    else if s.userBankRefused o.w then .refused .userBankForm
    else .next (s.storeMultiple o.p o.u false o.rn (storeList s.storeUserReg none o.rn regs) State.noteUserBank)

/-! ### Swap (R292 to R294) -/

/-- A locked request (R97). -/
def Req.locked (a : Word) (z : Size) : Req := { Req.plain a z with lock := true }

/-- Memory as `before` had it. -/
def State.withMemoryOf (s before : State) : State := { s with mem := before.mem, imem := before.imem }

/-- The locked read and write of a swap, both always driven, then Rd; either abort leaves Rd alone (R292). Whether the
write of an aborted read reaches memory is the memory system's business, `cfg.swapWrites`: R292 states the default, that
it does write, and R471's table says that it does not (entry 15). -/
def State.swap (s : State) (k : LoadKind) (rn rd rm : Reg) : State :=
  let a := s.reg rn
  let r := s.dataRead (Req.locked a k.size)
  let w := r.2.dataWrite (Req.locked a k.size) (s.reg rm)
  match r.1, w.1 with
  | some raw, true => (w.2.setReg rd (k.value a raw)).advance
  | some _, false => w.2.dataAbort
  | none, _ => (if s.cfg.swapWrites then w.2 else w.2.withMemoryOf s).dataAbort

/-- The frame of SWP and SWPB: r15 anywhere and Rn = Rd are refused (R292). -/
def swapFrame (k : LoadKind) (o : SwpOps) (s : State) : Out :=
  s.ifPassed o.cond fun s =>
    if [o.rn, o.rd, o.rm].contains 15#4 then .refused .pcOperand
    else if o.rn = o.rd then .refused .swapRegister
    else .next (s.swap k o.rn o.rd o.rm)

/-- SWP (R292). -/
def execSwp (o : SwpOps) (s : State) : Out := swapFrame .word o s

/-- SWPB (R293). -/
def execSwpb (o : SwpOps) (s : State) : Out := swapFrame .byte o s

end Sys2Proof.Machine
end

