-- ==== Sys2Proof/Machine/Multiply.lean ====
section
/-! DEFINITION. Multiplies, saturating arithmetic and 16-bit signed multiplies (spec/41_multiply_dsp.md). Sources are
read before any destination is written (U23's alternative for the overlap cases, entry 3); r15 is refused (R217). -/

namespace Sys2Proof.Machine

/-- The common frame: the condition, then r15 in any register field is refused (R217, R219). -/
def multiplyFrame (c : Cond) (regs : List Reg) (k : State → State) (s : State) : Out :=
  s.ifPassed c fun s => if regs.contains 15#4 then .refused .pcOperand else .next (k s).advance

/-- Write a 32-bit product, and N and Z if S (R201, R218). -/
def State.writeProduct (s : State) (setFlags : Bool) (rd : Reg) (v : Word) : State :=
  let t := s.setReg rd v
  if setFlags then t.setCpsr (setPsrNZ s.cpsr v) else t

/-- Write a 64-bit result, low word then high word (R203; U23: with RdHi = RdLo the high word stays). -/
def State.writeLong (s : State) (hi lo : Reg) (p : BitVec 64) : State :=
  (s.setReg lo (fld p 0 32)).setReg hi (fld p 32 32)

/-- The same with N and Z of the 64-bit result if S (R218). -/
def State.writeLongFlags (s : State) (setFlags : Bool) (hi lo : Reg) (p : BitVec 64) : State :=
  let t := s.writeLong hi lo p
  if setFlags then t.setCpsr (longFlags s.cpsr p) else t

/-- `R[RdHi]:R[RdLo]` (R204). -/
def State.longReg (s : State) (hi lo : Reg) : BitVec 64 := s.reg hi ++ s.reg lo

/-- Write a result and set Q if something saturated or overflowed (R22). -/
def State.writeSticky (s : State) (rd : Reg) (v : Word) (happened : Bool) : State :=
  (s.setReg rd v).setCpsr (stickyQ s.cpsr happened)

/-- `half(v, t)` as a signed integer (R215). -/
def halfInt (v : Word) (top : Bool) : Int := if top then (fld v 16 16).toInt else (fld v 0 16).toInt

/-- Unsigned 32 by 32 product (R203). -/
def umul (a b : Word) : BitVec 64 := BitVec.ofNat 64 (a.toNat * b.toNat)

/-- Signed 32 by 32 product (R205). -/
def smul (a b : Word) : BitVec 64 := BitVec.ofInt 64 (a.toInt * b.toInt)

/-- MUL (R201). -/
def execMul (o : MulOps) (s : State) : Out :=
  multiplyFrame o.cond [o.rd, o.rs, o.rm]
    (fun s => s.writeProduct o.s o.rd (s.reg o.rm * s.reg o.rs)) s

/-- MLA (R202). -/
def execMla (o : MlaOps) (s : State) : Out :=
  multiplyFrame o.cond [o.rd, o.rn, o.rs, o.rm]
    (fun s => s.writeProduct o.s o.rd (s.reg o.rm * s.reg o.rs + s.reg o.rn)) s

/-- UMULL (R203). -/
def execUmull (o : MullOps) (s : State) : Out :=
  multiplyFrame o.cond [o.rdHi, o.rdLo, o.rs, o.rm]
    (fun s => s.writeLongFlags o.s o.rdHi o.rdLo (umul (s.reg o.rm) (s.reg o.rs))) s

/-- UMLAL (R204). -/
def execUmlal (o : MullOps) (s : State) : Out :=
  multiplyFrame o.cond [o.rdHi, o.rdLo, o.rs, o.rm]
    (fun s => s.writeLongFlags o.s o.rdHi o.rdLo (umul (s.reg o.rm) (s.reg o.rs) + s.longReg o.rdHi o.rdLo)) s

/-- SMULL (R205). -/
def execSmull (o : MullOps) (s : State) : Out :=
  multiplyFrame o.cond [o.rdHi, o.rdLo, o.rs, o.rm]
    (fun s => s.writeLongFlags o.s o.rdHi o.rdLo (smul (s.reg o.rm) (s.reg o.rs))) s

/-- SMLAL (R206). -/
def execSmlal (o : MullOps) (s : State) : Out :=
  multiplyFrame o.cond [o.rdHi, o.rdLo, o.rs, o.rm]
    (fun s => s.writeLongFlags o.s o.rdHi o.rdLo (smul (s.reg o.rm) (s.reg o.rs) + s.longReg o.rdHi o.rdLo)) s

/-- QADD (R207). -/
def execQadd (o : QOps) (s : State) : Out :=
  multiplyFrame o.cond [o.rn, o.rd, o.rm]
    (fun s =>
      let r := signedSat32 ((s.reg o.rm).toInt + (s.reg o.rn).toInt)
      s.writeSticky o.rd r.1 r.2) s

/-- QSUB (R208). -/
def execQsub (o : QOps) (s : State) : Out :=
  multiplyFrame o.cond [o.rn, o.rd, o.rm]
    (fun s =>
      let r := signedSat32 ((s.reg o.rm).toInt - (s.reg o.rn).toInt)
      s.writeSticky o.rd r.1 r.2) s

/-- QDADD: both saturations can set Q (R209). -/
def execQdadd (o : QOps) (s : State) : Out :=
  multiplyFrame o.cond [o.rn, o.rd, o.rm]
    (fun s =>
      let d := signedSat32 (2 * (s.reg o.rn).toInt)
      let r := signedSat32 ((s.reg o.rm).toInt + d.1.toInt)
      s.writeSticky o.rd r.1 (d.2 || r.2)) s

/-- QDSUB (R210). -/
def execQdsub (o : QOps) (s : State) : Out :=
  multiplyFrame o.cond [o.rn, o.rd, o.rm]
    (fun s =>
      let d := signedSat32 (2 * (s.reg o.rn).toInt)
      let r := signedSat32 ((s.reg o.rm).toInt - d.1.toInt)
      s.writeSticky o.rd r.1 (d.2 || r.2)) s

/-- SMULxy (R211). -/
def execSmulXy (o : SmulXyOps) (s : State) : Out :=
  multiplyFrame o.cond [o.rd, o.rs, o.rm]
    (fun s => s.setReg o.rd (BitVec.ofInt 32 (halfInt (s.reg o.rm) o.x * halfInt (s.reg o.rs) o.y))) s

/-- SMLAxy: the sum wraps, Q records a signed overflow (R212). -/
def execSmlaXy (o : SmlaXyOps) (s : State) : Out :=
  multiplyFrame o.cond [o.rd, o.rn, o.rs, o.rm]
    (fun s =>
      let t := halfInt (s.reg o.rm) o.x * halfInt (s.reg o.rs) o.y + (s.reg o.rn).toInt
      s.writeSticky o.rd (BitVec.ofInt 32 t) (outOfRange t)) s

/-- `p[47:16]` of a 32 by 16 product: an arithmetic shift right by 16 (R213). -/
def wideProduct (a b : Word) (top : Bool) : Int := (a.toInt * halfInt b top) / 2 ^ 16

/-- SMULWy (R213). -/
def execSmulW (o : SmulWOps) (s : State) : Out :=
  multiplyFrame o.cond [o.rd, o.rs, o.rm]
    (fun s => s.setReg o.rd (BitVec.ofInt 32 (wideProduct (s.reg o.rm) (s.reg o.rs) o.y))) s

/-- SMLAWy (R214). -/
def execSmlaW (o : SmlaWOps) (s : State) : Out :=
  multiplyFrame o.cond [o.rd, o.rn, o.rs, o.rm]
    (fun s =>
      let t := wideProduct (s.reg o.rm) (s.reg o.rs) o.y + (s.reg o.rn).toInt
      s.writeSticky o.rd (BitVec.ofInt 32 t) (outOfRange t)) s

/-- SMLALxy: the 64-bit sum wraps, no flag (R216). -/
def execSmlalXy (o : SmlalXyOps) (s : State) : Out :=
  multiplyFrame o.cond [o.rdHi, o.rdLo, o.rs, o.rm]
    (fun s =>
      let p := halfInt (s.reg o.rm) o.x * halfInt (s.reg o.rs) o.y
      s.writeLong o.rdHi o.rdLo (s.longReg o.rdHi o.rdLo + BitVec.ofInt 64 p)) s

end Sys2Proof.Machine
end

