-- ==== Sys2Proof/Machine/Psr.lean ====
section
/-! DEFINITION. Status register moves, SWI and BKPT in ARM state (spec/45_psr_and_system.md). -/

namespace Sys2Proof.Machine

/-- `byte_mask` of a field mask: c, x, s, f from bit 0 up (R302). -/
def byteMask (m : BitVec 4) : Word :=
  (if bitAt m 3 then 0xFF000000#32 else 0) ||| (if bitAt m 2 then 0x00FF0000#32 else 0) |||
    (if bitAt m 1 then 0x0000FF00#32 else 0) ||| (if bitAt m 0 then 0x000000FF#32 else 0)

/-- The CPSR bits an MSR may write: in User mode the flags byte only, and in debug state the control byte too (R303,
R566); never the T bit (U12's alternative, entry 3). -/
def State.cpsrMask (s : State) (m : BitVec 4) : Word :=
  (if s.mode = .usr then byteMask m &&& (if s.dbg.active then 0xFF0000FF#32 else 0xFF000000#32) else byteMask m) &&&
    0xFFFFFFDF#32

/-- MSR: the selected bytes of the CPSR or SPSR (R303). An illegal mode is stored and leaves the core stuck (U13);
without an SPSR nothing is written (U10's alternative). -/
def State.writePsr (s : State) (spsr : Bool) (m : BitVec 4) (v : Word) : State :=
  if spsr then
    match s.spsr with
    | some p => s.setSpsrOf s.mode ((p &&& ~~~byteMask m) ||| (v &&& byteMask m))
    | none => s
  else s.setCpsr ((s.cpsr &&& ~~~s.cpsrMask m) ||| (v &&& s.cpsrMask m))

/-- MRS; r15 is refused; the SPSR of a mode without one is a free value (R301, U10). -/
def execMrs (o : MrsOps) (s : State) : Out :=
  s.ifPassed o.cond fun s =>
    if o.rd = 15#4 then .refused .pcOperand
    else if o.spsr then
      match s.spsr with
      | some p => .next (s.setReg o.rd p).advance
      | none => .next (s.draw.2.setReg o.rd s.draw.1).advance
    else .next (s.setReg o.rd s.cpsr).advance

/-- MSR, register; r15 is refused (R302, R303). -/
def execMsrReg (o : MsrRegOps) (s : State) : Out :=
  s.ifPassed o.cond fun s =>
    if o.rm = 15#4 then .refused .pcOperand else .next (s.writePsr o.spsr o.mask (s.reg o.rm)).advance

/-- MSR, immediate (R302, R303). -/
def execMsrImm (o : MsrImmOps) (s : State) : Out :=
  s.ifPassed o.cond fun s => .next (s.writePsr o.spsr o.mask (rotImm o.rot o.imm8)).advance

/-- SWI: the comment field is not looked at (R304). -/
def execSwi (o : SwiOps) (s : State) : Out := s.ifPassed o.cond fun s => .next s.softwareInterrupt

/-- BKPT (R305). -/
def execBkpt (_o : BkptOps) (s : State) : Out := .next s.softBreakpoint

end Sys2Proof.Machine
end

