-- ==== Sys2Proof/Machine/ThumbBranch.lean ====
section
/-! DEFINITION. Thumb branches and exception-generating instructions (spec/48_thumb_memory_branch.md sections 6
and 7). -/

namespace Sys2Proof.Machine

/-- The link value of a Thumb call: the next halfword with bit 0 set (R434). -/
def State.thumbLink (s : State) : Word := (s.pc + 2#32) ||| 1#32

/-- B conditional (R432). -/
def execTBCond (o : TCondBranchOps) (s : State) : Out :=
  s.ifPassed o.cond fun s => .next (s.writePc (s.pc + 4#32 + (sext o.imm8 <<< 1)))

/-- B unconditional (R433). -/
def execTB (o : TBranchOps) (s : State) : Out := .next (s.writePc (s.pc + 4#32 + (sext o.imm11 <<< 1)))

/-- BL and BLX prefix: the high offset into r14 (R434). -/
def execTBlPrefix (o : TBranchOps) (s : State) : Out :=
  .next (s.setReg 14#4 (s.pc + 4#32 + (sext o.imm11 <<< 12))).advance

/-- BL suffix (R434). -/
def execTBlSuffix (o : TBranchOps) (s : State) : Out :=
  .next ((s.setReg 14#4 s.thumbLink).branchTo (align2 (s.reg 14#4 + (zext o.imm11 <<< 1))))

/-- BLX suffix: always to ARM state (R434). -/
def execTBlxSuffix (o : TBlxSuffixOps) (s : State) : Out :=
  .next (((s.setReg 14#4 s.thumbLink).setCpsr (setPsrT s.cpsr false)).branchTo
    (align4 (s.reg 14#4 + (zext o.imm10 <<< 2))))

/-- BX (R435). -/
def execTBx (o : TBxOps) (s : State) : Out := .next (s.branchExchange (s.reg o.rm))

/-- BLX register; r15 is refused (R436). -/
def execTBlxReg (o : TBxOps) (s : State) : Out :=
  if o.rm = 15#4 then .refused .pcOperand
  else .next ((s.setReg 14#4 s.thumbLink).branchExchange (s.reg o.rm))

/-- SWI (R437). -/
def execTSwi (_o : TCommentOps) (s : State) : Out := .next s.softwareInterrupt

/-- BKPT (R438). -/
def execTBkpt (_o : TCommentOps) (s : State) : Out := .next s.softBreakpoint

end Sys2Proof.Machine
end

