-- ==== Sys2Proof/Machine/ThumbData.lean ====
section
/-! DEFINITION. Thumb data processing (spec/47_thumb_data_processing.md): the operations of DataProcessing.lean on
the low registers, with the flags (R351). -/

namespace Sys2Proof.Machine

/-- A low register's value. -/
def State.lowReg (s : State) (r : LowReg) : Word := s.reg (low r)

/-- An unshifted operand: the carry is the old C (R351). -/
def State.plainOperand (s : State) (v : Word) : Shifted := ⟨v, psrC s.cpsr⟩

/-- Result to a low register, and the flags (R350, R351). -/
def thumbResult (rd : LowReg) (r : State → Word × Word) (s : State) : Out :=
  .next ((s.setReg (low rd) (r s).1).setCpsr (r s).2).advance

/-- Flags only (R350, R351). -/
def thumbCompare (r : State → Word × Word) (s : State) : Out := .next (s.setCpsr (r s).2).advance

/-- Format 4: `op Rd, Rs` on the two low registers. -/
def State.thumbAlu (s : State) (op : AluOp) (o : TAluOps) : Word × Word :=
  op (s.lowReg o.rd) (s.plainOperand (s.lowReg o.rs)) s.cpsr

/-- Format 4 shifts: Rd by the bottom byte of Rs. -/
def State.thumbShift (s : State) (ty : ShiftTy) (o : TAluOps) : Word × Word :=
  aluMov 0 (shiftReg ty (s.shiftCount (low o.rs)) (s.lowReg o.rd) (psrC s.cpsr)) s.cpsr

/-- Format 1 shifts: Rs by the immediate. -/
def State.thumbShiftImm (s : State) (ty : ShiftTy) (o : TShiftImmOps) : Word × Word :=
  aluMov 0 (shiftImm ty o.imm5 (s.lowReg o.rs) (psrC s.cpsr)) s.cpsr

/-- LSL immediate (R352). -/
def execTLslImm (o : TShiftImmOps) (s : State) : Out := thumbResult o.rd (fun s => s.thumbShiftImm .lsl o) s
/-- LSR immediate (R353). -/
def execTLsrImm (o : TShiftImmOps) (s : State) : Out := thumbResult o.rd (fun s => s.thumbShiftImm .lsr o) s
/-- ASR immediate (R354). -/
def execTAsrImm (o : TShiftImmOps) (s : State) : Out := thumbResult o.rd (fun s => s.thumbShiftImm .asr o) s

/-- ADD register (R355). -/
def execTAddReg (o : TAdd3Ops) (s : State) : Out :=
  thumbResult o.rd (fun s => aluAdd (s.lowReg o.rs) (s.plainOperand (s.lowReg o.rn)) s.cpsr) s
/-- SUB register (R356). -/
def execTSubReg (o : TAdd3Ops) (s : State) : Out :=
  thumbResult o.rd (fun s => aluSub (s.lowReg o.rs) (s.plainOperand (s.lowReg o.rn)) s.cpsr) s
/-- ADD 3-bit immediate (R357). -/
def execTAddImm3 (o : TAddImm3Ops) (s : State) : Out :=
  thumbResult o.rd (fun s => aluAdd (s.lowReg o.rs) (s.plainOperand (zext o.imm3)) s.cpsr) s
/-- SUB 3-bit immediate (R358). -/
def execTSubImm3 (o : TAddImm3Ops) (s : State) : Out :=
  thumbResult o.rd (fun s => aluSub (s.lowReg o.rs) (s.plainOperand (zext o.imm3)) s.cpsr) s

/-- MOV 8-bit immediate (R359). -/
def execTMovImm (o : TRdImm8Ops) (s : State) : Out :=
  thumbResult o.rd (fun s => aluMov 0 (s.plainOperand (zext o.imm8)) s.cpsr) s
/-- CMP 8-bit immediate (R360). -/
def execTCmpImm (o : TRdImm8Ops) (s : State) : Out :=
  thumbCompare (fun s => aluCmp (s.lowReg o.rd) (s.plainOperand (zext o.imm8)) s.cpsr) s
/-- ADD 8-bit immediate (R361). -/
def execTAddImm8 (o : TRdImm8Ops) (s : State) : Out :=
  thumbResult o.rd (fun s => aluAdd (s.lowReg o.rd) (s.plainOperand (zext o.imm8)) s.cpsr) s
/-- SUB 8-bit immediate (R362). -/
def execTSubImm8 (o : TRdImm8Ops) (s : State) : Out :=
  thumbResult o.rd (fun s => aluSub (s.lowReg o.rd) (s.plainOperand (zext o.imm8)) s.cpsr) s

/-- AND (R363). -/
def execTAnd (o : TAluOps) (s : State) : Out := thumbResult o.rd (fun s => s.thumbAlu aluAnd o) s
/-- EOR (R364). -/
def execTEor (o : TAluOps) (s : State) : Out := thumbResult o.rd (fun s => s.thumbAlu aluEor o) s
/-- LSL register (R365). -/
def execTLslReg (o : TAluOps) (s : State) : Out := thumbResult o.rd (fun s => s.thumbShift .lsl o) s
/-- LSR register (R366). -/
def execTLsrReg (o : TAluOps) (s : State) : Out := thumbResult o.rd (fun s => s.thumbShift .lsr o) s
/-- ASR register (R367). -/
def execTAsrReg (o : TAluOps) (s : State) : Out := thumbResult o.rd (fun s => s.thumbShift .asr o) s
/-- ADC (R368). -/
def execTAdc (o : TAluOps) (s : State) : Out := thumbResult o.rd (fun s => s.thumbAlu aluAdc o) s
/-- SBC (R369). -/
def execTSbc (o : TAluOps) (s : State) : Out := thumbResult o.rd (fun s => s.thumbAlu aluSbc o) s
/-- ROR (R370). -/
def execTRor (o : TAluOps) (s : State) : Out := thumbResult o.rd (fun s => s.thumbShift .ror o) s
/-- TST (R371). -/
def execTTst (o : TAluOps) (s : State) : Out := thumbCompare (fun s => s.thumbAlu aluTst o) s
/-- NEG: 0 - Rs (R372). -/
def execTNeg (o : TAluOps) (s : State) : Out :=
  thumbResult o.rd (fun s => aluRsb (s.lowReg o.rs) (s.plainOperand 0) s.cpsr) s
/-- CMP low registers (R373). -/
def execTCmpLow (o : TAluOps) (s : State) : Out := thumbCompare (fun s => s.thumbAlu aluCmp o) s
/-- CMN (R374). -/
def execTCmn (o : TAluOps) (s : State) : Out := thumbCompare (fun s => s.thumbAlu aluCmn o) s
/-- ORR (R375). -/
def execTOrr (o : TAluOps) (s : State) : Out := thumbResult o.rd (fun s => s.thumbAlu aluOrr o) s
/-- MUL: N and Z, C and V unchanged; Rd = Rs squares (R376; U23, entry 3). -/
def execTMul (o : TAluOps) (s : State) : Out :=
  thumbResult o.rd (fun s =>
    let v := s.lowReg o.rd * s.lowReg o.rs
    (v, setPsrNZ s.cpsr v)) s
/-- BIC (R377). -/
def execTBic (o : TAluOps) (s : State) : Out := thumbResult o.rd (fun s => s.thumbAlu aluBic o) s
/-- MVN (R378). -/
def execTMvn (o : TAluOps) (s : State) : Out := thumbResult o.rd (fun s => s.thumbAlu aluMvn o) s

/-- A format 5 result: r15 is a branch that stays in Thumb state; no flags (R387). -/
def State.writeHigh (s : State) (rd : Reg) (v : Word) : State :=
  if rd = 15#4 then s.writePc v else (s.setReg rd v).advance

/-- ADD high registers (R379; two low registers run as written, U25). -/
def execTAddHi (o : THiOps) (s : State) : Out := .next (s.writeHigh o.rd (s.reg o.rd + s.reg o.rm))

/-- CMP high registers; Rd = r15 is refused (R380). -/
def execTCmpHi (o : THiOps) (s : State) : Out :=
  if o.rd = 15#4 then .refused .pcOperand
  else thumbCompare (fun s => aluCmp (s.reg o.rd) (s.plainOperand (s.reg o.rm)) s.cpsr) s

/-- MOV high registers (R381). -/
def execTMovHi (o : THiOps) (s : State) : Out := .next (s.writeHigh o.rd (s.reg o.rm))

/-- ADD Rd, PC, #imm: the base has bits 1:0 cleared (R382). -/
def execTAddPc (o : TRdImm8Ops) (s : State) : Out :=
  .next (s.setReg (low o.rd) (align4 s.pcOperand + (zext o.imm8 <<< 2))).advance

/-- ADD Rd, SP, #imm (R383). -/
def execTAddSp (o : TRdImm8Ops) (s : State) : Out :=
  .next (s.setReg (low o.rd) (s.reg 13#4 + (zext o.imm8 <<< 2))).advance

/-- ADD SP, #imm (R384). -/
def execTIncSp (o : TSpImmOps) (s : State) : Out :=
  .next (s.setReg 13#4 (s.reg 13#4 + (zext o.imm7 <<< 2))).advance

/-- SUB SP, #imm (R385). -/
def execTDecSp (o : TSpImmOps) (s : State) : Out :=
  .next (s.setReg 13#4 (s.reg 13#4 - (zext o.imm7 <<< 2))).advance

end Sys2Proof.Machine
end

