-- ==== Sys2Proof/Machine/ThumbMemory.lean ====
section
/-! DEFINITION. Thumb loads, stores and stack transfers (spec/48_thumb_memory_branch.md sections 2 to 5): the ARM
operations with offset addressing (R410). -/

namespace Sys2Proof.Machine

/-- An address without writeback. -/
def Addressed.plain (a : Word) : Addressed := { addr := a, writeback := none }

/-- A Thumb load into a low register (R410, R440). -/
def thumbLoad (k : LoadKind) (rd : LowReg) (a : State → Word) (s : State) : Out :=
  .next (s.loadInto k false 0 (low rd) (.plain (a s)))

/-- A Thumb store of a low register (R410). -/
def thumbStore (z : Size) (rd : LowReg) (a : State → Word) (s : State) : Out :=
  .next (s.storeFrom z false 0 (low rd) (.plain (a s)))

/-- Formats 7 and 8: base plus offset register (section 3 of the file). -/
def addressTReg (o : TMemRegOps) (s : State) : Word := s.reg (low o.rb) + s.reg (low o.ro)

/-- Formats 9 and 10: base plus the 5-bit offset scaled by 2^k (R137). -/
def addressTImm (o : TMemImmOps) (k : Nat) (s : State) : Word := s.reg (low o.rb) + (zext o.imm5 <<< k)

/-- Format 6: the PC with bits 1:0 cleared, plus 4 times the immediate (R418). -/
def addressTPc (o : TRdImm8Ops) (s : State) : Word := align4 s.pcOperand + (zext o.imm8 <<< 2)

/-- Format 11: SP plus 4 times the immediate (R420, R427). -/
def addressTSp (o : TRdImm8Ops) (s : State) : Word := s.reg 13#4 + (zext o.imm8 <<< 2)

/-- LDR, PC-relative (R418). -/
def execTLdrPc (o : TRdImm8Ops) (s : State) : Out := thumbLoad .word o.rd (addressTPc o) s

/-- STR, register offset (R424). -/
def execTStrReg (o : TMemRegOps) (s : State) : Out := thumbStore .word o.rd (addressTReg o) s

/-- STRH, register offset (R425). -/
def execTStrhReg (o : TMemRegOps) (s : State) : Out := thumbStore .half o.rd (addressTReg o) s

/-- STRB, register offset (R426). -/
def execTStrbReg (o : TMemRegOps) (s : State) : Out := thumbStore .byte o.rd (addressTReg o) s

/-- LDRSB, register offset (R419). -/
def execTLdrsbReg (o : TMemRegOps) (s : State) : Out := thumbLoad .signedByte o.rd (addressTReg o) s

/-- LDR, register offset (R414). -/
def execTLdrReg (o : TMemRegOps) (s : State) : Out := thumbLoad .word o.rd (addressTReg o) s

/-- LDRH, register offset (R415). -/
def execTLdrhReg (o : TMemRegOps) (s : State) : Out := thumbLoad .half o.rd (addressTReg o) s

/-- LDRB, register offset (R417). -/
def execTLdrbReg (o : TMemRegOps) (s : State) : Out := thumbLoad .byte o.rd (addressTReg o) s

/-- LDRSH, register offset (R416). -/
def execTLdrshReg (o : TMemRegOps) (s : State) : Out := thumbLoad .signedHalf o.rd (addressTReg o) s

/-- STR, immediate offset (R421). -/
def execTStrImm (o : TMemImmOps) (s : State) : Out := thumbStore .word o.rd (addressTImm o 2) s

/-- LDR, immediate offset (R411). -/
def execTLdrImm (o : TMemImmOps) (s : State) : Out := thumbLoad .word o.rd (addressTImm o 2) s

/-- STRB, immediate offset (R423). -/
def execTStrbImm (o : TMemImmOps) (s : State) : Out := thumbStore .byte o.rd (addressTImm o 0) s

/-- LDRB, immediate offset (R413). -/
def execTLdrbImm (o : TMemImmOps) (s : State) : Out := thumbLoad .byte o.rd (addressTImm o 0) s

/-- STRH, immediate offset (R422). -/
def execTStrhImm (o : TMemImmOps) (s : State) : Out := thumbStore .half o.rd (addressTImm o 1) s

/-- LDRH, immediate offset (R412). -/
def execTLdrhImm (o : TMemImmOps) (s : State) : Out := thumbLoad .half o.rd (addressTImm o 1) s

/-- STR, SP-relative (R427). -/
def execTStrSp (o : TRdImm8Ops) (s : State) : Out := thumbStore .word o.rd (addressTSp o) s

/-- LDR, SP-relative (R420). -/
def execTLdrSp (o : TRdImm8Ops) (s : State) : Out := thumbLoad .word o.rd (addressTSp o) s

/-- LDMIA: writeback, then the loaded words (R428). -/
def execTLdmia (o : TMultiOps) (s : State) : Out :=
  let regs := listRegs (o.list.setWidth 16)
  if regs.isEmpty then .refused .multipleForm
  else .next (s.loadMultiple s.mode false true true (low o.rb) regs (fun t _ => t.advance))

/-- STMIA (R429). -/
def execTStmia (o : TMultiOps) (s : State) : Out :=
  let regs := listRegs (o.list.setWidth 16)
  if regs.isEmpty then .refused .multipleForm
  else .next (s.storeRegs false true true (low o.rb) regs)

/-- PUSH: STMDB SP!, with LR as the extra register (R430). -/
def execTPush (o : TStackOps) (s : State) : Out :=
  let regs := listRegs (0b0#1 ++ bit o.extra ++ 0b000000#6 ++ o.list)
  if regs.isEmpty then .refused .multipleForm
  else .next (s.storeRegs true false true 13#4 regs)

/-- POP: LDMIA SP!, with PC as the extra register, through LoadPC (R431). -/
def execTPop (o : TStackOps) (s : State) : Out :=
  let regs := listRegs (bit o.extra ++ 0b0000000#7 ++ o.list)
  if regs.isEmpty then .refused .multipleForm
  else .next (s.loadMultiple s.mode false true true 13#4 regs (loadPcLast regs))

end Sys2Proof.Machine
end

