-- ==== Sys2Proof/Machine/Dispatch.lean ====
section
/-! DEFINITION. The dispatch of an instruction to its meaning: one arm per row of spec/opcode_table.json. -/

namespace Sys2Proof.Machine

/-- What an instruction does. -/
def exec (i : Instr) (s : State) : Host.Outcome State Fault Refusal :=
  match i with
  | .mrs o => Sys2Proof.Machine.execMrs o s
  | .msrReg o => Sys2Proof.Machine.execMsrReg o s
  | .msrImm o => Sys2Proof.Machine.execMsrImm o s
  | .bx o => Sys2Proof.Machine.execBx o s
  | .blxReg o => Sys2Proof.Machine.execBlxReg o s
  | .clz o => Sys2Proof.Machine.execClz o s
  | .qadd o => Sys2Proof.Machine.execQadd o s
  | .qsub o => Sys2Proof.Machine.execQsub o s
  | .qdadd o => Sys2Proof.Machine.execQdadd o s
  | .qdsub o => Sys2Proof.Machine.execQdsub o s
  | .bkpt o => Sys2Proof.Machine.execBkpt o s
  | .smlaXy o => Sys2Proof.Machine.execSmlaXy o s
  | .smlaW o => Sys2Proof.Machine.execSmlaW o s
  | .smulW o => Sys2Proof.Machine.execSmulW o s
  | .smlalXy o => Sys2Proof.Machine.execSmlalXy o s
  | .smulXy o => Sys2Proof.Machine.execSmulXy o s
  | .mul o => Sys2Proof.Machine.execMul o s
  | .mla o => Sys2Proof.Machine.execMla o s
  | .umull o => Sys2Proof.Machine.execUmull o s
  | .umlal o => Sys2Proof.Machine.execUmlal o s
  | .smull o => Sys2Proof.Machine.execSmull o s
  | .smlal o => Sys2Proof.Machine.execSmlal o s
  | .swp o => Sys2Proof.Machine.execSwp o s
  | .swpb o => Sys2Proof.Machine.execSwpb o s
  | .strhImm o => Sys2Proof.Machine.execStrhImm o s
  | .strhReg o => Sys2Proof.Machine.execStrhReg o s
  | .ldrhImm o => Sys2Proof.Machine.execLdrhImm o s
  | .ldrhReg o => Sys2Proof.Machine.execLdrhReg o s
  | .ldrsbImm o => Sys2Proof.Machine.execLdrsbImm o s
  | .ldrsbReg o => Sys2Proof.Machine.execLdrsbReg o s
  | .ldrshImm o => Sys2Proof.Machine.execLdrshImm o s
  | .ldrshReg o => Sys2Proof.Machine.execLdrshReg o s
  | .ldrdImm o => Sys2Proof.Machine.execLdrdImm o s
  | .ldrdReg o => Sys2Proof.Machine.execLdrdReg o s
  | .strdImm o => Sys2Proof.Machine.execStrdImm o s
  | .strdReg o => Sys2Proof.Machine.execStrdReg o s
  | .andImm o => Sys2Proof.Machine.execAndImm o s
  | .andShift o => Sys2Proof.Machine.execAndShift o s
  | .andReg o => Sys2Proof.Machine.execAndReg o s
  | .eorImm o => Sys2Proof.Machine.execEorImm o s
  | .eorShift o => Sys2Proof.Machine.execEorShift o s
  | .eorReg o => Sys2Proof.Machine.execEorReg o s
  | .subImm o => Sys2Proof.Machine.execSubImm o s
  | .subShift o => Sys2Proof.Machine.execSubShift o s
  | .subReg o => Sys2Proof.Machine.execSubReg o s
  | .rsbImm o => Sys2Proof.Machine.execRsbImm o s
  | .rsbShift o => Sys2Proof.Machine.execRsbShift o s
  | .rsbReg o => Sys2Proof.Machine.execRsbReg o s
  | .addImm o => Sys2Proof.Machine.execAddImm o s
  | .addShift o => Sys2Proof.Machine.execAddShift o s
  | .addReg o => Sys2Proof.Machine.execAddReg o s
  | .adcImm o => Sys2Proof.Machine.execAdcImm o s
  | .adcShift o => Sys2Proof.Machine.execAdcShift o s
  | .adcReg o => Sys2Proof.Machine.execAdcReg o s
  | .sbcImm o => Sys2Proof.Machine.execSbcImm o s
  | .sbcShift o => Sys2Proof.Machine.execSbcShift o s
  | .sbcReg o => Sys2Proof.Machine.execSbcReg o s
  | .rscImm o => Sys2Proof.Machine.execRscImm o s
  | .rscShift o => Sys2Proof.Machine.execRscShift o s
  | .rscReg o => Sys2Proof.Machine.execRscReg o s
  | .tstImm o => Sys2Proof.Machine.execTstImm o s
  | .tstShift o => Sys2Proof.Machine.execTstShift o s
  | .tstReg o => Sys2Proof.Machine.execTstReg o s
  | .teqImm o => Sys2Proof.Machine.execTeqImm o s
  | .teqShift o => Sys2Proof.Machine.execTeqShift o s
  | .teqReg o => Sys2Proof.Machine.execTeqReg o s
  | .cmpImm o => Sys2Proof.Machine.execCmpImm o s
  | .cmpShift o => Sys2Proof.Machine.execCmpShift o s
  | .cmpReg o => Sys2Proof.Machine.execCmpReg o s
  | .cmnImm o => Sys2Proof.Machine.execCmnImm o s
  | .cmnShift o => Sys2Proof.Machine.execCmnShift o s
  | .cmnReg o => Sys2Proof.Machine.execCmnReg o s
  | .orrImm o => Sys2Proof.Machine.execOrrImm o s
  | .orrShift o => Sys2Proof.Machine.execOrrShift o s
  | .orrReg o => Sys2Proof.Machine.execOrrReg o s
  | .movImm o => Sys2Proof.Machine.execMovImm o s
  | .movShift o => Sys2Proof.Machine.execMovShift o s
  | .movReg o => Sys2Proof.Machine.execMovReg o s
  | .bicImm o => Sys2Proof.Machine.execBicImm o s
  | .bicShift o => Sys2Proof.Machine.execBicShift o s
  | .bicReg o => Sys2Proof.Machine.execBicReg o s
  | .mvnImm o => Sys2Proof.Machine.execMvnImm o s
  | .mvnShift o => Sys2Proof.Machine.execMvnShift o s
  | .mvnReg o => Sys2Proof.Machine.execMvnReg o s
  | .ldrImmPre o => Sys2Proof.Machine.execLdrImmPre o s
  | .ldrImmPost o => Sys2Proof.Machine.execLdrImmPost o s
  | .ldrtImm o => Sys2Proof.Machine.execLdrtImm o s
  | .ldrRegPre o => Sys2Proof.Machine.execLdrRegPre o s
  | .ldrRegPost o => Sys2Proof.Machine.execLdrRegPost o s
  | .ldrtReg o => Sys2Proof.Machine.execLdrtReg o s
  | .ldrbImmPre o => Sys2Proof.Machine.execLdrbImmPre o s
  | .ldrbImmPost o => Sys2Proof.Machine.execLdrbImmPost o s
  | .ldrbtImm o => Sys2Proof.Machine.execLdrbtImm o s
  | .ldrbRegPre o => Sys2Proof.Machine.execLdrbRegPre o s
  | .ldrbRegPost o => Sys2Proof.Machine.execLdrbRegPost o s
  | .ldrbtReg o => Sys2Proof.Machine.execLdrbtReg o s
  | .strImmPre o => Sys2Proof.Machine.execStrImmPre o s
  | .strImmPost o => Sys2Proof.Machine.execStrImmPost o s
  | .strtImm o => Sys2Proof.Machine.execStrtImm o s
  | .strRegPre o => Sys2Proof.Machine.execStrRegPre o s
  | .strRegPost o => Sys2Proof.Machine.execStrRegPost o s
  | .strtReg o => Sys2Proof.Machine.execStrtReg o s
  | .strbImmPre o => Sys2Proof.Machine.execStrbImmPre o s
  | .strbImmPost o => Sys2Proof.Machine.execStrbImmPost o s
  | .strbtImm o => Sys2Proof.Machine.execStrbtImm o s
  | .strbRegPre o => Sys2Proof.Machine.execStrbRegPre o s
  | .strbRegPost o => Sys2Proof.Machine.execStrbRegPost o s
  | .strbtReg o => Sys2Proof.Machine.execStrbtReg o s
  | .pldImm o => Sys2Proof.Machine.execPldImm o s
  | .pldReg o => Sys2Proof.Machine.execPldReg o s
  | .ldm1 o => Sys2Proof.Machine.execLdm1 o s
  | .ldm2 o => Sys2Proof.Machine.execLdm2 o s
  | .ldm3 o => Sys2Proof.Machine.execLdm3 o s
  | .stm1 o => Sys2Proof.Machine.execStm1 o s
  | .stm2 o => Sys2Proof.Machine.execStm2 o s
  | .b o => Sys2Proof.Machine.execB o s
  | .bl o => Sys2Proof.Machine.execBl o s
  | .blxImm o => Sys2Proof.Machine.execBlxImm o s
  | .cdp o => Sys2Proof.Machine.execCdp o s
  | .mcr o => Sys2Proof.Machine.execMcr o s
  | .mrc o => Sys2Proof.Machine.execMrc o s
  | .ldc o => Sys2Proof.Machine.execLdc o s
  | .stc o => Sys2Proof.Machine.execStc o s
  | .cdp2 o => Sys2Proof.Machine.execCdp2 o s
  | .mcr2 o => Sys2Proof.Machine.execMcr2 o s
  | .mrc2 o => Sys2Proof.Machine.execMrc2 o s
  | .ldc2 o => Sys2Proof.Machine.execLdc2 o s
  | .stc2 o => Sys2Proof.Machine.execStc2 o s
  | .mcrr o => Sys2Proof.Machine.execMcrr o s
  | .mrrc o => Sys2Proof.Machine.execMrrc o s
  | .swi o => Sys2Proof.Machine.execSwi o s
  | .tLslImm o => Sys2Proof.Machine.execTLslImm o s
  | .tLsrImm o => Sys2Proof.Machine.execTLsrImm o s
  | .tAsrImm o => Sys2Proof.Machine.execTAsrImm o s
  | .tAddReg o => Sys2Proof.Machine.execTAddReg o s
  | .tSubReg o => Sys2Proof.Machine.execTSubReg o s
  | .tAddImm3 o => Sys2Proof.Machine.execTAddImm3 o s
  | .tSubImm3 o => Sys2Proof.Machine.execTSubImm3 o s
  | .tMovImm o => Sys2Proof.Machine.execTMovImm o s
  | .tCmpImm o => Sys2Proof.Machine.execTCmpImm o s
  | .tAddImm8 o => Sys2Proof.Machine.execTAddImm8 o s
  | .tSubImm8 o => Sys2Proof.Machine.execTSubImm8 o s
  | .tAnd o => Sys2Proof.Machine.execTAnd o s
  | .tEor o => Sys2Proof.Machine.execTEor o s
  | .tLslReg o => Sys2Proof.Machine.execTLslReg o s
  | .tLsrReg o => Sys2Proof.Machine.execTLsrReg o s
  | .tAsrReg o => Sys2Proof.Machine.execTAsrReg o s
  | .tAdc o => Sys2Proof.Machine.execTAdc o s
  | .tSbc o => Sys2Proof.Machine.execTSbc o s
  | .tRor o => Sys2Proof.Machine.execTRor o s
  | .tTst o => Sys2Proof.Machine.execTTst o s
  | .tNeg o => Sys2Proof.Machine.execTNeg o s
  | .tCmpLow o => Sys2Proof.Machine.execTCmpLow o s
  | .tCmn o => Sys2Proof.Machine.execTCmn o s
  | .tOrr o => Sys2Proof.Machine.execTOrr o s
  | .tMul o => Sys2Proof.Machine.execTMul o s
  | .tBic o => Sys2Proof.Machine.execTBic o s
  | .tMvn o => Sys2Proof.Machine.execTMvn o s
  | .tAddHi o => Sys2Proof.Machine.execTAddHi o s
  | .tCmpHi o => Sys2Proof.Machine.execTCmpHi o s
  | .tMovHi o => Sys2Proof.Machine.execTMovHi o s
  | .tBx o => Sys2Proof.Machine.execTBx o s
  | .tBlxReg o => Sys2Proof.Machine.execTBlxReg o s
  | .tLdrPc o => Sys2Proof.Machine.execTLdrPc o s
  | .tStrReg o => Sys2Proof.Machine.execTStrReg o s
  | .tStrhReg o => Sys2Proof.Machine.execTStrhReg o s
  | .tStrbReg o => Sys2Proof.Machine.execTStrbReg o s
  | .tLdrsbReg o => Sys2Proof.Machine.execTLdrsbReg o s
  | .tLdrReg o => Sys2Proof.Machine.execTLdrReg o s
  | .tLdrhReg o => Sys2Proof.Machine.execTLdrhReg o s
  | .tLdrbReg o => Sys2Proof.Machine.execTLdrbReg o s
  | .tLdrshReg o => Sys2Proof.Machine.execTLdrshReg o s
  | .tStrImm o => Sys2Proof.Machine.execTStrImm o s
  | .tLdrImm o => Sys2Proof.Machine.execTLdrImm o s
  | .tStrbImm o => Sys2Proof.Machine.execTStrbImm o s
  | .tLdrbImm o => Sys2Proof.Machine.execTLdrbImm o s
  | .tStrhImm o => Sys2Proof.Machine.execTStrhImm o s
  | .tLdrhImm o => Sys2Proof.Machine.execTLdrhImm o s
  | .tStrSp o => Sys2Proof.Machine.execTStrSp o s
  | .tLdrSp o => Sys2Proof.Machine.execTLdrSp o s
  | .tAddPc o => Sys2Proof.Machine.execTAddPc o s
  | .tAddSp o => Sys2Proof.Machine.execTAddSp o s
  | .tIncSp o => Sys2Proof.Machine.execTIncSp o s
  | .tDecSp o => Sys2Proof.Machine.execTDecSp o s
  | .tPush o => Sys2Proof.Machine.execTPush o s
  | .tPop o => Sys2Proof.Machine.execTPop o s
  | .tBkpt o => Sys2Proof.Machine.execTBkpt o s
  | .tStmia o => Sys2Proof.Machine.execTStmia o s
  | .tLdmia o => Sys2Proof.Machine.execTLdmia o s
  | .tBCond o => Sys2Proof.Machine.execTBCond o s
  | .tSwi o => Sys2Proof.Machine.execTSwi o s
  | .tB o => Sys2Proof.Machine.execTB o s
  | .tBlPrefix o => Sys2Proof.Machine.execTBlPrefix o s
  | .tBlSuffix o => Sys2Proof.Machine.execTBlSuffix o s
  | .tBlxSuffix o => Sys2Proof.Machine.execTBlxSuffix o s

end Sys2Proof.Machine
end

