-- ==== Sys2Proof/Machine/Tap.lean ====
section
/-! DEFINITION. The TAP controller and its scan chains (R545 to R554), clocked through the pin stream. The action of
a state is done at the clock that leaves it (entry 21). -/

namespace Sys2Proof.Machine

/-- The TAP state machine (R545). -/
def TapState.next (t : TapState) (tms : Bool) : TapState :=
  match t with
  | .reset => if tms then .reset else .idle
  | .idle => if tms then .selectDr else .idle
  | .selectDr => if tms then .selectIr else .captureDr
  | .captureDr => if tms then .exit1Dr else .shiftDr
  | .shiftDr => if tms then .exit1Dr else .shiftDr
  | .exit1Dr => if tms then .updateDr else .pauseDr
  | .pauseDr => if tms then .exit2Dr else .pauseDr
  | .exit2Dr => if tms then .updateDr else .shiftDr
  | .updateDr => if tms then .selectDr else .idle
  | .selectIr => if tms then .reset else .captureIr
  | .captureIr => if tms then .exit1Ir else .shiftIr
  | .shiftIr => if tms then .exit1Ir else .shiftIr
  | .exit1Ir => if tms then .updateIr else .pauseIr
  | .pauseIr => if tms then .exit2Ir else .pauseIr
  | .exit2Ir => if tms then .updateIr else .shiftIr
  | .updateIr => if tms then .selectDr else .idle

/-- `DBGTAPSM[3:0]` (R545). -/
def TapState.number : TapState → BitVec 4
  | .reset => 0xF#4 | .idle => 0xC#4 | .selectDr => 0x7#4 | .captureDr => 0x6#4 | .shiftDr => 0x2#4
  | .exit1Dr => 0x1#4 | .pauseDr => 0x3#4 | .exit2Dr => 0x0#4 | .updateDr => 0x5#4 | .selectIr => 0x4#4
  | .captureIr => 0xE#4 | .shiftIr => 0xA#4 | .exit1Ir => 0x9#4 | .pauseIr => 0xB#4 | .exit2Ir => 0x8#4
  | .updateIr => 0xD#4

/-- The public instructions (R547). -/
inductive TapInstr where
  | extest | scanN | sample | restart | intest | idcode | bypass
  deriving DecidableEq, Repr

/-- Instruction codes; unused codes are BYPASS (R547). -/
def TapInstr.ofBits (b : BitVec 4) : TapInstr :=
  if b = 0b0000#4 then .extest else if b = 0b0010#4 then .scanN else if b = 0b0011#4 then .sample
  else if b = 0b0100#4 then .restart else if b = 0b1100#4 then .intest else if b = 0b1110#4 then .idcode
  else .bypass

/-- The current instruction. -/
def Tap.instr (t : Tap) : TapInstr := TapInstr.ofBits t.ir

/-- What stands between DBGTDI and DBGTDO: one of the test data registers of R554. -/
inductive TapReg where
  | bypass | idCode | chainSelect | chain1 | chain2
  /-- the external chain, with nothing connected (R554) -/
  | external
  /-- a reserved chain number (U17) -/
  | reserved
  deriving DecidableEq, Repr

/-- The selected scan chain (R550): 3 and the unassigned numbers are external. -/
def Tap.chainReg (t : Tap) : TapReg :=
  if t.chain = 1#5 then .chain1 else if t.chain = 2#5 then .chain2
  else if t.chain = 3#5 ∨ bitAt t.chain 4 then .external else .reserved

/-- The register the current instruction connects (R547 to R550, R553). SAMPLE/PRELOAD connects the selected chain and
captures as INTEST does, chain 1 and 2 included, where R547 gives no effect: DESIGN CHOICE (entry 21). -/
def Tap.selected (t : Tap) : TapReg :=
  match t.instr with
  | .extest => t.chainReg
  | .scanN => .chainSelect
  | .sample => t.chainReg
  | .restart => .bypass
  | .intest => t.chainReg
  | .idcode => .idCode
  | .bypass => .bypass

/-- What a TAP clock asks of the core. -/
inductive TapAction where
  | nothing
  /-- an instruction scanned into debug state: INSTR, SYSSPEED, RDATA (R551) -/
  | scanned (instr : Word) (system : Bool) (data : Word)
  /-- RESTART in Run-Test/Idle (R553) -/
  | restart
  /-- EXTEST with scan chain 1 or 2 (U18) -/
  | extest
  deriving DecidableEq, Repr

/-- The data field of scan chain 1 is bit-reversed (R551). -/
def reverseWord (w : Word) : Word :=
  (List.range 32).foldl (fun acc i => setBit acc (31 - i) (bitAt w i)) 0

/-- Interrupts are inhibited by debug (R484). -/
def State.inhibited (s : State) : Bool := s.cfg.dbgen && (s.dbg.active || s.ice.inhibits)

/-- A debug request, before its gate: `EDBGRQ` or debug control bit 1 (R50, R564). -/
def State.debugRequest (s : State) : Bool := s.pins.edbgrq || bitAt s.ice.control 1

/-- The debug status register as scan chain 2 reads it (R51). -/
def State.status (s : State) : BitVec 10 :=
  debugStatus s.ice.moe s.thumb s.ice.sysComp (!s.inhibited) s.debugRequest s.dbg.active

/-- The word captured into scan chain 1: bit 66 down to 0 (R551). -/
def chain1Word (data : Word) (unused both watch : Bool) (instr : Word) : BitVec 67 :=
  reverseWord data ++ bit unused ++ bit both ++ bit watch ++ instr

/-- Capture-DR of scan chain 1: the oldest word written, the entry bits once, free values for the rest (R551, U19). R551
gives SYSSPEED and WPTANDBKPT for the first read after debug entry only; in later captures they read 0: DESIGN CHOICE
(entry 18). -/
def State.captureChain1 (s : State) : State :=
  let i := s.draw
  let d := match s.dbg.dataOut with
    | w :: ws => (w, { i.2 with dbg := { i.2.dbg with dataOut := ws } })
    | [] => i.2.draw
  let u := d.2.draw
  { u.2 with
    tap := { u.2.tap with scan1 := chain1Word d.1 (bitAt u.1 0) s.dbg.entryBoth s.dbg.entryWatch i.1 }
    dbg := { u.2.dbg with entryWatch := false, entryBoth := false } }

/-- Capture-DR (R548 to R552). -/
def State.captureDr (s : State) : State :=
  match s.tap.selected with
  | .bypass => { s with tap := { s.tap with bypass := false } }
  | .idCode => { s with tap := { s.tap with idShift := s.cfg.tapId } }
  | .chainSelect => { s with tap := { s.tap with chainShift := 0b10000#5 } }
  | .chain1 => s.captureChain1
  | .chain2 => s
  | .external => s
  | .reserved => s

/-- Shift towards bit 0, a new bit entering at the top. -/
def shiftDown {n : Nat} (x : BitVec n) (b : Bool) : BitVec n :=
  (x >>> 1) ||| (if b then BitVec.twoPow n (n - 1) else 0)

/-- Shift towards the top bit, a new bit entering at bit 0. -/
def shiftUp {n : Nat} (x : BitVec n) (b : Bool) : BitVec n :=
  (x <<< 1) ||| (if b then BitVec.twoPow n 0 else 0)

/-- A bit leaves on DBGTDO. -/
def Tap.drive (t : Tap) (b : Bool) : Tap := { t with tdo := b, tdoTrace := t.tdoTrace ++ [b] }

/-- Shift-DR: scan chain 1 leaves from bit 66, every other register from bit 0 (R548 to R552). -/
def State.shiftDr (s : State) (tdi : Bool) : State :=
  let t := s.tap
  match t.selected with
  | .bypass => { s with tap := { t.drive t.bypass with bypass := tdi } }
  | .idCode => { s with tap := { t.drive (bitAt t.idShift 0) with idShift := shiftDown t.idShift tdi } }
  | .chainSelect => { s with tap := { t.drive (bitAt t.chainShift 0) with chainShift := shiftDown t.chainShift tdi } }
  | .chain1 => { s with tap := { t.drive (bitAt t.scan1 66) with scan1 := shiftUp t.scan1 tdi } }
  | .chain2 => { s with tap := { t.drive (bitAt t.scan2 0) with scan2 := shiftDown t.scan2 tdi } }
  | .external => { s with tap := t.drive false }
  | .reserved => { s.draw.2 with tap := t.drive (bitAt s.draw.1 0) }

/-- Update-DR of scan chain 2: a register is written or read; the first access lifts the "disabled out of reset"
latch (R50, R552). Reading the comms data shows W in the Addr[0] place (R585); an unlisted address reads a free
value (U16). -/
def State.updateChain2 (s : State) : State :=
  let a : BitVec 5 := fld s.tap.scan2 32 5
  let ice := { s.ice with offLatch := false }
  if bitAt s.tap.scan2 37 then { s with ice := ice.write a (fld s.tap.scan2 0 32) }
  else
    let r := match ice.value s.status a with
      | some v => (v, s)
      | none => s.draw
    let addr : BitVec 5 := if a = 0b00101#5 then fld a 1 4 ++ bit ice.w else a
    { r.2 with ice := ice.afterRead a, tap := { r.2.tap with scan2 := 0b0#1 ++ addr ++ r.1 } }

/-- Update-DR (R550 to R552). -/
def State.updateDr (s : State) : State × TapAction :=
  match s.tap.instr with
  | .scanN => ({ s with tap := { s.tap with chain := s.tap.chainShift } }, .nothing)
  | .intest =>
    match s.tap.chainReg with
    | .chain1 => (s, .scanned (fld s.tap.scan1 0 32) (bitAt s.tap.scan1 32) (reverseWord (fld s.tap.scan1 35 32)))
    | .chain2 => (s.updateChain2, .nothing)
    | _ => (s, .nothing)
  | _ => (s, .nothing)

/-- EXTEST on a chain where it is UNPREDICTABLE (R547, U18). -/
def Tap.badExtest (t : Tap) : Bool :=
  t.instr == .extest && (t.chainReg == .chain1 || t.chainReg == .chain2)

/-- The action of the present state (R546 to R552). -/
def State.tapAct (s : State) (tdi : Bool) : State × TapAction :=
  match s.tap.state with
  | .reset => ({ s with tap := { s.tap with ir := 0b1110#4 } }, .nothing)
  | .captureDr => if s.tap.badExtest then (s, .extest) else (s.captureDr, .nothing)
  | .shiftDr => (s.shiftDr tdi, .nothing)
  | .updateDr => s.updateDr
  | .captureIr => ({ s with tap := { s.tap with irShift := 0b0001#4 } }, .nothing)
  | .shiftIr =>
    ({ s with tap := { s.tap.drive (bitAt s.tap.irShift 0) with irShift := shiftDown s.tap.irShift tdi } }, .nothing)
  | .updateIr => ({ s with tap := { s.tap with ir := s.tap.irShift } }, .nothing)
  | _ => (s, .nothing)

/-- Is RESTART obeyed on this transition: Run-Test/Idle is entered with RESTART as the instruction (R553)? -/
def restartNow (old new : TapState) (t : Tap) : Bool := old != .idle && new == .idle && t.instr == .restart

/-- A new TAP clock: the update of the clock before is over (R584). -/
def State.settleIce (s : State) : State := { s with ice := s.ice.settled }

/-- One TAP clock (R542, R545). -/
def State.tapClock (s : State) (c : TapClock) : State × TapAction :=
  let r := s.settleIce.tapAct c.tdi
  let next := s.tap.state.next c.tms
  let t := { r.1 with tap := { r.1.tap with state := next } }
  (t, if restartNow s.tap.state next t.tap then .restart else r.2)

end Sys2Proof.Machine
end

