-- ==== Sys2Proof/Machine/Traits.lean ====
section
/-! DEFINITION. What an instruction is, for the debug logic and the user-bank hazard: the kinds that R566 lets a
debugger scan in, and the registers an instruction reads. -/

namespace Sys2Proof.Machine

/-- The kinds of R566; a load with the number of words it reads. Everything else is `other`. -/
inductive Kind where
  | dataProcessing
  | statusMove
  | branch
  | load (words : Nat)
  | store
  | other
  deriving DecidableEq, Repr

/-- The kind of an instruction. A doubleword transfer of an odd register is UNDEFINED (R272), so `other`. -/
def kindOf (i : Instr) : Kind :=
  match i with
  | .mrs _ => .statusMove
  | .msrReg _ => .statusMove
  | .msrImm _ => .statusMove
  | .bx _ => .branch
  | .blxReg _ => .other
  | .clz _ => .dataProcessing
  | .qadd _ => .other
  | .qsub _ => .other
  | .qdadd _ => .other
  | .qdsub _ => .other
  | .bkpt _ => .other
  | .smlaXy _ => .other
  | .smlaW _ => .other
  | .smulW _ => .other
  | .smlalXy _ => .other
  | .smulXy _ => .other
  | .mul _ => .other
  | .mla _ => .other
  | .umull _ => .other
  | .umlal _ => .other
  | .smull _ => .other
  | .smlal _ => .other
  | .swp _ => .other
  | .swpb _ => .other
  | .strhImm _ => .store
  | .strhReg _ => .store
  | .ldrhImm _ => .load 1
  | .ldrhReg _ => .load 1
  | .ldrsbImm _ => .load 1
  | .ldrsbReg _ => .load 1
  | .ldrshImm _ => .load 1
  | .ldrshReg _ => .load 1
  | .ldrdImm o => if bitAt o.rd 0 then .other else .load 2
  | .ldrdReg o => if bitAt o.rd 0 then .other else .load 2
  | .strdImm o => if bitAt o.rd 0 then .other else .store
  | .strdReg o => if bitAt o.rd 0 then .other else .store
  | .andImm _ => .dataProcessing
  | .andShift _ => .dataProcessing
  | .andReg _ => .dataProcessing
  | .eorImm _ => .dataProcessing
  | .eorShift _ => .dataProcessing
  | .eorReg _ => .dataProcessing
  | .subImm _ => .dataProcessing
  | .subShift _ => .dataProcessing
  | .subReg _ => .dataProcessing
  | .rsbImm _ => .dataProcessing
  | .rsbShift _ => .dataProcessing
  | .rsbReg _ => .dataProcessing
  | .addImm _ => .dataProcessing
  | .addShift _ => .dataProcessing
  | .addReg _ => .dataProcessing
  | .adcImm _ => .dataProcessing
  | .adcShift _ => .dataProcessing
  | .adcReg _ => .dataProcessing
  | .sbcImm _ => .dataProcessing
  | .sbcShift _ => .dataProcessing
  | .sbcReg _ => .dataProcessing
  | .rscImm _ => .dataProcessing
  | .rscShift _ => .dataProcessing
  | .rscReg _ => .dataProcessing
  | .tstImm _ => .dataProcessing
  | .tstShift _ => .dataProcessing
  | .tstReg _ => .dataProcessing
  | .teqImm _ => .dataProcessing
  | .teqShift _ => .dataProcessing
  | .teqReg _ => .dataProcessing
  | .cmpImm _ => .dataProcessing
  | .cmpShift _ => .dataProcessing
  | .cmpReg _ => .dataProcessing
  | .cmnImm _ => .dataProcessing
  | .cmnShift _ => .dataProcessing
  | .cmnReg _ => .dataProcessing
  | .orrImm _ => .dataProcessing
  | .orrShift _ => .dataProcessing
  | .orrReg _ => .dataProcessing
  | .movImm _ => .dataProcessing
  | .movShift _ => .dataProcessing
  | .movReg _ => .dataProcessing
  | .bicImm _ => .dataProcessing
  | .bicShift _ => .dataProcessing
  | .bicReg _ => .dataProcessing
  | .mvnImm _ => .dataProcessing
  | .mvnShift _ => .dataProcessing
  | .mvnReg _ => .dataProcessing
  | .ldrImmPre _ => .load 1
  | .ldrImmPost _ => .load 1
  | .ldrtImm _ => .load 1
  | .ldrRegPre _ => .load 1
  | .ldrRegPost _ => .load 1
  | .ldrtReg _ => .load 1
  | .ldrbImmPre _ => .load 1
  | .ldrbImmPost _ => .load 1
  | .ldrbtImm _ => .load 1
  | .ldrbRegPre _ => .load 1
  | .ldrbRegPost _ => .load 1
  | .ldrbtReg _ => .load 1
  | .strImmPre _ => .store
  | .strImmPost _ => .store
  | .strtImm _ => .store
  | .strRegPre _ => .store
  | .strRegPost _ => .store
  | .strtReg _ => .store
  | .strbImmPre _ => .store
  | .strbImmPost _ => .store
  | .strbtImm _ => .store
  | .strbRegPre _ => .store
  | .strbRegPost _ => .store
  | .strbtReg _ => .store
  | .pldImm _ => .other
  | .pldReg _ => .other
  | .ldm1 o => .load (listRegs o.list).length
  | .ldm2 o => .load (listRegs (o.list.setWidth 16)).length
  | .ldm3 o => .load ((listRegs (o.list.setWidth 16)).length + 1)
  | .stm1 _ => .store
  | .stm2 _ => .store
  | .b _ => .branch
  | .bl _ => .branch
  | .blxImm _ => .other
  | .cdp _ => .other
  | .mcr _ => .other
  | .mrc _ => .other
  | .ldc _ => .other
  | .stc _ => .other
  | .cdp2 _ => .other
  | .mcr2 _ => .other
  | .mrc2 _ => .other
  | .ldc2 _ => .other
  | .stc2 _ => .other
  | .mcrr _ => .other
  | .mrrc _ => .other
  | .swi _ => .other
  | .tLslImm _ => .dataProcessing
  | .tLsrImm _ => .dataProcessing
  | .tAsrImm _ => .dataProcessing
  | .tAddReg _ => .dataProcessing
  | .tSubReg _ => .dataProcessing
  | .tAddImm3 _ => .dataProcessing
  | .tSubImm3 _ => .dataProcessing
  | .tMovImm _ => .dataProcessing
  | .tCmpImm _ => .dataProcessing
  | .tAddImm8 _ => .dataProcessing
  | .tSubImm8 _ => .dataProcessing
  | .tAnd _ => .dataProcessing
  | .tEor _ => .dataProcessing
  | .tLslReg _ => .dataProcessing
  | .tLsrReg _ => .dataProcessing
  | .tAsrReg _ => .dataProcessing
  | .tAdc _ => .dataProcessing
  | .tSbc _ => .dataProcessing
  | .tRor _ => .dataProcessing
  | .tTst _ => .dataProcessing
  | .tNeg _ => .dataProcessing
  | .tCmpLow _ => .dataProcessing
  | .tCmn _ => .dataProcessing
  | .tOrr _ => .dataProcessing
  | .tMul _ => .other
  | .tBic _ => .dataProcessing
  | .tMvn _ => .dataProcessing
  | .tAddHi _ => .dataProcessing
  | .tCmpHi _ => .dataProcessing
  | .tMovHi _ => .dataProcessing
  | .tBx _ => .branch
  | .tBlxReg _ => .other
  | .tLdrPc _ => .load 1
  | .tStrReg _ => .store
  | .tStrhReg _ => .store
  | .tStrbReg _ => .store
  | .tLdrsbReg _ => .load 1
  | .tLdrReg _ => .load 1
  | .tLdrhReg _ => .load 1
  | .tLdrbReg _ => .load 1
  | .tLdrshReg _ => .load 1
  | .tStrImm _ => .store
  | .tLdrImm _ => .load 1
  | .tStrbImm _ => .store
  | .tLdrbImm _ => .load 1
  | .tStrhImm _ => .store
  | .tLdrhImm _ => .load 1
  | .tStrSp _ => .store
  | .tLdrSp _ => .load 1
  | .tAddPc _ => .dataProcessing
  | .tAddSp _ => .dataProcessing
  | .tIncSp _ => .dataProcessing
  | .tDecSp _ => .dataProcessing
  | .tPush _ => .store
  | .tPop o => .load ((listRegs (o.list.setWidth 16)).length + o.extra.toNat)
  | .tBkpt _ => .other
  | .tStmia _ => .store
  | .tLdmia o => .load (listRegs (o.list.setWidth 16)).length
  | .tBCond _ => .branch
  | .tSwi _ => .other
  | .tB _ => .branch
  | .tBlPrefix _ => .branch
  | .tBlSuffix _ => .branch
  | .tBlxSuffix _ => .other

/-- The registers an instruction reads in its own bank (R283, R286). The User-bank registers in the list of an STM (2) are
not among them, so that one STM (2) may follow another: DESIGN CHOICE, since R286 does not say whether such a read is one
of "a banked register" (entry 29). -/
def sources (i : Instr) : List Reg :=
  match i with
  | .mrs _ => []
  | .msrReg o => [o.rm]
  | .msrImm _ => []
  | .bx o => [o.rm]
  | .blxReg o => [o.rm]
  | .clz o => [o.rm]
  | .qadd o => [o.rn, o.rm]
  | .qsub o => [o.rn, o.rm]
  | .qdadd o => [o.rn, o.rm]
  | .qdsub o => [o.rn, o.rm]
  | .bkpt _ => []
  | .smlaXy o => [o.rn, o.rs, o.rm]
  | .smlaW o => [o.rn, o.rs, o.rm]
  | .smulW o => [o.rs, o.rm]
  | .smlalXy o => [o.rdHi, o.rdLo, o.rs, o.rm]
  | .smulXy o => [o.rs, o.rm]
  | .mul o => [o.rs, o.rm]
  | .mla o => [o.rn, o.rs, o.rm]
  | .umull o => [o.rs, o.rm]
  | .umlal o => [o.rdHi, o.rdLo, o.rs, o.rm]
  | .smull o => [o.rs, o.rm]
  | .smlal o => [o.rdHi, o.rdLo, o.rs, o.rm]
  | .swp o => [o.rn, o.rm]
  | .swpb o => [o.rn, o.rm]
  | .strhImm o => [o.rn, o.rd]
  | .strhReg o => [o.rn, o.rm, o.rd]
  | .ldrhImm o => [o.rn]
  | .ldrhReg o => [o.rn, o.rm]
  | .ldrsbImm o => [o.rn]
  | .ldrsbReg o => [o.rn, o.rm]
  | .ldrshImm o => [o.rn]
  | .ldrshReg o => [o.rn, o.rm]
  | .ldrdImm o => [o.rn]
  | .ldrdReg o => [o.rn, o.rm]
  | .strdImm o => [o.rn, o.rd, o.rd + 1]
  | .strdReg o => [o.rn, o.rm, o.rd, o.rd + 1]
  | .andImm o => [o.rn]
  | .andShift o => [o.rn, o.rm]
  | .andReg o => [o.rn, o.rs, o.rm]
  | .eorImm o => [o.rn]
  | .eorShift o => [o.rn, o.rm]
  | .eorReg o => [o.rn, o.rs, o.rm]
  | .subImm o => [o.rn]
  | .subShift o => [o.rn, o.rm]
  | .subReg o => [o.rn, o.rs, o.rm]
  | .rsbImm o => [o.rn]
  | .rsbShift o => [o.rn, o.rm]
  | .rsbReg o => [o.rn, o.rs, o.rm]
  | .addImm o => [o.rn]
  | .addShift o => [o.rn, o.rm]
  | .addReg o => [o.rn, o.rs, o.rm]
  | .adcImm o => [o.rn]
  | .adcShift o => [o.rn, o.rm]
  | .adcReg o => [o.rn, o.rs, o.rm]
  | .sbcImm o => [o.rn]
  | .sbcShift o => [o.rn, o.rm]
  | .sbcReg o => [o.rn, o.rs, o.rm]
  | .rscImm o => [o.rn]
  | .rscShift o => [o.rn, o.rm]
  | .rscReg o => [o.rn, o.rs, o.rm]
  | .tstImm o => [o.rn]
  | .tstShift o => [o.rn, o.rm]
  | .tstReg o => [o.rn, o.rs, o.rm]
  | .teqImm o => [o.rn]
  | .teqShift o => [o.rn, o.rm]
  | .teqReg o => [o.rn, o.rs, o.rm]
  | .cmpImm o => [o.rn]
  | .cmpShift o => [o.rn, o.rm]
  | .cmpReg o => [o.rn, o.rs, o.rm]
  | .cmnImm o => [o.rn]
  | .cmnShift o => [o.rn, o.rm]
  | .cmnReg o => [o.rn, o.rs, o.rm]
  | .orrImm o => [o.rn]
  | .orrShift o => [o.rn, o.rm]
  | .orrReg o => [o.rn, o.rs, o.rm]
  | .movImm _ => []
  | .movShift o => [o.rm]
  | .movReg o => [o.rs, o.rm]
  | .bicImm o => [o.rn]
  | .bicShift o => [o.rn, o.rm]
  | .bicReg o => [o.rn, o.rs, o.rm]
  | .mvnImm _ => []
  | .mvnShift o => [o.rm]
  | .mvnReg o => [o.rs, o.rm]
  | .ldrImmPre o => [o.rn]
  | .ldrImmPost o => [o.rn]
  | .ldrtImm o => [o.rn]
  | .ldrRegPre o => [o.rn, o.rm]
  | .ldrRegPost o => [o.rn, o.rm]
  | .ldrtReg o => [o.rn, o.rm]
  | .ldrbImmPre o => [o.rn]
  | .ldrbImmPost o => [o.rn]
  | .ldrbtImm o => [o.rn]
  | .ldrbRegPre o => [o.rn, o.rm]
  | .ldrbRegPost o => [o.rn, o.rm]
  | .ldrbtReg o => [o.rn, o.rm]
  | .strImmPre o => [o.rn, o.rd]
  | .strImmPost o => [o.rn, o.rd]
  | .strtImm o => [o.rn, o.rd]
  | .strRegPre o => [o.rn, o.rm, o.rd]
  | .strRegPost o => [o.rn, o.rm, o.rd]
  | .strtReg o => [o.rn, o.rm, o.rd]
  | .strbImmPre o => [o.rn, o.rd]
  | .strbImmPost o => [o.rn, o.rd]
  | .strbtImm o => [o.rn, o.rd]
  | .strbRegPre o => [o.rn, o.rm, o.rd]
  | .strbRegPost o => [o.rn, o.rm, o.rd]
  | .strbtReg o => [o.rn, o.rm, o.rd]
  | .pldImm o => [o.rn]
  | .pldReg o => [o.rn, o.rm]
  | .ldm1 o => [o.rn]
  | .ldm2 o => [o.rn]
  | .ldm3 o => [o.rn]
  | .stm1 o => o.rn :: listRegs o.list
  | .stm2 o => [o.rn]
  | .b _ => []
  | .bl _ => []
  | .blxImm _ => []
  | .cdp _ => []
  | .mcr o => [o.rd]
  | .mrc _ => []
  | .ldc o => [o.rn]
  | .stc o => [o.rn]
  | .cdp2 _ => []
  | .mcr2 o => [o.rd]
  | .mrc2 _ => []
  | .ldc2 o => [o.rn]
  | .stc2 o => [o.rn]
  | .mcrr o => [o.rd, o.rn]
  | .mrrc _ => []
  | .swi _ => []
  | .tLslImm _ => []
  | .tLsrImm _ => []
  | .tAsrImm _ => []
  | .tAddReg _ => []
  | .tSubReg _ => []
  | .tAddImm3 _ => []
  | .tSubImm3 _ => []
  | .tMovImm _ => []
  | .tCmpImm _ => []
  | .tAddImm8 _ => []
  | .tSubImm8 _ => []
  | .tAnd _ => []
  | .tEor _ => []
  | .tLslReg _ => []
  | .tLsrReg _ => []
  | .tAsrReg _ => []
  | .tAdc _ => []
  | .tSbc _ => []
  | .tRor _ => []
  | .tTst _ => []
  | .tNeg _ => []
  | .tCmpLow _ => []
  | .tCmn _ => []
  | .tOrr _ => []
  | .tMul _ => []
  | .tBic _ => []
  | .tMvn _ => []
  | .tAddHi o => [o.rd, o.rm]
  | .tCmpHi o => [o.rd, o.rm]
  | .tMovHi o => [o.rm]
  | .tBx o => [o.rm]
  | .tBlxReg o => [o.rm]
  | .tLdrPc _ => []
  | .tStrReg _ => []
  | .tStrhReg _ => []
  | .tStrbReg _ => []
  | .tLdrsbReg _ => []
  | .tLdrReg _ => []
  | .tLdrhReg _ => []
  | .tLdrbReg _ => []
  | .tLdrshReg _ => []
  | .tStrImm _ => []
  | .tLdrImm _ => []
  | .tStrbImm _ => []
  | .tLdrbImm _ => []
  | .tStrhImm _ => []
  | .tLdrhImm _ => []
  | .tStrSp _ => [13#4]
  | .tLdrSp _ => [13#4]
  | .tAddPc _ => []
  | .tAddSp _ => [13#4]
  | .tIncSp _ => [13#4]
  | .tDecSp _ => [13#4]
  | .tPush _ => [13#4, 14#4]
  | .tPop _ => [13#4]
  | .tBkpt _ => []
  | .tStmia _ => []
  | .tLdmia _ => []
  | .tBCond _ => []
  | .tSwi _ => []
  | .tB _ => []
  | .tBlPrefix _ => []
  | .tBlSuffix _ => [14#4]
  | .tBlxSuffix _ => [14#4]

/-- The condition field of an instruction (R112); none where the instruction is unconditional or has none (R113). -/
def condOf (i : Instr) : Option Cond :=
  match i with
  | .mrs o => some o.cond
  | .msrReg o => some o.cond
  | .msrImm o => some o.cond
  | .bx o => some o.cond
  | .blxReg o => some o.cond
  | .clz o => some o.cond
  | .qadd o => some o.cond
  | .qsub o => some o.cond
  | .qdadd o => some o.cond
  | .qdsub o => some o.cond
  | .bkpt _ => none
  | .smlaXy o => some o.cond
  | .smlaW o => some o.cond
  | .smulW o => some o.cond
  | .smlalXy o => some o.cond
  | .smulXy o => some o.cond
  | .mul o => some o.cond
  | .mla o => some o.cond
  | .umull o => some o.cond
  | .umlal o => some o.cond
  | .smull o => some o.cond
  | .smlal o => some o.cond
  | .swp o => some o.cond
  | .swpb o => some o.cond
  | .strhImm o => some o.cond
  | .strhReg o => some o.cond
  | .ldrhImm o => some o.cond
  | .ldrhReg o => some o.cond
  | .ldrsbImm o => some o.cond
  | .ldrsbReg o => some o.cond
  | .ldrshImm o => some o.cond
  | .ldrshReg o => some o.cond
  | .ldrdImm o => some o.cond
  | .ldrdReg o => some o.cond
  | .strdImm o => some o.cond
  | .strdReg o => some o.cond
  | .andImm o => some o.cond
  | .andShift o => some o.cond
  | .andReg o => some o.cond
  | .eorImm o => some o.cond
  | .eorShift o => some o.cond
  | .eorReg o => some o.cond
  | .subImm o => some o.cond
  | .subShift o => some o.cond
  | .subReg o => some o.cond
  | .rsbImm o => some o.cond
  | .rsbShift o => some o.cond
  | .rsbReg o => some o.cond
  | .addImm o => some o.cond
  | .addShift o => some o.cond
  | .addReg o => some o.cond
  | .adcImm o => some o.cond
  | .adcShift o => some o.cond
  | .adcReg o => some o.cond
  | .sbcImm o => some o.cond
  | .sbcShift o => some o.cond
  | .sbcReg o => some o.cond
  | .rscImm o => some o.cond
  | .rscShift o => some o.cond
  | .rscReg o => some o.cond
  | .tstImm o => some o.cond
  | .tstShift o => some o.cond
  | .tstReg o => some o.cond
  | .teqImm o => some o.cond
  | .teqShift o => some o.cond
  | .teqReg o => some o.cond
  | .cmpImm o => some o.cond
  | .cmpShift o => some o.cond
  | .cmpReg o => some o.cond
  | .cmnImm o => some o.cond
  | .cmnShift o => some o.cond
  | .cmnReg o => some o.cond
  | .orrImm o => some o.cond
  | .orrShift o => some o.cond
  | .orrReg o => some o.cond
  | .movImm o => some o.cond
  | .movShift o => some o.cond
  | .movReg o => some o.cond
  | .bicImm o => some o.cond
  | .bicShift o => some o.cond
  | .bicReg o => some o.cond
  | .mvnImm o => some o.cond
  | .mvnShift o => some o.cond
  | .mvnReg o => some o.cond
  | .ldrImmPre o => some o.cond
  | .ldrImmPost o => some o.cond
  | .ldrtImm o => some o.cond
  | .ldrRegPre o => some o.cond
  | .ldrRegPost o => some o.cond
  | .ldrtReg o => some o.cond
  | .ldrbImmPre o => some o.cond
  | .ldrbImmPost o => some o.cond
  | .ldrbtImm o => some o.cond
  | .ldrbRegPre o => some o.cond
  | .ldrbRegPost o => some o.cond
  | .ldrbtReg o => some o.cond
  | .strImmPre o => some o.cond
  | .strImmPost o => some o.cond
  | .strtImm o => some o.cond
  | .strRegPre o => some o.cond
  | .strRegPost o => some o.cond
  | .strtReg o => some o.cond
  | .strbImmPre o => some o.cond
  | .strbImmPost o => some o.cond
  | .strbtImm o => some o.cond
  | .strbRegPre o => some o.cond
  | .strbRegPost o => some o.cond
  | .strbtReg o => some o.cond
  | .pldImm _ => none
  | .pldReg _ => none
  | .ldm1 o => some o.cond
  | .ldm2 o => some o.cond
  | .ldm3 o => some o.cond
  | .stm1 o => some o.cond
  | .stm2 o => some o.cond
  | .b o => some o.cond
  | .bl o => some o.cond
  | .blxImm _ => none
  | .cdp o => some o.cond
  | .mcr o => some o.cond
  | .mrc o => some o.cond
  | .ldc o => some o.cond
  | .stc o => some o.cond
  | .cdp2 _ => none
  | .mcr2 _ => none
  | .mrc2 _ => none
  | .ldc2 _ => none
  | .stc2 _ => none
  | .mcrr o => some o.cond
  | .mrrc o => some o.cond
  | .swi o => some o.cond
  | .tLslImm _ => none
  | .tLsrImm _ => none
  | .tAsrImm _ => none
  | .tAddReg _ => none
  | .tSubReg _ => none
  | .tAddImm3 _ => none
  | .tSubImm3 _ => none
  | .tMovImm _ => none
  | .tCmpImm _ => none
  | .tAddImm8 _ => none
  | .tSubImm8 _ => none
  | .tAnd _ => none
  | .tEor _ => none
  | .tLslReg _ => none
  | .tLsrReg _ => none
  | .tAsrReg _ => none
  | .tAdc _ => none
  | .tSbc _ => none
  | .tRor _ => none
  | .tTst _ => none
  | .tNeg _ => none
  | .tCmpLow _ => none
  | .tCmn _ => none
  | .tOrr _ => none
  | .tMul _ => none
  | .tBic _ => none
  | .tMvn _ => none
  | .tAddHi _ => none
  | .tCmpHi _ => none
  | .tMovHi _ => none
  | .tBx _ => none
  | .tBlxReg _ => none
  | .tLdrPc _ => none
  | .tStrReg _ => none
  | .tStrhReg _ => none
  | .tStrbReg _ => none
  | .tLdrsbReg _ => none
  | .tLdrReg _ => none
  | .tLdrhReg _ => none
  | .tLdrbReg _ => none
  | .tLdrshReg _ => none
  | .tStrImm _ => none
  | .tLdrImm _ => none
  | .tStrbImm _ => none
  | .tLdrbImm _ => none
  | .tStrhImm _ => none
  | .tLdrhImm _ => none
  | .tStrSp _ => none
  | .tLdrSp _ => none
  | .tAddPc _ => none
  | .tAddSp _ => none
  | .tIncSp _ => none
  | .tDecSp _ => none
  | .tPush _ => none
  | .tPop _ => none
  | .tBkpt _ => none
  | .tStmia _ => none
  | .tLdmia _ => none
  | .tBCond o => some o.cond
  | .tSwi _ => none
  | .tB _ => none
  | .tBlPrefix _ => none
  | .tBlSuffix _ => none
  | .tBlxSuffix _ => none

/-- Is the instruction a row of the ARM set, rather than of the Thumb set? -/
def armRow (i : Instr) : Bool :=
  match i with
  | .mrs _ => true
  | .msrReg _ => true
  | .msrImm _ => true
  | .bx _ => true
  | .blxReg _ => true
  | .clz _ => true
  | .qadd _ => true
  | .qsub _ => true
  | .qdadd _ => true
  | .qdsub _ => true
  | .bkpt _ => true
  | .smlaXy _ => true
  | .smlaW _ => true
  | .smulW _ => true
  | .smlalXy _ => true
  | .smulXy _ => true
  | .mul _ => true
  | .mla _ => true
  | .umull _ => true
  | .umlal _ => true
  | .smull _ => true
  | .smlal _ => true
  | .swp _ => true
  | .swpb _ => true
  | .strhImm _ => true
  | .strhReg _ => true
  | .ldrhImm _ => true
  | .ldrhReg _ => true
  | .ldrsbImm _ => true
  | .ldrsbReg _ => true
  | .ldrshImm _ => true
  | .ldrshReg _ => true
  | .ldrdImm _ => true
  | .ldrdReg _ => true
  | .strdImm _ => true
  | .strdReg _ => true
  | .andImm _ => true
  | .andShift _ => true
  | .andReg _ => true
  | .eorImm _ => true
  | .eorShift _ => true
  | .eorReg _ => true
  | .subImm _ => true
  | .subShift _ => true
  | .subReg _ => true
  | .rsbImm _ => true
  | .rsbShift _ => true
  | .rsbReg _ => true
  | .addImm _ => true
  | .addShift _ => true
  | .addReg _ => true
  | .adcImm _ => true
  | .adcShift _ => true
  | .adcReg _ => true
  | .sbcImm _ => true
  | .sbcShift _ => true
  | .sbcReg _ => true
  | .rscImm _ => true
  | .rscShift _ => true
  | .rscReg _ => true
  | .tstImm _ => true
  | .tstShift _ => true
  | .tstReg _ => true
  | .teqImm _ => true
  | .teqShift _ => true
  | .teqReg _ => true
  | .cmpImm _ => true
  | .cmpShift _ => true
  | .cmpReg _ => true
  | .cmnImm _ => true
  | .cmnShift _ => true
  | .cmnReg _ => true
  | .orrImm _ => true
  | .orrShift _ => true
  | .orrReg _ => true
  | .movImm _ => true
  | .movShift _ => true
  | .movReg _ => true
  | .bicImm _ => true
  | .bicShift _ => true
  | .bicReg _ => true
  | .mvnImm _ => true
  | .mvnShift _ => true
  | .mvnReg _ => true
  | .ldrImmPre _ => true
  | .ldrImmPost _ => true
  | .ldrtImm _ => true
  | .ldrRegPre _ => true
  | .ldrRegPost _ => true
  | .ldrtReg _ => true
  | .ldrbImmPre _ => true
  | .ldrbImmPost _ => true
  | .ldrbtImm _ => true
  | .ldrbRegPre _ => true
  | .ldrbRegPost _ => true
  | .ldrbtReg _ => true
  | .strImmPre _ => true
  | .strImmPost _ => true
  | .strtImm _ => true
  | .strRegPre _ => true
  | .strRegPost _ => true
  | .strtReg _ => true
  | .strbImmPre _ => true
  | .strbImmPost _ => true
  | .strbtImm _ => true
  | .strbRegPre _ => true
  | .strbRegPost _ => true
  | .strbtReg _ => true
  | .pldImm _ => true
  | .pldReg _ => true
  | .ldm1 _ => true
  | .ldm2 _ => true
  | .ldm3 _ => true
  | .stm1 _ => true
  | .stm2 _ => true
  | .b _ => true
  | .bl _ => true
  | .blxImm _ => true
  | .cdp _ => true
  | .mcr _ => true
  | .mrc _ => true
  | .ldc _ => true
  | .stc _ => true
  | .cdp2 _ => true
  | .mcr2 _ => true
  | .mrc2 _ => true
  | .ldc2 _ => true
  | .stc2 _ => true
  | .mcrr _ => true
  | .mrrc _ => true
  | .swi _ => true
  | .tLslImm _ => false
  | .tLsrImm _ => false
  | .tAsrImm _ => false
  | .tAddReg _ => false
  | .tSubReg _ => false
  | .tAddImm3 _ => false
  | .tSubImm3 _ => false
  | .tMovImm _ => false
  | .tCmpImm _ => false
  | .tAddImm8 _ => false
  | .tSubImm8 _ => false
  | .tAnd _ => false
  | .tEor _ => false
  | .tLslReg _ => false
  | .tLsrReg _ => false
  | .tAsrReg _ => false
  | .tAdc _ => false
  | .tSbc _ => false
  | .tRor _ => false
  | .tTst _ => false
  | .tNeg _ => false
  | .tCmpLow _ => false
  | .tCmn _ => false
  | .tOrr _ => false
  | .tMul _ => false
  | .tBic _ => false
  | .tMvn _ => false
  | .tAddHi _ => false
  | .tCmpHi _ => false
  | .tMovHi _ => false
  | .tBx _ => false
  | .tBlxReg _ => false
  | .tLdrPc _ => false
  | .tStrReg _ => false
  | .tStrhReg _ => false
  | .tStrbReg _ => false
  | .tLdrsbReg _ => false
  | .tLdrReg _ => false
  | .tLdrhReg _ => false
  | .tLdrbReg _ => false
  | .tLdrshReg _ => false
  | .tStrImm _ => false
  | .tLdrImm _ => false
  | .tStrbImm _ => false
  | .tLdrbImm _ => false
  | .tStrhImm _ => false
  | .tLdrhImm _ => false
  | .tStrSp _ => false
  | .tLdrSp _ => false
  | .tAddPc _ => false
  | .tAddSp _ => false
  | .tIncSp _ => false
  | .tDecSp _ => false
  | .tPush _ => false
  | .tPop _ => false
  | .tBkpt _ => false
  | .tStmia _ => false
  | .tLdmia _ => false
  | .tBCond _ => false
  | .tSwi _ => false
  | .tB _ => false
  | .tBlPrefix _ => false
  | .tBlSuffix _ => false
  | .tBlxSuffix _ => false

end Sys2Proof.Machine
end

