-- ==== Sys2Proof/Machine/DebugRun.lean ====
section
/-! DEFINITION. Debug state at work: instructions scanned in at debug speed (R566), system speed accesses (R567) and
the return to the program (R568, R570). The timing of a scanned instruction's data is entry 18. -/

namespace Sys2Proof.Machine

/-- The instruction a scanned word is; Thumb words stand in both halves (R435, R551). -/
def State.scannedInstr (s : State) (w : Word) : Except Reject Instr :=
  if s.thumb then decodeThumb (fld w 0 16) else decodeArm w

/-- The kind of a scanned word; none if R566 does not allow it. -/
def State.scannedKind (s : State) (w : Word) : Option (Instr × Kind) :=
  match s.scannedInstr w with
  | .error _ => none
  | .ok i => if kindOf i = .other then none else some (i, kindOf i)

/-- The words a kind reads. -/
def Kind.words : Kind → Nat
  | .load n => n
  | .dataProcessing => 0
  | .statusMove => 0
  | .branch => 0
  | .store => 0
  | .other => 0

/-- Loads and stores, the instructions of a system speed access (R567). -/
def Kind.isAccess : Kind → Bool
  | .load _ => true
  | .store => true
  | .dataProcessing => false
  | .statusMove => false
  | .branch => false
  | .other => false

/-- Go on with the next state, or keep the stop. -/
def andThen (o : Out) (k : State → Out) : Out :=
  match o with
  | .next s => k s
  | .fault f => .fault f
  | .refused r => .refused r

/-- Does the condition of an instruction hold (R112)? -/
def conditionHolds (i : Instr) (p : Word) : Bool :=
  match condOf i with
  | some c => condPassed c p
  | none => true

/-- Would this instruction read a banked register directly after a user-bank transfer (R283, R286; entry 29)? -/
def State.bankConflict (s : State) (i : Instr) : Bool :=
  s.bankHazard && conditionHolds i s.cpsr && (sources i).any (banked s.mode)

/-- Execute an instruction, the note of a user-bank transfer before it used up. -/
def execNext (i : Instr) (s : State) : Out :=
  if s.bankConflict i then .refused .bankedAfterUserBank else exec i { s with bankHazard := false }

/-- Execute a scanned instruction at debug speed (R566). -/
def runScanned (w : Word) (s : State) : Out :=
  match s.scannedKind w with
  | none => .refused .debugInstruction
  | some (i, k) => if s.dbg.dataIn.length < k.words then .refused .debugInstruction else execNext i s

/-- Leave debug state: MOE is 0 again (R568). SYSCOMP falls here and not before: DESIGN CHOICE, since R51 says only when
it is HIGH (entry 38). -/
def State.leaveDebug (s : State) : State :=
  { s with
    fetchQ := []
    bankHazard := false
    ice := { s.ice with moe := 0b0000#4, sysComp := false }
    dbg := { s.dbg with active := false, pending := none, pendingSystem := false, dataIn := [], dataOut := [],
                        watch := .idle, catchNext := false, shadow := 0 } }

/-- Did an access of this step abort (R567)? Only N and S cycles are accesses (R86). -/
def State.accessAborted (s : State) (before : Nat) : Bool :=
  (s.bus.drop before).any fun c =>
    c.request && s.cfg.abort (if c.write then .write else .read) c.size c.addr c.privileged c.modeBits

/-- Back in debug state after a system speed access: five addresses on in all; after an abort in Abort mode with an
invalid r14 (R567, R570). The pc after an abort, which neither rule gives, is what entering debug state at the vector
gives (`State.enterDebug`): DESIGN CHOICE (entry 17). -/
def State.reenterDebug (s : State) (aborted : Bool) : State :=
  let n := s.instrSize
  let t := if aborted then { s.draw.2.setBankReg .abt 14#4 s.draw.1 with pc := s.pc + n + n + n }
    else { s with pc := s.pc + n + n + n + n }
  { t with
    fetchQ := []
    bankHazard := false
    ice := { t.ice with moe := 0b1011#4, sysComp := true }
    dbg := { t.dbg with systemSpeed := false, pending := none, pendingSystem := false, dataIn := [],
                        entryWatch := false, entryBoth := false, watch := .idle, catchNext := false, shadow := 0 } }

/-- A system speed access: the load or store reaches memory (R567). -/
def systemAccess (i : Instr) (s : State) : Out :=
  andThen (execNext i { s with dbg := { s.dbg with systemSpeed := true } }) fun t =>
    .next (t.reenterDebug (t.accessAborted s.bus.length))

/-- RESTART in debug state: a waiting load or store marked SYSSPEED is done at system speed and debug state is
entered again; anything else waiting (the branch of R568) is done and debug state is left. -/
def restartCore (s : State) : Out :=
  if s.dbg.active = false then .next s
  else match s.dbg.pending with
    | none => .next s.leaveDebug
    | some w =>
      match s.dbg.pendingSystem, s.scannedKind w with
      | true, some (i, k) =>
        if k.isAccess then systemAccess i s else andThen (execNext i s) fun t => .next t.leaveDebug
      | _, _ => andThen (runScanned w s) fun t => .next t.leaveDebug

/-- The words a waiting instruction reads. -/
def State.wordsNeeded (s : State) (w : Word) : Nat :=
  match s.scannedKind w with
  | none => 0
  | some (_, k) => k.words

/-- Wait for the next scan with this word. -/
def State.await (s : State) (w : Word) : State :=
  { s with dbg := { s.dbg with pending := some w, pendingSystem := false, dataIn := [] } }

/-- The word scanned behind an instruction that has just executed at debug speed from `before`: it waits, or, if the pc
did not go on in sequence, it and the next one are discarded from the pipeline (R31, R565; entry 18). -/
def State.afterScanned (s before : State) (w : Word) : State :=
  if s.pc = before.nextPc ∧ s.thumb = before.thumb then s.await w
  else { s with dbg := { s.dbg with pending := none, pendingSystem := false, dataIn := [], shadow := 1 } }

/-- A scan into scan chain 1 in debug state. The instruction scanned before this one executes now, unless it still
needs data, or this scan marks it for system speed (R551, R566, R567; entry 18). The word scanned with SYSSPEED HIGH is to
be a NOP (R567), and is taken as one without being looked at. With no scanned instruction waiting, a sequence no rule
gives, SYSSPEED is ignored and the word waits as with SYSSPEED LOW. Both are a DESIGN CHOICE (entry 18). -/
def scanInstr (w : Word) (system : Bool) (data : Word) (s : State) : Out :=
  if s.dbg.active = false then .next s
  else match s.dbg.pending with
    | none => .next (if s.dbg.shadow = 0 then s.await w else { s with dbg := { s.dbg with shadow := s.dbg.shadow - 1 } })
    | some p =>
      if s.dbg.pendingSystem then .refused .debugInstruction
      else if system then .next { s with dbg := { s.dbg with pendingSystem := true } }
      else
        let t := { s with dbg := { s.dbg with dataIn := s.dbg.dataIn ++ [data] } }
        if t.dbg.dataIn.length < s.wordsNeeded p then .next t
        else andThen (runScanned p t) fun u => .next (u.afterScanned t w)

/-- The core runs unless an illegal mode has stopped it for good (R25, D19). -/
def State.legalMode (s : State) : Bool := (Mode.ofBits (psrM s.cpsr)).isSome

/-- Carry out what a TAP clock asks. A core stuck in an illegal mode executes nothing, in debug state either. -/
def tapAction (a : TapAction) (s : State) : Out :=
  match a with
  | .nothing => .next s
  | .scanned w system data => if s.legalMode then scanInstr w system data s else .next s
  | .restart => if s.legalMode then restartCore s else .next s
  | .extest => .refused .extest

/-- The TAP clocks of one boundary, in order. -/
def tapClocks : List TapClock → State → Out
  | [], s => .next s
  | c :: cs, s => andThen (tapAction (s.tapClock c).2 (s.tapClock c).1) (tapClocks cs)

end Sys2Proof.Machine
end

