-- ==== Sys2Proof/Machine/Fetch.lean ====
section
/-! DEFINITION. The instruction interface and the prefetched instructions (R31, R70 to R83, R103): three are held,
the one about to execute and the two behind it. -/

namespace Sys2Proof.Machine

/-- Size of a fetch on the bus (R78). -/
def State.fetchSize (s : State) : Size := if s.thumb && !s.cfg.thumb32 then .half else .word

/-- The instruction at an address as memory holds it: a word, or a zero-extended halfword (R62, R79). -/
def State.instrAt (s : State) (a : Word) : Word :=
  if s.thumb then zext (s.codeMem.half s.cfg.bigEnd (align2 a)) else s.codeMem.word s.cfg.bigEnd (align4 a)

/-- The word on `INSTR` for a fetch (R79). -/
def State.instrWord (s : State) (a : Word) : Word := s.codeMem.word s.cfg.bigEnd (align4 a)

/-- What the comparators see of a fetch: `INSTR` is the whole word (R79, R555; entry 20). Control bit 0, which R555
leaves X and has software mask, is compared with 0 if it is not masked: DESIGN CHOICE (entry 20). -/
def State.fetchView (s : State) (a : Word) : BusView :=
  { isData := false, addr := a, other := Config.freeWord s.freeIx, data := s.instrWord a, privileged := s.privileged,
    size := 0b0#1 ++ bit s.thumb, write := false }

/-- Does vector catch mark this fetch? An exception's vector was chosen at its entry (R558); the reset vector, fetched at
the first boundary after reset, is caught if bit 0 of the register is set now, so not after a debug reset (R604). -/
def State.vectorCaught (s : State) : Bool := s.dbg.catchNext && (!s.resetReg || bitAt s.ice.vectorCatch 0)

/-- The breakpoint mark of a fetch: a unit, else vector catch, else `DBGIEBKPT` (R556, R558, R559; entry 20). -/
def State.fetchMark (s : State) (unit : Option (BitVec 4)) : Option (BitVec 4) :=
  if s.cfg.dbgen = false then none
  else match unit with
    | some m => some m
    | none => if s.vectorCaught then some 0b0100#4 else if s.pins.iebkpt then some 0b0101#4 else none

/-- The comparators' answer to a fetch; they are off while DBGEN is LOW (R556, R590). -/
def State.fetchCompare (s : State) (a : Word) : Ice × Option (BitVec 4) :=
  if s.cfg.dbgen then s.ice.compare (s.fetchView a) s.pins.dbgext else (s.ice, none)

/-- The request a fetch makes: the first after a change of the pc is an N cycle, the others follow as S cycles (R74,
R75). For an aborted fetch R82 says only that `INSTR` is ignored; the record shows, and the comparators see, the word that
memory holds: DESIGN CHOICE (entry 20). -/
def State.fetchCycle (s : State) (a : Word) : FetchCycle :=
  { addr := s.fetchSize.align a
    size := s.fetchSize
    seq := !s.fetchQ.isEmpty
    thumb := s.thumb
    privileged := s.privileged
    modeBits := ~~~psrM s.cpsr
    instr := s.instrWord a
    aborted := s.cfg.abort .fetch s.fetchSize (s.fetchSize.align a) s.privileged (~~~psrM s.cpsr) }

/-- With `CFGTHUMB32` HIGH the word fetched for the Thumb instruction before also supplies this one (R78). -/
def State.sharedFetch (s : State) (a : Word) : Option Fetched :=
  s.fetchQ.getLast?.filter fun f => s.cfg.thumb32 && s.thumb && f.thumb && bitAt a 1 && f.addr + 2#32 == a

/-- The entry an instruction has in the queue: its bits, and the class and abort of the fetch that supplied it (R31,
R77, R81, R82). With `CFGTHUMB32` HIGH the upper halfword of a word fetched before is read from memory as it joins the
queue, without a request, so that a store to it in between is seen as it is with the pin LOW: R78 has one fetch supply
both instructions, but also the pin never change "the instruction stream executed", so that this is a DESIGN CHOICE
(entry 36). -/
def State.fetched (s : State) (a : Word) : Fetched :=
  let c := s.fetchCycle a
  let p := s.sharedFetch a
  { addr := a
    bits := s.instrAt a
    thumb := s.thumb
    aborted := (p.map Fetched.aborted).getD c.aborted
    mark := s.fetchMark (s.fetchCompare a).2
    privileged := (p.map Fetched.privileged).getD c.privileged
    modeBits := (p.map Fetched.modeBits).getD c.modeBits }

/-- `THUMBHW` as an instruction goes into decode: which half of the fetched word it is (R78). -/
def Fetched.thumbHw (f : Fetched) : Bool := bitAt f.addr 1

/-- One instruction joins the queue: its request is made unless the word is there already, the CHAINOUT latches may
change, a vector catch is used up. -/
def State.fetch (s : State) (a : Word) : State :=
  { s with fetchQ := s.fetchQ ++ [s.fetched a], ice := (s.fetchCompare a).1,
           ibus := if (s.sharedFetch a).isSome then s.ibus else s.ibus ++ [s.fetchCycle a],
           dbg := { s.dbg with catchNext := false }, freeIx := s.freeAfterCompare false }

/-- `n` sequential fetches from `a`. -/
def prefetch : Nat → Word → State → State
  | 0, _, s => s
  | n + 1, a, s => prefetch n (a + s.instrSize) (s.fetch a)

/-- The queue from the instruction at the pc on; an entry of another address or state is no longer wanted. -/
def State.liveQueue (s : State) : List Fetched :=
  s.fetchQ.dropWhile fun f => !(f.addr == s.pc && f.thumb == s.thumb)

/-- Fill the queue up to three instructions (R31, R103; entry 9). -/
def State.fillQueue (s : State) : State :=
  let q := s.liveQueue
  prefetch (3 - q.length) (s.pc + BitVec.ofNat 32 q.length * s.instrSize) { s with fetchQ := q }

/-- The instruction a queue entry decodes to. -/
def Fetched.instr (f : Fetched) : Except Reject Instr :=
  if f.thumb then decodeThumb (fld f.bits 0 16) else decodeArm f.bits

end Sys2Proof.Machine
end

