-- ==== Sys2Proof/Machine/Boundary.lean ====
section
/-! DEFINITION. One instruction boundary (R476): the inputs of the boundary, the debug port, reset, debug entry,
interrupts, then the instruction at the pc. Step.lean is one call of `boundary`. -/

namespace Sys2Proof.Machine

/-! ### Inputs -/

/-- Take the next boundary of the pin stream; with none left the pins keep their levels (D11). The interrupt
registers follow the pins (R32), the registered nRESET holds its last level (R602), and the records of the last step and
cycle are cleared (entry 14). -/
def State.sample (s : State) : State :=
  let p := match s.pinStream with
    | b :: _ => b.pins
    | [] => s.pins
  { s with bus := [], ibus := [], cpEvents := [], ice := s.ice.settled, tap := { s.tap with tdoTrace := [] }, pins := p,
           pinStream := s.pinStream.tail, fiqReg := !p.nFIQ, irqReg := !p.nIRQ, resetReg := !s.pins.nRESET }

/-- The TAP clocks of this boundary. -/
def State.clocks (s : State) : List TapClock :=
  match s.pinStream with
  | b :: _ => b.clocks
  | [] => []

/-! ### Debug reset (R57, R601) -/

/-- A watchpoint unit after debug reset: ENABLE 0, CHAINOUT 0, the rest free (R57, U29). -/
def freeUnit (ix : Nat) : WatchUnit where
  addrValue := Config.freeWord ix
  addrMask := Config.freeWord (ix + 1)
  dataValue := Config.freeWord (ix + 2)
  dataMask := Config.freeWord (ix + 3)
  control := (Config.freeWord (ix + 4)).setWidth 9 &&& 0b011111111#9
  controlMask := (Config.freeWord (ix + 5)).setWidth 8 &&& 0b11110111#8
  chainOut := false

/-- EmbeddedICE-RT after debug reset: SYSCOMP and the data registers are free too (R57, U29). -/
def freeIce (ix : Nat) : Ice :=
  { Ice.afterReset with
    sysComp := bitAt (Config.freeWord ix) 0
    unit0 := freeUnit (ix + 1)
    unit1 := freeUnit (ix + 7)
    dccRd := Config.freeWord (ix + 13)
    dccWr := Config.freeWord (ix + 14) }

/-- The TAP controller after debug reset: Test-Logic-Reset, IDCODE, chain 3; the shift stages and `DBGTDO` are free (R57,
R546, U29). -/
def freeTap (ix : Nat) : Tap :=
  { Tap.afterReset with
    irShift := (Config.freeWord ix).setWidth 4
    chainShift := (Config.freeWord (ix + 1)).setWidth 5
    bypass := bitAt (Config.freeWord (ix + 2)) 0
    idShift := Config.freeWord (ix + 3)
    scan1 := Config.freeWord (ix + 4) ++ Config.freeWord (ix + 5) ++ (Config.freeWord (ix + 6)).setWidth 3
    scan2 := Config.freeWord (ix + 7) ++ (Config.freeWord (ix + 8)).setWidth 6
    tdo := bitAt (Config.freeWord (ix + 9)) 0 }

/-- Debug reset, while DBGnTRST is LOW (R57, R546, R603; entry 16). Of a breakpoint mark already in the queue, or a
watchpoint hit in progress, R57 and R601 say nothing: they are kept, and since the reset selects monitor mode they are
taken as its aborts. In debug state a waiting scanned instruction, its data and the entry cause bits are kept. A vector
catch whose vector is not fetched yet is dropped, its register being 0 by then. All of this is a DESIGN CHOICE (entry 31). -/
def State.debugReset (s : State) : State :=
  { s with ice := freeIce s.freeIx, tap := freeTap (s.freeIx + 15), freeIx := s.freeIx + 25,
           dbg := { s.dbg with catchNext := false } }

/-! ### The memory map (entry 10) -/

/-- Do the bytes of an access of size `z` at `a` meet the window? -/
def Window.touches (w : Window) (z : Size) (a : Word) : Bool :=
  let lo := (z.align a).toNat
  let n := match z with
    | .byte => 1
    | .half => 2
    | .word => 4
  decide (lo ≤ w.hi) && decide (w.lo < lo + n)

/-- Stop on an access to a window that is absent or a device. -/
def State.guardAccess (s : State) (z : Size) (a : Word) (k : Out) : Out :=
  match s.cfg.windows.find? (fun w => w.touches z a) with
  | none => k
  | some w => if w.device then .refused .deviceWindow else .fault .absentAddress

/-- Guard every access of the step's bus record: its N and S cycles (R86). -/
def State.guardCycles (s : State) : List BusCycle → Out
  | [] => .next s
  | c :: cs => if c.request then s.guardAccess c.size c.addr (s.guardCycles cs) else s.guardCycles cs

/-! ### Interrupts -/

/-- FIQ is taken (R484). -/
def State.fiqPending (s : State) : Bool := s.fiqReg && !psrF s.cpsr && !s.inhibited

/-- IRQ is taken (R484). -/
def State.irqPending (s : State) : Bool := s.irqReg && !psrI s.cpsr && !s.inhibited

/-- Interrupt entry: r14 is the next instruction's address + 4 (R462, R472, R473). -/
def State.interrupt (s : State) (k : ExcKind) : State := s.takeException k (s.pc + 4#32)

/-! ### The instruction at the pc -/

/-- Has the condition of these instruction bits passed? Thumb words and cond = 1111 have none here (R113). -/
def Fetched.passes (f : Fetched) (p : Word) : Bool :=
  if f.thumb then true
  else match Cond.ofBits (fld f.bits 28 4) with
    | some c => condPassed c p
    | none => true

/-- Decode and execute. A word no row matches is Undefined (R465, D20); BKPT with a condition other than AL is
UNPREDICTABLE and refused (R305). -/
def executeHead (f : Fetched) (s : State) : Out :=
  match f.instr with
  | .error e =>
    if e = .breakpointCondition then .refused .breakpointCondition
    else
      let t := { s with bankHazard := false }
      if f.passes s.cpsr then .next t.undefinedInstr else .next t.advance
  | .ok i => execNext i s

/-- A Prefetch Abort that records its debug origin (R45, R582). -/
def State.debugPrefetchAbort (s : State) : State :=
  let t := s.prefetchAbort
  { t with ice := { t.ice with dbgAbt := true } }

/-- The exception that goes before debug entry by a watchpoint: a pending interrupt, or the next instruction's
Prefetch Abort (R563, R569). -/
def State.entryException (s : State) : State :=
  if s.fiqPending then s.interrupt .fiq
  else if s.irqPending then s.interrupt .irq
  else match s.fetchQ with
    | f :: _ => if f.aborted then s.prefetchAbort else s
    | [] => s

/-- A marked instruction: debug state in halt mode, a Prefetch Abort in monitor mode. Directly after a watchpointed
access, in halt mode, a pending interrupt is entered first and the entry reports both (R551, R561, R569, R582), with the
watchpoint's method of entry: DESIGN CHOICE on the tie (N24, entry 20). In monitor mode R581 and R582 do not say which
abort comes first: the Prefetch Abort does, and the watchpoint's Data Abort follows from its vector, writing r14_abt and
SPSR_abt again: DESIGN CHOICE (entry 20). An interrupt pending then, which R478 has before a breakpoint and R563 after the
next instruction, waits for both, as it does where that instruction's fetch aborted: DESIGN CHOICE (entry 19). -/
def State.breakpointHit (s : State) (m : BitVec 4) : State :=
  if s.ice.monitor then s.debugPrefetchAbort
  else match s.dbg.watch with
    | .armed w =>
      let t := s.entryException.enterDebug w
      { t with dbg := { t.dbg with entryWatch := true, entryBoth := true } }
    | _ => s.enterDebug m

/-- Is this instruction BKPT? -/
def Fetched.isBkpt (f : Fetched) : Bool :=
  match f.instr with
  | .ok (.bkpt _) => true
  | .ok (.tBkpt _) => true
  | _ => false

/-- The breakpoint mark of the instruction at the pc. Directly after a watchpointed access BKPT in halt mode counts as a
breakpoint on it (R561), so that a pending interrupt is entered first (R569) and the entry reports both; that it is
reported so is a DESIGN CHOICE (N24, entry 20). -/
def State.headMark (s : State) (f : Fetched) : Option (BitVec 4) :=
  match f.mark, s.dbg.watch with
  | some m, _ => some m
  | none, .armed _ => if s.haltMode && f.isBkpt then some 0b0011#4 else none
  | none, _ => none

/-- The instruction at the head of the queue (R476 steps 6 to 9). The memory map is asked about its fetch only here, when
it is to execute: a prefetch from an absent or device window that is never executed does not stop the run. D9 does not
say so: DESIGN CHOICE (entry 10). -/
def runHead (f : Fetched) (s : State) : Out :=
  s.guardAccess s.fetchSize f.addr
    (if f.aborted then .next s.prefetchAbort
     else match s.headMark f with
       | some m => .next (s.breakpointHit m)
       | none => andThen (executeHead f s) fun t => t.guardCycles t.bus)

/-- The head of the queue, filled beforehand. -/
def runNext (s : State) : Out :=
  match s.fetchQ with
  | [] => .next s
  | f :: _ => runHead f s

/-! ### Core reset (R56, R602) -/

/-- The CPSR after core reset: Supervisor, I = F = 1, T = 0, the rest free (R56, U1). -/
def resetCpsr (free : Word) : Word := (free &&& 0xFFFFFF00#32) ||| 0x000000D3#32

/-- The writes of the instruction that reset cuts short: those the instruction at the pc, prefetched or fetched now,
would have made (R602, D4). While reset is held nothing is fetched and nothing is in flight. -/
def State.inFlight (s : State) : List BusCycle :=
  if s.resetReg || s.dbg.active || !s.legalMode then []
  else match s.fillQueue.fetchQ with
    | [] => []
    | f :: _ =>
      if f.aborted || f.mark.isSome then []
      else match executeHead f { s with bus := [] } with
        | .next t => t.bus.filter fun c => c.write && c.request
        | .fault _ => []
        | .refused _ => []

/-- The words a cut store was to write hold free values (R602, D4). -/
def cutStores : List BusCycle → State → State
  | [], s => s
  | c :: cs, s => cutStores cs (s.draw.2.store c.size c.addr s.draw.1)

/-- The core's own state after core reset: registers, saved status and flags are free values (R56, D4, D5). -/
def State.resetCore (s : State) : State :=
  { s with
    regs := Vector.ofFn fun i : Fin 30 => Config.freeWord (s.freeIx + i.val)
    spsrFiq := Config.freeWord (s.freeIx + 30)
    spsrSvc := Config.freeWord (s.freeIx + 31)
    spsrAbt := Config.freeWord (s.freeIx + 32)
    spsrIrq := Config.freeWord (s.freeIx + 33)
    spsrUnd := Config.freeWord (s.freeIx + 34)
    cpsr := resetCpsr (Config.freeWord (s.freeIx + 35))
    freeIx := s.freeIx + 36
    pc := s.cfg.vectorBase
    fetchQ := []
    bankHazard := false
    dbg := { Debug.idle with catchNext := s.cfg.dbgen } }

/-- Core reset, while nRESET is LOW: the instruction in flight ends abnormally, then the core's state is reset (R56,
R602, D4). With DBGnTRST LOW too debug state is left (R604). -/
def State.coreReset (s : State) : State := (cutStores s.inFlight s).resetCore

/-! ### Debug entry -/

/-- Debug state after a watchpoint (R551, R563). -/
def State.enterByWatch (s : State) (moe : BitVec 4) : State :=
  let t := s.enterDebug moe
  { t with dbg := { t.dbg with entryWatch := true } }

/-- The watchpoint's Data Abort in monitor mode: r14 is the next instruction's address + 4 (R581). If the instruction
that completes after the access itself took an external Data Abort or Prefetch Abort, R581 does not say which entry comes
first: that abort has been entered already, and this one follows from its vector and overwrites r14_abt and SPSR_abt:
DESIGN CHOICE (entry 19). -/
def State.watchAbort (s : State) : State :=
  let t := s.takeException .dataAbort (s.pc + 4#32)
  { t with ice := { t.ice with dbgAbt := true }, dbg := { t.dbg with watch := .idle } }

/-- The instruction after the watchpointed access is done: debug entry or the Data Abort (R563, R581). -/
def State.watchDone (s : State) (moe : BitVec 4) : State :=
  if s.ice.monitor then s.watchAbort else s.entryException.enterByWatch moe

/-- The method of entry of a debug request (R564). -/
def State.requestMoe (s : State) : BitVec 4 := if s.pins.edbgrq then 0b1010#4 else 0b1001#4

/-- Steps 3 to 9 of R476, with no watchpoint in progress. -/
def normalBoundary (s : State) : Out :=
  if s.cfg.dbgen && s.debugRequest then .next (s.enterDebug s.requestMoe)
  else if s.fiqPending then .next (s.interrupt .fiq)
  else if s.irqPending then .next (s.interrupt .irq)
  else runNext s

/-- Does something end a busy-wait: an enabled interrupt or a debug request (R326, R328)? -/
def State.endsWait (s : State) : Bool := s.fiqPending || s.irqPending || (s.cfg.dbgen && s.debugRequest)

/-- A watchpointed access in progress comes first (R563, R569). The next instruction completes, and an external abort of
its own is entered before the watchpoint's entry, in monitor mode too: DESIGN CHOICE (entry 19). With `watchRuns` clear
it is never executed and the entry comes at once, which is R329's reading. If the next instruction is a coprocessor
instruction that busy-waits, the entry waits for it, unless an interrupt or a debug request has it abandoned, as not
executed (R328; entry 19). After an access that aborted too, debug state is entered in Abort mode at once; an enabled FIQ
pending then is not entered first, of which R569 says both: DESIGN CHOICE (entry 19). -/
def watchBoundary (s : State) : Out :=
  match s.dbg.watch with
  | .idle => normalBoundary s
  | .hit moe =>
    if s.cfg.watchRuns then runNext { s with dbg := { s.dbg with watch := .armed moe } } else .next (s.watchDone moe)
  | .waiting moe =>
    if s.endsWait then .next (s.watchDone moe) else runNext { s with dbg := { s.dbg with watch := .armed moe } }
  | .armed moe => .next (s.watchDone moe)
  | .aborted moe => .next (s.enterByWatch moe)

/-- A restriction of monitor mode is violated (R583, U27). -/
def State.monitorViolation (s : State) : Bool :=
  s.cfg.dbgen && s.ice.monitor &&
    (s.pins.iebkpt || s.pins.dewpt ||
      (s.ice.comparing && (Ice.unitRestricted s.ice.unit0 || Ice.unitRestricted s.ice.unit1)))

/-- The core's part of a boundary, after the inputs. An illegal mode is stuck (R25, D19); debug state fetches
nothing (R560). -/
def coreBoundary (s : State) : Out :=
  if s.pins.nRESET = false then
    if s.dbg.active && s.pins.nTRST then .refused .resetInDebug else .next s.coreReset
  else if s.legalMode = false then .next s
  else if s.dbg.active then s.guardCycles s.bus
  else if s.monitorViolation then .refused .monitorRestriction
  else watchBoundary s.fillQueue

/-- The debug port's part: debug reset, or the TAP clocks. -/
def debugPort (clocks : List TapClock) (s : State) : Out :=
  if s.pins.nTRST then tapClocks clocks s else .next s.debugReset

/-- One instruction boundary. -/
def boundary (s : State) : Out := andThen (debugPort s.clocks s.sample) coreBoundary

/-! ### Output pins -/

/-- `DBGACK` (R574). -/
def State.dbgack (s : State) : Bool := s.cfg.dbgen && (s.dbg.active || bitAt s.ice.control 0)

/-- `FIQDIS` (R482). -/
def State.fiqdis (s : State) : Bool := psrF s.cpsr || s.inhibited

/-- `IRQDIS` (R482). -/
def State.irqdis (s : State) : Bool := psrI s.cpsr || s.inhibited

/-- `DBGCOMMRX` (R44, R603). -/
def State.commRx (s : State) : Bool := s.pins.nTRST && s.ice.r

/-- `DBGCOMMTX` (R44, R603). -/
def State.commTx (s : State) : Bool := s.pins.nTRST && !s.ice.w

end Sys2Proof.Machine
end

