-- ==== Sys2Proof/Machine/Step.lean ====
section
/-! DEFINITION. The step function, and the load of one instruction where the next step fetches it. -/

namespace Sys2Proof.Machine

/-- One step: one instruction boundary (R476). -/
def step (s : State) : Host.Outcome State Fault Refusal := boundary s

/-- Load code where fetches read it: the instruction array of a split memory and what the data side sees of it, or
the one memory (R61, D2). -/
def State.loadCode (s : State) (z : Size) (a v : Word) : State :=
  { s with imem := if s.cfg.split then s.imem.write s.cfg.bigEnd z a v else s.imem
           mem := if s.cfg.split && !s.cfg.reachesCode a then s.mem else s.mem.write s.cfg.bigEnd z a v }

/-- Store an instruction of `nbits` bits at the pc and select its state: 16 bits is Thumb, else ARM. It stands for
the load of a program from outside the core (R612, entry 23); the prefetched instructions are dropped. -/
def State.withFetchWord (s : State) (nbits w : Nat) : State :=
  if nbits = 16 then
    { s.loadCode .half s.pc (BitVec.ofNat 32 w) with fetchQ := [], cpsr := setPsrT s.cpsr true }
  else
    { s.loadCode .word s.pc (BitVec.ofNat 32 w) with fetchQ := [], cpsr := setPsrT s.cpsr false }

end Sys2Proof.Machine
end

