-- ==== Sys2Proof/Safety.lean ====
section
/-! DEFINITION. What claims call a healthy state: the representation invariants every step keeps. -/

namespace Sys2Proof.Machine

/-- The pc is aligned for the instruction set in force (R65, R237). -/
def State.pcAligned (s : State) : Prop := if s.thumb then align2 s.pc = s.pc else align4 s.pc = s.pc

/-- The bits of the debug registers that are fixed read as the spec says: debug control bit 3, vector catch bit 5
and bit 3 of the control masks are 0 (R48, R50, U4). -/
def Ice.fixedBits (i : Ice) : Prop :=
  bitAt i.control 3 = false ∧ bitAt i.vectorCatch 5 = false ∧
    bitAt i.unit0.controlMask 3 = false ∧ bitAt i.unit1.controlMask 3 = false

/-- The step is stuck: an illegal mode, left by reset only (R25). -/
def State.stuck (s : State) : Prop := Mode.ofBits (psrM s.cpsr) = none

/-- A step stops in a fault. -/
def faults (o : Out) : Prop := ∃ f, o = .fault f

/-- A step completes. -/
def completes (o : Out) : Prop := ∃ t, o = .next t

end Sys2Proof.Machine
end

