-- ==== Sys2Proof/Certificates/Slice0/Obligations.lean ====
section
/-! DEFINITION. The statements about the model, each from a numbered rule of spec/ or marked in its docstring as
resting on a choice of the model. The namespace `Claims` holds what several statements share: the spec's formulas
written once more, apart from the model's own. -/

namespace Sys2Proof.Claims

open Sys2Proof.Machine

/-! ### Premises -/

/-- Debug is off: DBGEN LOW and not in debug state (R590). -/
def calm (s : State) : Prop := s.cfg.dbgen = false ∧ s.dbg.active = false

/-- The memory system aborts nothing (D10's default). -/
def noAborts (s : State) : Prop := ∀ acc z a p b, s.cfg.abort acc z a p b = false

/-- The pins as they will stand at the next boundary ask for nothing, except possibly an interrupt. -/
def quietPins (s : State) : Prop :=
  s.pinStream = [] ∧ s.pins.nRESET = true ∧ s.pins.nTRST = true

/-- A boundary where only interrupts and the instruction itself can act: debug off, a legal mode, no watchpoint. -/
def plainBoundary (s : State) : Prop :=
  quietPins s ∧ calm s ∧ s.dbg.watch = .idle ∧ Mode.ofBits (psrM s.cpsr) ≠ none

/-! ### Status words -/

/-- New condition flags over the other 28 bits (R20). -/
def flagWord (n z c v : Bool) (p : Word) : Word := (bit n ++ bit z ++ bit c ++ bit v ++ fld p 0 28 : BitVec 32)

/-- The CPSR an exception leaves: bits 31:8 kept, I = 1, F = 1 if `f` else kept, T = 0, then the mode (R460). -/
def enteredCpsr (old : Word) (f : Bool) (m : BitVec 5) : Word :=
  (fld old 8 24 ++ 0b1#1 ++ bit (f || bitAt old 6) ++ 0b0#1 ++ m : BitVec 32)

/-- The base of the vectors (R455). -/
def vectors (s : State) : Word := if s.cfg.hiVecs then 0xFFFF0000#32 else 0#32

/-! ### Data processing -/

/-- A data-processing operation as R170 to R185 write it: a bitwise function, or `AddWithCarry(x, y, c)`. -/
inductive AluSpec where
  | logical (f : Word → Word → Word)
  | sum (x y : Word → Word → Word) (c : Bool → Bool)

/-- The result. -/
def AluSpec.value (a : AluSpec) (rn op2 : Word) (c : Bool) : Word :=
  match a with
  | .logical f => f rn op2
  | .sum x y k => x rn op2 + y rn op2 + (if k c then 1#32 else 0#32)

/-- The CPSR with the flags of R166: N and Z of the result; C and V by the class. The carry is that of the sum over
the naturals, the overflow the rule of signs. -/
def AluSpec.flags (a : AluSpec) (rn : Word) (op2 : Shifted) (p : Word) : Word :=
  let r := a.value rn op2.value (psrC p)
  match a with
  | .logical _ => flagWord r.msb (decide (r = 0)) op2.carry (psrV p) p
  | .sum x y k =>
    let a' := x rn op2.value
    let b' := y rn op2.value
    flagWord r.msb (decide (r = 0)) (decide (2 ^ 32 ≤ a'.toNat + b'.toNat + (k (psrC p)).toNat))
      (decide (a'.msb = b'.msb) && decide (r.msb ≠ a'.msb)) p

/-- The three ARM forms of an operation that writes Rd. -/
structure AluRow where
  imm : AluImmOps → Instr
  shift : AluShiftOps → Instr
  reg : AluRegOps → Instr
  op : AluSpec

def addSpec : AluSpec := .sum (fun a _ => a) (fun _ b => b) (fun _ => false)
def adcSpec : AluSpec := .sum (fun a _ => a) (fun _ b => b) (fun c => c)
def subSpec : AluSpec := .sum (fun a _ => a) (fun _ b => ~~~b) (fun _ => true)
def sbcSpec : AluSpec := .sum (fun a _ => a) (fun _ b => ~~~b) (fun c => c)
def rsbSpec : AluSpec := .sum (fun a _ => ~~~a) (fun _ b => b) (fun _ => true)
def rscSpec : AluSpec := .sum (fun a _ => ~~~a) (fun _ b => b) (fun c => c)
def andSpec : AluSpec := .logical fun a b => a &&& b
def eorSpec : AluSpec := .logical fun a b => a ^^^ b
def orrSpec : AluSpec := .logical fun a b => a ||| b
def bicSpec : AluSpec := .logical fun a b => a &&& ~~~b
def movSpec : AluSpec := .logical fun _ b => b
def mvnSpec : AluSpec := .logical fun _ b => ~~~b

/-- AND, EOR, ORR, BIC. -/
def logicalRows : List AluRow :=
  [⟨.andImm, .andShift, .andReg, andSpec⟩, ⟨.eorImm, .eorShift, .eorReg, eorSpec⟩,
   ⟨.orrImm, .orrShift, .orrReg, orrSpec⟩, ⟨.bicImm, .bicShift, .bicReg, bicSpec⟩]

/-- SUB, RSB, ADD, ADC, SBC, RSC. -/
def arithmeticRows : List AluRow :=
  [⟨.subImm, .subShift, .subReg, subSpec⟩, ⟨.rsbImm, .rsbShift, .rsbReg, rsbSpec⟩,
   ⟨.addImm, .addShift, .addReg, addSpec⟩, ⟨.adcImm, .adcShift, .adcReg, adcSpec⟩,
   ⟨.sbcImm, .sbcShift, .sbcReg, sbcSpec⟩, ⟨.rscImm, .rscShift, .rscReg, rscSpec⟩]

/-- The ten operations on two operands. -/
def aluRows : List AluRow := logicalRows ++ arithmeticRows

/-- The three ARM forms of a comparison. -/
structure CmpRow where
  imm : CmpImmOps → Instr
  shift : CmpShiftOps → Instr
  reg : CmpRegOps → Instr
  op : AluSpec

/-- TST, TEQ, CMP, CMN. -/
def cmpRows : List CmpRow :=
  [⟨.tstImm, .tstShift, .tstReg, andSpec⟩, ⟨.teqImm, .teqShift, .teqReg, eorSpec⟩,
   ⟨.cmpImm, .cmpShift, .cmpReg, subSpec⟩, ⟨.cmnImm, .cmnShift, .cmnReg, addSpec⟩]

/-- The three ARM forms of a move. -/
structure MovRow where
  imm : MovImmOps → Instr
  shift : MovShiftOps → Instr
  reg : MovRegOps → Instr
  op : AluSpec

/-- MOV and MVN. -/
def movRows : List MovRow :=
  [⟨.movImm, .movShift, .movReg, movSpec⟩, ⟨.mvnImm, .mvnShift, .mvnReg, mvnSpec⟩]

/-- Rd gets the result, the flags change if S; nothing else but the pc changes. -/
def aluNext (op : AluSpec) (s : State) (setFlags : Bool) (rd : Reg) (rn : Word) (b : Shifted) : State :=
  { s with regs := s.regs.set (physIx s.mode rd) (op.value rn b.value (psrC s.cpsr))
           cpsr := if setFlags then op.flags rn b s.cpsr else s.cpsr
           pc := s.pc + 4#32 }

/-- Only the flags and the pc change. -/
def cmpNext (op : AluSpec) (s : State) (rn : Word) (b : Shifted) : State :=
  { s with cpsr := op.flags rn b s.cpsr, pc := s.pc + 4#32 }

/-- The shifter operand of an immediate-amount shift, by R163: an amount field of 0 means 32 for LSR and ASR and a
rotation through C for ROR. -/
def shiftImmSpec (ty : ShiftTy) (n : Nat) (x : Word) (c : Bool) : Word × Bool :=
  match ty with
  | .lsl => (x <<< n, if n = 0 then c else bitAt x (32 - n))
  | .lsr => if n = 0 then (0, x.msb) else (x >>> n, bitAt x (n - 1))
  | .asr => if n = 0 then (x.sshiftRight 32, x.msb) else (x.sshiftRight n, bitAt x (n - 1))
  | .ror => if n = 0 then ((x >>> 1) ||| (if c then 0x80000000#32 else 0#32), bitAt x 0)
            else (x.rotateRight n, bitAt x (n - 1))

/-- The shifter operand of a register-amount shift, by R163, for every amount from 0 to 255. -/
def shiftRegSpec (ty : ShiftTy) (n : Nat) (x : Word) (c : Bool) : Word × Bool :=
  if n = 0 then (x, c)
  else match ty with
    | .lsl => (x <<< n, decide (n ≤ 32) && bitAt x (32 - n))
    | .lsr => (x >>> n, bitAt x (n - 1))
    | .asr => (x.sshiftRight n, if n < 32 then bitAt x (n - 1) else x.msb)
    | .ror => (x.rotateRight (n % 32), bitAt x ((n - 1) % 32))

/-! ### Multiplies -/

/-- The flags of a 32-bit product if S: N and Z, C and V kept (R218). -/
def mulFlags (setFlags : Bool) (r : Word) (p : Word) : Word :=
  if setFlags then flagWord r.msb (decide (r = 0)) (psrC p) (psrV p) p else p

/-- The same of a 64-bit product. -/
def longMulFlags (setFlags : Bool) (r : BitVec 64) (p : Word) : Word :=
  if setFlags then flagWord r.msb (decide (r = 0)) (psrC p) (psrV p) p else p

/-- A 64-bit result in RdHi and RdLo. -/
def longRegs (s : State) (hi lo : Reg) (r : BitVec 64) : Vector Word 30 :=
  (s.regs.set (physIx s.mode lo) (r.setWidth 32)).set (physIx s.mode hi) ((r >>> 32).setWidth 32)

/-- One row of the long multiplies: signed or unsigned product, with or without the old RdHi:RdLo. -/
structure LongRow where
  instr : MullOps → Instr
  signed : Bool
  accumulate : Bool

/-- UMULL, UMLAL, SMULL, SMLAL. -/
def longRows : List LongRow :=
  [⟨.umull, false, false⟩, ⟨.umlal, false, true⟩, ⟨.smull, true, false⟩, ⟨.smlal, true, true⟩]

/-- The 64-bit result of a long multiply. -/
def LongRow.value (r : LongRow) (s : State) (o : MullOps) : BitVec 64 :=
  (if r.signed then (s.reg o.rm).signExtend 64 * (s.reg o.rs).signExtend 64
   else (s.reg o.rm).setWidth 64 * (s.reg o.rs).setWidth 64) +
    (if r.accumulate then (s.reg o.rdHi ++ s.reg o.rdLo : BitVec 64) else 0#64)

/-- Clamp to the signed 32-bit range (R215). -/
def clamp (i : Int) : Int := max (-2147483648) (min 2147483647 i)

/-- The Q flag is set if `q`, and kept otherwise (R22). -/
def withQ (q : Bool) (p : Word) : Word := if q then p ||| 0x08000000#32 else p

/-- One saturating instruction: the two clamps of R207 to R210, in order. -/
structure SatRow where
  instr : QOps → Instr
  doubled : Bool
  subtract : Bool

/-- QADD, QSUB, QDADD, QDSUB. -/
def satRows : List SatRow :=
  [⟨.qadd, false, false⟩, ⟨.qsub, false, true⟩, ⟨.qdadd, true, false⟩, ⟨.qdsub, true, true⟩]

/-- The second operand before clamping. -/
def SatRow.raw (r : SatRow) (n : Word) : Int := if r.doubled then 2 * n.toInt else n.toInt

/-- The exact sum or difference. -/
def SatRow.sum (r : SatRow) (m n : Word) : Int :=
  if r.subtract then m.toInt - clamp (r.raw n) else m.toInt + clamp (r.raw n)

/-- A halfword of a register, sign-extended (R215). -/
def halfOf (v : Word) (top : Bool) : Word := (if top then v >>> 16 else v).setWidth 16 |>.signExtend 32

/-- Signed overflow of a 32-bit addition: the rule of signs. -/
def addOverflows (a b : Word) : Bool := decide (a.msb = b.msb) && decide ((a + b).msb ≠ a.msb)

/-- Bits 47:16 of a 32 by 16 signed product (R213). -/
def wideOf (a b : Word) (top : Bool) : Word :=
  ((a.signExtend 64 * (halfOf b top).signExtend 64).sshiftRight 16).setWidth 32

/-! ### Data accesses -/

/-- A transfer that is the last of its instruction as the data interface shows it (R84 to R92). -/
def transfer (s : State) (z : Size) (a : Word) (user write seq lock : Bool) (burst : BitVec 4) (data : Word) :
    BusCycle :=
  { addr := a, size := z, write := write, request := true, seq := seq, more := false, privileged := s.privileged && !user,
    modeBits := if user then 0b01111#5 else ~~~psrM s.cpsr, lock := lock, spec := false, burst := burst, data := data }

/-- What a load delivers, from the bytes of memory (R62, R64, R250 to R260). -/
def loadedValue (s : State) (k : LoadKind) (a : Word) : Word :=
  match k with
  | .word => (s.mem.word s.cfg.bigEnd (align4 a)).rotateRight (8 * (a.toNat % 4))
  | .byte => (s.mem.byte a).setWidth 32
  | .half => (s.mem.half s.cfg.bigEnd (align2 a)).setWidth 32
  | .signedByte => (s.mem.byte a).signExtend 32
  | .signedHalf => (s.mem.half s.cfg.bigEnd (align2 a)).signExtend 32

/-- The register file after the writeback of an address. -/
def basedRegs (s : State) (rn : Reg) (a : Addressed) : Vector Word 30 :=
  match a.writeback with
  | some b => s.regs.set (physIx s.mode rn) b
  | none => s.regs

/-- After a single load: base, Rd, pc and the bus record; all else unchanged. -/
def loadNext (s : State) (k : LoadKind) (user : Bool) (rn rd : Reg) (a : Addressed) : State :=
  { s with regs := (basedRegs s rn a).set (physIx s.mode rd) (loadedValue s k a.addr)
           pc := s.pc + s.instrSize
           bus := s.bus ++ [transfer s k.size a.addr user false false false 0 0] }

/-- Writeback is to another register than r15, Rd and Rm (R246, R248). -/
def baseFree (a : Addressed) (rn rd : Reg) (rm : Option Reg) : Prop :=
  rm ≠ some 15#4 ∧ (a.writeback.isSome = true → rn ≠ 15#4 ∧ rn ≠ rd ∧ rm ≠ some rn)

/-- One ARM load form completes with its result. -/
def Loads {Ops : Type} (c : Ops → Instr) (k : LoadKind) (user : Bool) (cond : Ops → Cond) (rn rd : Ops → Reg)
    (rm : Ops → Option Reg) (address : Ops → State → Addressed) : Prop :=
  ∀ (o : Ops) (s : State), condPassed (cond o) s.cpsr = true → s.thumb = false → calm s → noAborts s →
    rd o ≠ 15#4 → baseFree (address o s) (rn o) (rd o) (rm o) →
    exec (c o) s = .next (loadNext s k user (rn o) (rd o) (address o s))

/-- The byte a store of `v` at `a` puts at address `x`, if it stores there (R62, R92). -/
def storedByte (big : Bool) (z : Size) (a v x : Word) : Option Byte :=
  let n := match z with
    | .byte => 1
    | .half => 2
    | .word => 4
  let i := (x - z.align a).toNat
  if i < n then some (fld v (8 * (if big then n - 1 - i else i)) 8) else none

/-- Memory `m` is the old memory with a store of `v` at `a`, and every other byte as before. -/
def storedIn (s : State) (z : Size) (a v : Word) (m : Memory) : Prop :=
  ∀ x, m.byte x = (storedByte s.cfg.bigEnd z a v x).getD (s.mem.byte x)

/-- The instruction array of a split memory (D2) after the same store: it takes the bytes where the address reaches it
(R61) and is as before otherwise. -/
def storedInCode (s : State) (z : Size) (a v : Word) (im : Memory) : Prop :=
  (s.cfg.reachesCode a = false → im = s.imem) ∧
  (s.cfg.reachesCode a = true → s.imem.wf = true →
    ∀ x, im.byte x = (storedByte s.cfg.bigEnd z a v x).getD (s.imem.byte x))

/-- The value a store takes from a register: r15 is the address + STORE_PC_OFFSET (R262). -/
def storedReg (s : State) (n : Reg) : Word :=
  if n = 15#4 then (if s.cfg.storePc12 then s.pc + 12#32 else s.pc + 8#32) else s.bankReg s.mode n

/-- After a single store: memory, base, pc and the bus record; all else unchanged. -/
def storeNext (s : State) (z : Size) (user : Bool) (rn rd : Reg) (a : Addressed) (m im : Memory) : State :=
  { s with mem := m
           imem := im
           regs := basedRegs s rn a
           pc := s.pc + s.instrSize
           bus := s.bus ++ [transfer s z a.addr user true false false 0 (z.replicate (storedReg s rd))] }

/-- One ARM store form completes with its result. Only a word store may take r15 (R254, R262). -/
def Stores {Ops : Type} (c : Ops → Instr) (z : Size) (user : Bool) (cond : Ops → Cond) (rn rd : Ops → Reg)
    (rm : Ops → Option Reg) (address : Ops → State → Addressed) : Prop :=
  ∀ (o : Ops) (s : State), condPassed (cond o) s.cpsr = true → s.thumb = false → calm s → noAborts s →
    s.mem.wf = true → (rd o = 15#4 → z = .word) → baseFree (address o s) (rn o) (rd o) (rm o) →
    ∃ m im, exec (c o) s = .next (storeNext s z user (rn o) (rd o) (address o s) m im) ∧
      storedIn s z (address o s).addr (storedReg s (rd o)) m ∧
      storedInCode s z (address o s).addr (storedReg s (rd o)) im

/-- One Thumb load form completes with its result. -/
def ThumbLoads {Ops : Type} (c : Ops → Instr) (k : LoadKind) (rd : Ops → LowReg) (address : Ops → State → Word) :
    Prop :=
  ∀ (o : Ops) (s : State), s.thumb = true → calm s → noAborts s →
    exec (c o) s = .next (loadNext s k false 0#4 (low (rd o)) { addr := address o s, writeback := none })

/-- One Thumb store form completes with its result. -/
def ThumbStores {Ops : Type} (c : Ops → Instr) (z : Size) (rd : Ops → LowReg) (address : Ops → State → Word) : Prop :=
  ∀ (o : Ops) (s : State), s.thumb = true → calm s → noAborts s → s.mem.wf = true →
    ∃ m im,
      exec (c o) s = .next (storeNext s z false 0#4 (low (rd o)) { addr := address o s, writeback := none } m im) ∧
      storedIn s z (address o s) (storedReg s (low (rd o))) m ∧
      storedInCode s z (address o s) (storedReg s (low (rd o))) im

/-- The state a Data Abort of the instruction at the pc leaves, after the transfers of `bus` (R462, R470). -/
def abortedState (s : State) (bus : List BusCycle) : State :=
  { s with regs := s.regs.set (physIx .abt 14#4) (s.pc + 8#32)
           spsrAbt := s.cpsr
           cpsr := enteredCpsr s.cpsr false 0b10111#5
           pc := vectors s + 0x10#32
           fetchQ := []
           bankHazard := false
           bus := bus
           dbg := { s.dbg with catchNext := false } }

/-! ### Block transfers -/

/-- How many registers of the list come before `n` (R281: the lowest register has the lowest address). -/
def rank (list : BitVec 16) (n : Reg) : Nat := ((List.range n.toNat).filter fun i => list.getLsbD i).length

/-- How many registers are in the list. -/
def count (list : BitVec 16) : Nat := ((List.range 16).filter fun i => list.getLsbD i).length

/-- Is register `n` in the list? -/
def listed (list : BitVec 16) (n : Reg) : Bool := list.getLsbD n.toNat

/-- The lowest address of the transfer (R281). -/
def firstAddress (p u : Bool) (base : Word) (n : Nat) : Word :=
  match p, u with
  | false, true => base
  | true, true => base + 4#32
  | false, false => base - 4#32 * BitVec.ofNat 32 n + 4#32
  | true, false => base - 4#32 * BitVec.ofNat 32 n

/-- The new base (R281). -/
def newBase (u : Bool) (base : Word) (n : Nat) : Word :=
  if u then base + 4#32 * BitVec.ofNat 32 n else base - 4#32 * BitVec.ofNat 32 n

/-- The word for register `n` in memory. -/
def slotAddress (first : Word) (list : BitVec 16) (n : Reg) : Word := align4 (first + 4#32 * BitVec.ofNat 32 (rank list n))

/-- The word for register `n`. -/
def slotWord (s : State) (first : Word) (list : BitVec 16) (n : Reg) : Word :=
  s.mem.word s.cfg.bigEnd (slotAddress first list n)

/-- The registers after a block load into bank `m`: listed registers get their words, the base its new value if it
is written back, every other register of every bank is as before. -/
def blockLoaded (s t : State) (m : Mode) (list : BitVec 16) (first : Word) (base : Option (Reg × Word)) : Prop :=
  (∀ n : Reg, n ≠ 15#4 → listed list n = true → t.regs[physIx m n] = slotWord s first list n) ∧
  (∀ b, base = some b → listed list b.1 = false → t.regs[physIx s.mode b.1] = b.2) ∧
  (∀ i : Fin 30, (∀ n : Reg, n ≠ 15#4 → listed list n = true → physIx m n ≠ i) →
    (∀ b, base = some b → physIx s.mode b.1 ≠ i) → t.regs[i] = s.regs[i])

/-- Nothing but registers, pc, CPSR, the prefetched instructions and the bus record differs. -/
def onlyRegs (s t : State) : Prop :=
  t = { s with regs := t.regs, pc := t.pc, cpsr := t.cpsr, fetchQ := t.fetchQ, bus := t.bus }

/-- A branch-and-exchange target that R237 does not call UNPREDICTABLE: bits 1:0 are not 0b10. -/
def exchangeable (v : Word) : Prop := fld v 0 2 ≠ 0b10#2

/-- A load of r15 from memory, `LoadPC(v)` (R236). -/
def loadedPc (s t : State) (v : Word) : Prop :=
  if s.cfg.disLTbit then t.cpsr = s.cpsr ∧ t.pc = (if s.thumb then align2 v else align4 v)
  else exchangeable v → t.cpsr = setBit s.cpsr 5 (bitAt v 0) ∧ t.pc = align2 v

/-- The bytes of both memories outside the aligned words at the addresses `p` holds of are as before. -/
def keptOutside (s t : State) (p : Word → Prop) : Prop :=
  (∀ x : Word, (∀ a, p a → 4 ≤ (x - align4 a).toNat) → t.mem.byte x = s.mem.byte x) ∧
  (s.imem.wf = true → ∀ x : Word, (∀ a, p a → 4 ≤ (x - align4 a).toNat) → t.imem.byte x = s.imem.byte x)

/-- Memory after a block store: each listed register's word in its slot, every byte outside the slots as before.
`isOpen` marks a register whose stored value is free. -/
def blockStored (s t : State) (value : Reg → Word) (isOpen : Reg → Bool) (list : BitVec 16) (first : Word) : Prop :=
  (∀ n : Reg, listed list n = true → isOpen n = false →
    t.mem.word s.cfg.bigEnd (slotAddress first list n) = value n) ∧
  keptOutside s t (fun a => ∃ n : Reg, listed list n = true ∧ a = slotAddress first list n)

/-- After a block store: memory, the base, the pc, the bus record and the free-value counter; all else unchanged, the
instruction array of a memory that is not split among it. -/
def onlyStored (s t : State) (regs : Vector Word 30) : Prop :=
  t = { s with mem := t.mem, imem := t.imem, regs := regs, pc := s.pc + s.instrSize, bus := t.bus,
               freeIx := t.freeIx } ∧
  (s.cfg.split = false → t.imem = s.imem)

/-- The base as a block store leaves it. -/
def blockBase (s : State) (w u : Bool) (rn : Reg) (n : Nat) : Vector Word 30 :=
  if w then s.regs.set (physIx s.mode rn) (newBase u (s.reg rn) n) else s.regs

/-- With writeback, a base that is listed but not lowest stores a free value (R285, R287). -/
def baseOpen (w : Bool) (rn : Reg) (list : BitVec 16) (n : Reg) : Bool :=
  w && decide (n = rn) && decide (rank list rn ≠ 0)

/-! ### Coprocessors -/

/-- A coprocessor accepts with `more + 1` transfers and the given words, the rest of the script following. -/
def accepts (s : State) (more : Nat) (ws : List Word) (rest : List CpAnswer) : Prop :=
  s.cpScript = .accept more ws :: rest

/-- The state after the handshake: the script moves on and the coprocessor has seen the instruction (R320, R341). -/
def offered (s : State) (w : Word) (rest : List CpAnswer) (data : List CpEvent) : State :=
  { s with cpScript := rest, cpEvents := s.cpEvents ++ [.offered w s.privileged] ++ data }

/-- One word transferred after another from `a` (R331). -/
def wordsAt (s : State) (a : Word) (n : Nat) : List Word :=
  (List.range n).map fun i => s.mem.word s.cfg.bigEnd (align4 (a + 4#32 * BitVec.ofNat 32 i))

/-- Memory after the words of `ws` are stored from `a` on, every other byte as before (R332). -/
def wordsStored (s t : State) (a : Word) (ws : List Word) : Prop :=
  (∀ i, (h : i < ws.length) →
    t.mem.word s.cfg.bigEnd (align4 (a + 4#32 * BitVec.ofNat 32 i)) = ws[i]) ∧
  keptOutside s t (fun b => ∃ i, i < ws.length ∧ b = a + 4#32 * BitVec.ofNat 32 i)

/-- The Undefined entry of the instruction at the pc (R460, R462, R465). -/
def undefinedState (s : State) : State :=
  { s with regs := s.regs.set (physIx .und 14#4) (s.pc + s.instrSize)
           spsrUnd := s.cpsr
           cpsr := enteredCpsr s.cpsr false 0b11011#5
           pc := vectors s + 0x04#32
           fetchQ := []
           bankHazard := false
           dbg := { s.dbg with catchNext := false } }

/-! ### The instruction at the pc -/

/-- The bits of the instruction the next step runs: those of the oldest prefetched entry at the pc, or with nothing
prefetched there the bytes at the pc; no fetch of it aborted and no breakpoint marks it. -/
def headBits (s : State) (w : Word) : Prop :=
  (∃ f rest, s.liveQueue = f :: rest ∧ f.aborted = false ∧ f.mark = none ∧ f.bits = w) ∨
  (s.liveQueue = [] ∧ noAborts s ∧
    w = if s.thumb then (s.codeMem.half s.cfg.bigEnd (align2 s.pc)).setWidth 32
      else s.codeMem.word s.cfg.bigEnd (align4 s.pc))

/-- What those bits decode to in the state of the core. -/
def decoded (s : State) (w : Word) : Except Reject Instr :=
  if s.thumb then decodeThumb (fld w 0 16) else decodeArm w

/-- A plain boundary at which no interrupt is requested and the memory map has no windows. -/
def undisturbed (s : State) : Prop :=
  plainBoundary s ∧ s.cfg.windows = [] ∧ s.pins.nFIQ = true ∧ s.pins.nIRQ = true

/-! ### Coprocessor instructions as one family -/

/-- A coprocessor instruction: its condition (none for a "2" form) and its coprocessor. -/
def isCoprocessor (i : Instr) (c : Option Cond) (cp : BitVec 4) : Prop :=
  (∃ o : CdpOps, i = .cdp o ∧ c = some o.cond ∧ cp = o.cp) ∨
  (∃ o : McrOps, (i = .mcr o ∨ i = .mrc o) ∧ c = some o.cond ∧ cp = o.cp) ∨
  (∃ o : McrrOps, (i = .mcrr o ∨ i = .mrrc o) ∧ c = some o.cond ∧ cp = o.cp) ∨
  (∃ o : LdcOps, (i = .ldc o ∨ i = .stc o) ∧ c = some o.cond ∧ cp = o.cp) ∨
  (∃ o : Cdp2Ops, i = .cdp2 o ∧ c = none ∧ cp = o.cp) ∨
  (∃ o : Mcr2Ops, (i = .mcr2 o ∨ i = .mrc2 o) ∧ c = none ∧ cp = o.cp) ∨
  (∃ o : Ldc2Ops, (i = .ldc2 o ∨ i = .stc2 o) ∧ c = none ∧ cp = o.cp)

/-- The six CP14 encodings of R344: MCR or MRC, op1 = op2 = 0, CRm = c0, CRn = c0, c1 or c2. -/
def commsForm (i : Instr) : Prop :=
  ∃ o : McrOps, (i = .mcr o ∨ i = .mrc o) ∧ o.cp = 14#4 ∧ o.op1 = 0#3 ∧ o.op2 = 0#3 ∧ o.crm = 0#4 ∧
    (o.crn = 0#4 ∨ o.crn = 1#4 ∨ o.crn = 2#4)

/-- The condition passes, or there is none. -/
def passes (c : Option Cond) (s : State) : Prop := ∀ k, c = some k → condPassed k s.cpsr = true

end Sys2Proof.Claims

open Sys2Proof Sys2Proof.Machine Sys2Proof.Claims

/-! ### Encoding -/

/-- Decode and encode agree: decoding the encoding of a well-formed instruction gives it back, with every operand. -/
def Obligations.RoundTrip : Prop := ∀ i : Instr, i.wf = true → decode (encode i) = .ok i

/-- Words written out from the spec decode to what they stand for: MOV r1, #5; ADDS r0, r1, r2, LSL #3;
LDR r0, [r1, #4]; STMIA r0, {r0-r15}; B -7; MRC p14; Thumb ADD r0, #1; Thumb BX pc. -/
def Obligations.DecodesSpecWords : Prop :=
  decodeArm 0xE3A01005#32 = .ok (.movImm ⟨.al, false, 1#4, 0#4, 5#8⟩) ∧
  decodeArm 0xE0910182#32 = .ok (.addShift ⟨.al, true, 1#4, 0#4, 3#5, .lsl, 2#4⟩) ∧
  decodeArm 0xE5910004#32 = .ok (.ldrImmPre ⟨.al, true, false, 1#4, 0#4, 4#12⟩) ∧
  decodeArm 0xE880FFFF#32 = .ok (.stm1 ⟨.al, false, true, false, 0#4, 0xFFFF#16⟩) ∧
  decodeArm 0xEAFFFFF9#32 = .ok (.b ⟨.al, 0xFFFFF9#24⟩) ∧
  decodeArm 0xEE100E10#32 = .ok (.mrc ⟨.al, 0#3, 0#4, 0#4, 14#4, 0#3, 0#4⟩) ∧
  decodeThumb 0x3001#16 = .ok (.tAddImm8 ⟨0#3, 1#8⟩) ∧
  decodeThumb 0x4778#16 = .ok (.tBx ⟨15#4⟩)

/-- Every word of the architecturally undefined pattern `cccc 011x xxxx xxxx xxxx xxxx xxx1 xxxx` is rejected. -/
def Obligations.UndefinedPatternRejected : Prop :=
  ∀ w : Word, fld w 25 3 = 0b011#3 → bitAt w 4 = true → ∃ r, decodeArm w = .error r

/-! ### The step -/

/-- A step runs the decoded instruction. Without interrupts, aborts or debug, the step is exec of the instruction that
the oldest prefetched entry at the pc decodes to or, with nothing prefetched there, of the one that the bytes at the
pc decode to. It runs in the state the boundary makes (`BoundaryKeepsProgramState` says how little that differs),
with the user-bank note used up; afterwards the transfers are held against the memory map. Directly after a user-bank
transfer it must read no banked register (`RefusedForms` has that case). -/
def Obligations.StepRunsDecoded : Prop :=
  ∀ (s : State) (w : Word) (i : Instr), undisturbed s → headBits s w → decoded s w = .ok i → i.wf = true →
    (s.bankHazard = false ∨ (sources i).any (banked s.mode) = false) →
    step s = andThen (exec i { s.sample.fillQueue with bankHazard := false }) fun t => t.guardCycles t.bus

/-- The state an instruction sees differs from the state before the step in no register, status register, byte of
memory or pc: the boundary changes its own records only, and draws no free value with debug off. -/
def Obligations.BoundaryKeepsProgramState : Prop :=
  ∀ s : State, (s.cfg.dbgen = false → s.sample.fillQueue.freeIx = s.freeIx) ∧ s.sample.fillQueue =
    { s with bus := [], ibus := s.sample.fillQueue.ibus, cpEvents := [], tap := { s.tap with tdoTrace := [] }, pins := s.sample.pins,
             pinStream := s.pinStream.tail, fiqReg := !s.sample.pins.nFIQ, irqReg := !s.sample.pins.nIRQ,
             resetReg := !s.pins.nRESET,
             fetchQ := s.sample.fillQueue.fetchQ, ice := s.sample.fillQueue.ice,
             dbg := { s.dbg with catchNext := s.sample.fillQueue.dbg.catchNext }
             freeIx := s.sample.fillQueue.freeIx }

/-- Every step keeps the canonical form of memory, and of the instruction array of a split memory. -/
def Obligations.StepKeepsMemoryForm : Prop :=
  ∀ s t : State, step s = .next t →
    (s.mem.wf = true → t.mem.wf = true) ∧ (s.imem.wf = true → t.imem.wf = true)

/-- The memories after reset have the canonical form. -/
def Sys2Proof.Claims.resetMemoryForm : Prop := State.reset.mem.wf = true ∧ State.reset.imem.wf = true

/-- Every step keeps the pc aligned for the instruction set in force. -/
def Obligations.StepKeepsPcAligned : Prop :=
  ∀ s t : State, s.pcAligned → step s = .next t → t.pcAligned

/-- The pc is aligned after reset. -/
def Sys2Proof.Claims.resetPcAligned : Prop := State.reset.pcAligned

/-- Every step keeps the debug register bits that read 0: control bit 3, vector catch bit 5, mask bit 3. -/
def Obligations.StepKeepsDebugFixedBits : Prop :=
  ∀ s t : State, s.ice.fixedBits → step s = .next t → t.ice.fixedBits

/-- Those bits are 0 after reset. -/
def Sys2Proof.Claims.resetDebugFixedBits : Prop := State.reset.ice.fixedBits

/-- The invariants hold at reset: the memory form, the aligned pc, the debug register bits that read 0. -/
def Obligations.ResetInvariants : Prop :=
  Claims.resetMemoryForm ∧ Claims.resetPcAligned ∧ Claims.resetDebugFixedBits

/-- What reset leaves, as the spec states it: Supervisor mode, I = F = 1, ARM state, the pc at the reset vector; TAP
in Test-Logic-Reset with IDCODE and chain 3, monitor mode selected, comparators off, empty comms channel. That bits 2:0
of debug control read 0 is the spec's own decision 92 D23, of what R50 and R57 find not printed (entry 1). -/
def Obligations.ResetState : Prop :=
  psrM State.reset.cpsr = 0b10011#5 ∧ psrI State.reset.cpsr = true ∧ psrF State.reset.cpsr = true ∧
  psrT State.reset.cpsr = false ∧ State.reset.pc = vectors State.reset ∧
  State.reset.tap.state = .reset ∧ State.reset.tap.instr = .idcode ∧ State.reset.tap.chain = 3#5 ∧
  State.reset.ice.control = 0b010000#6 ∧ State.reset.ice.comparing = false ∧
  State.reset.ice.w = false ∧ State.reset.ice.r = false ∧ State.reset.ice.moe = 0#4

/-- While nRESET is LOW outside debug state, every step leaves the core reset: Supervisor mode, I = F = 1, T = 0, the
pc at the reset vector, nothing prefetched. Memory keeps every byte but those the instruction cut short was about to
store (R602), so all of it once nRESET has been LOW before; EmbeddedICE-RT keeps its registers. The other register
and flag values, and the words of a cut store, are free (entry 16), so nothing is said of them. -/
def Obligations.CoreReset : Prop :=
  ∀ s : State, s.clocks = [] → s.sample.pins.nRESET = false → s.sample.pins.nTRST = true → s.dbg.active = false →
    ∃ t, step s = .next t ∧ psrM t.cpsr = 0b10011#5 ∧ psrI t.cpsr = true ∧ psrF t.cpsr = true ∧
      psrT t.cpsr = false ∧ t.pc = vectors s ∧ t.fetchQ = [] ∧ t.cfg = s.cfg ∧
      t.ice = { s.ice with updating := none } ∧
      (s.pins.nRESET = false → t.mem = s.mem ∧ t.imem = s.imem) ∧
      (s.mem.wf = true → ∀ x : Word,
        (∀ c ∈ s.sample.inFlight, storedByte s.cfg.bigEnd c.size c.addr 0 x = none) → t.mem.byte x = s.mem.byte x)

/-- An illegal mode is stuck. Without reset and TAP clocks the step completes and changes no register, status register,
pc or byte of memory; with TAP clocks, in debug state too, none of these changes either if the step completes. -/
def Obligations.IllegalModeStuck : Prop :=
  (∀ s : State, quietPins s → s.stuck →
    ∃ t, step s = .next t ∧ t.regs = s.regs ∧ t.cpsr = s.cpsr ∧ t.pc = s.pc ∧ t.mem = s.mem ∧ t.stuck) ∧
  (∀ s t : State, s.sample.pins.nRESET = true → s.stuck → step s = .next t →
    t.regs = s.regs ∧ t.cpsr = s.cpsr ∧ t.pc = s.pc ∧ t.mem = s.mem ∧ t.stuck)

/-- No instruction touches what surrounds the core: the configuration, the pins and their stream, the TAP controller
and the registered interrupt inputs. -/
def Obligations.ExecKeepsSurroundings : Prop :=
  ∀ (i : Instr) (s t : State), exec i s = .next t →
    t.cfg = s.cfg ∧ t.pins = s.pins ∧ t.pinStream = s.pinStream ∧ t.tap = s.tap ∧
      t.fiqReg = s.fiqReg ∧ t.irqReg = s.irqReg

/-- User mode is left only by an exception, and its code cannot touch the interrupt masks otherwise: whatever
instruction runs, either the mode, I and F are as before, or the machine stands at an exception vector in that
exception's mode. -/
def Obligations.UserModeConfined : Prop :=
  ∀ (i : Instr) (s t : State), psrM s.cpsr = 0b10000#5 → s.dbg.active = false → exec i s = .next t →
    (psrM t.cpsr = psrM s.cpsr ∧ psrI t.cpsr = psrI s.cpsr ∧ psrF t.cpsr = psrF s.cpsr) ∨
    ∃ k : ExcKind, psrM t.cpsr = k.mode.bits ∧ t.pc = vectors s + k.offset ∧ psrT t.cpsr = false

/-- An instruction whose condition fails does nothing but move the pc on. -/
def Obligations.FailedCondition : Prop :=
  ∀ (i : Instr) (s : State) (c : Cond), condOf i = some c → condPassed c s.cpsr = false →
    exec i s = .next { s with pc := s.pc + s.instrSize }

/-! ### Registers and memory -/

/-- The register banks: Supervisor, Abort, IRQ and Undefined have r13 and r14 of their own, FIQ r8 to r14, each
different from those of the other four; System shares all of User's. -/
def Sys2Proof.Claims.registerBanks : Prop :=
  (∀ n : Reg, n ≠ 15#4 → physIx .sys n = physIx .usr n) ∧
  (∀ m ∈ [Mode.svc, .abt, .irq, .und], ∀ n : Reg, n ≠ 15#4 →
    (physIx m n = physIx .usr n ↔ n.toNat < 13)) ∧
  (∀ n : Reg, n ≠ 15#4 → (physIx .fiq n = physIx .usr n ↔ n.toNat < 8)) ∧
  (∀ m ∈ [Mode.fiq, .svc, .abt, .irq, .und], ∀ m' ∈ [Mode.fiq, .svc, .abt, .irq, .und], m ≠ m' →
    ∀ n ∈ [(13#4 : Reg), 14#4], physIx m n ≠ physIx m' n) ∧
  (∀ m m' : Mode, ∀ n n' : Reg, n ≠ 15#4 → n' ≠ 15#4 → physIx m n = physIx m' n' → n = n')

/-- `R[15]` reads as the instruction's address + 8 in ARM state and + 4 in Thumb state. -/
def Sys2Proof.Claims.pcReads : Prop :=
  ∀ s : State, s.reg 15#4 = s.pc + (if s.thumb then 4#32 else 8#32)

/-- The register file: the banks of R13 and what r15 reads as (R15). -/
def Obligations.Registers : Prop :=
  Claims.registerBanks ∧ Claims.pcReads

/-- Read after write of memory, each size: the aligned unit gives back the bits stored, whatever the byte order. -/
def Sys2Proof.Claims.memoryReadAfterWrite : Prop :=
  ∀ (m : Memory) (big : Bool) (z : Size) (a v : Word), m.wf = true →
    (m.write big z a v).read big z a = (match z with
      | .byte => v &&& 0xFF#32
      | .half => v &&& 0xFFFF#32
      | .word => v)

/-- A write changes the bytes of its aligned unit only, each to its byte of the value. -/
def Sys2Proof.Claims.memoryWriteBytes : Prop :=
  ∀ (m : Memory) (big : Bool) (z : Size) (a v x : Word), m.wf = true →
    (m.write big z a v).byte x = (storedByte big z a v x).getD (m.byte x)

/-- Writing memory: what is stored reads back, each byte in its place, and every other byte is as before. -/
def Obligations.MemoryWrites : Prop :=
  Claims.memoryReadAfterWrite ∧ Claims.memoryWriteBytes

/-- The lanes the core takes from the word on `RDATA` are the bytes that the byte array names (R90). -/
def Obligations.LanesAgree : Prop :=
  ∀ (m : Memory) (big : Bool) (z : Size) (a : Word),
    laneRead big z a (m.word big (align4 a)) = m.read big z a

/-! ### Data processing -/

/-- The shifter operand of every register form (R163). -/
def Sys2Proof.Claims.shifterOperand : Prop :=
  (∀ (ty : ShiftTy) (n : BitVec 5) (x : Word) (c : Bool),
    ((shiftImm ty n x c).value, (shiftImm ty n x c).carry) = shiftImmSpec ty n.toNat x c) ∧
  (∀ (ty : ShiftTy) (n : BitVec 8) (x : Word) (c : Bool),
    ((shiftReg ty n.toNat x c).value, (shiftReg ty n.toNat x c).carry) = shiftRegSpec ty n.toNat x c)

/-- The immediate operand: the byte rotated right by twice the field; the carry is C without rotation, else bit 31. -/
def Sys2Proof.Claims.immediateOperand : Prop :=
  ∀ (rot : BitVec 4) (imm8 : BitVec 8) (c : Bool),
    (immOperand rot imm8 c).value = (imm8.setWidth 32).rotateRight (2 * rot.toNat) ∧
    (immOperand rot imm8 c).carry =
      if rot = 0#4 then c else ((imm8.setWidth 32).rotateRight (2 * rot.toNat)).msb

/-- A base with an offset added or subtracted; the offset form, and the form that writes the sum back. -/
def Sys2Proof.Claims.indexed (u w : Bool) (base off : Word) : Addressed :=
  ⟨if u then base + off else base - off, if w then some (if u then base + off else base - off) else none⟩

/-- The base as the address, the sum written back. -/
def Sys2Proof.Claims.after (u : Bool) (base off : Word) : Addressed :=
  ⟨base, some (if u then base + off else base - off)⟩

/-- The addresses of addressing modes 2, 3 and 5: offset, pre-indexed, post-indexed and unindexed (R246, R248, R337). -/
def Sys2Proof.Claims.addressForms : Prop :=
  (∀ (o : MemImmPreOps) (s : State), addressMemImmPre o s = indexed o.u o.w (s.reg o.rn) (o.imm12.setWidth 32)) ∧
  (∀ (o : MemImmPostOps) (s : State), addressMemImmPost o s = after o.u (s.reg o.rn) (o.imm12.setWidth 32)) ∧
  (∀ (o : MemRegPreOps) (s : State), addressMemRegPre o s =
    indexed o.u o.w (s.reg o.rn) (shiftImmSpec o.ty o.amount.toNat (s.reg o.rm) (psrC s.cpsr)).1) ∧
  (∀ (o : MemRegPostOps) (s : State), addressMemRegPost o s =
    after o.u (s.reg o.rn) (shiftImmSpec o.ty o.amount.toNat (s.reg o.rm) (psrC s.cpsr)).1) ∧
  (∀ (o : ExtImmOps) (s : State), addressExtImm o s =
    if o.p then indexed o.u o.w (s.reg o.rn) (o.imm8.setWidth 32) else after o.u (s.reg o.rn) (o.imm8.setWidth 32)) ∧
  (∀ (o : ExtRegOps) (s : State), addressExtReg o s =
    if o.p then indexed o.u o.w (s.reg o.rn) (s.reg o.rm) else after o.u (s.reg o.rn) (s.reg o.rm)) ∧
  (∀ (p u w : Bool) (imm8 : BitVec 8) (base : Word), mode5 p u w imm8 base =
    if p then indexed u w base (imm8.setWidth 32 <<< 2)
    else if w then after u base (imm8.setWidth 32 <<< 2) else ⟨base, none⟩)

/-- The addresses of the Thumb single transfers: Rb plus the 5-bit offset scaled by the size, Rb + Ro, the pc operand
A + 4 with bits 1:0 cleared plus 4 times the immediate, and r13 plus 4 times the immediate (R411 to R427). -/
def Sys2Proof.Claims.thumbAddresses : Prop :=
  (∀ (o : TMemImmOps) (k : Nat) (s : State),
    addressTImm o k s = s.reg (low o.rb) + BitVec.ofNat 32 (2 ^ k * o.imm5.toNat)) ∧
  (∀ (o : TMemRegOps) (s : State), addressTReg o s = s.reg (low o.rb) + s.reg (low o.ro)) ∧
  (∀ (o : TRdImm8Ops) (s : State), s.thumb = true →
    addressTPc o s = ((s.pc + 4#32) &&& ~~~3#32) + BitVec.ofNat 32 (4 * o.imm8.toNat)) ∧
  (∀ (o : TRdImm8Ops) (s : State),
    addressTSp o s = s.bankReg s.mode 13#4 + BitVec.ofNat 32 (4 * o.imm8.toNat))

/-- The operand forms: the shifter operand and its carry at every amount, the rotated immediate, the addresses, ARM and
Thumb. The extra load/store form with P = 0 and W = 1 acts as post-indexed by the model's choice (entry 3). -/
def Obligations.OperandForms : Prop :=
  Claims.shifterOperand ∧ Claims.immediateOperand ∧ Claims.addressForms ∧ Claims.thumbAddresses

/-- The shifter operand of the register-shift form: the amount is the bottom byte of Rs. -/
def Sys2Proof.Claims.regOperand (s : State) (ty : ShiftTy) (rs rm : Reg) : Shifted :=
  shiftReg ty ((s.reg rs).setWidth 8).toNat (s.reg rm) (psrC s.cpsr)

/-- An operation on two operands completes in its three forms with its result and flags; nothing else changes. r15 as
the destination is `AluToPc`; r15 in a register-shift form is in `RefusedForms`. -/
def Sys2Proof.Claims.AluRow.completes (r : AluRow) : Prop :=
  (∀ (o : AluImmOps) (s : State), condPassed o.cond s.cpsr = true → s.thumb = false → o.rd ≠ 15#4 →
    exec (r.imm o) s =
      .next (aluNext r.op s o.s o.rd (s.reg o.rn) (immOperand o.rot o.imm8 (psrC s.cpsr)))) ∧
  (∀ (o : AluShiftOps) (s : State), condPassed o.cond s.cpsr = true → s.thumb = false → o.rd ≠ 15#4 →
    exec (r.shift o) s =
      .next (aluNext r.op s o.s o.rd (s.reg o.rn) (shiftImm o.ty o.amount (s.reg o.rm) (psrC s.cpsr)))) ∧
  (∀ (o : AluRegOps) (s : State), condPassed o.cond s.cpsr = true → s.thumb = false →
    o.rd ≠ 15#4 → o.rn ≠ 15#4 → o.rm ≠ 15#4 → o.rs ≠ 15#4 →
    exec (r.reg o) s = .next (aluNext r.op s o.s o.rd (s.reg o.rn) (regOperand s o.ty o.rs o.rm)))

/-- The same of a move. -/
def Sys2Proof.Claims.MovRow.completes (r : MovRow) : Prop :=
  (∀ (o : MovImmOps) (s : State), condPassed o.cond s.cpsr = true → s.thumb = false → o.rd ≠ 15#4 →
    exec (r.imm o) s = .next (aluNext r.op s o.s o.rd 0 (immOperand o.rot o.imm8 (psrC s.cpsr)))) ∧
  (∀ (o : MovShiftOps) (s : State), condPassed o.cond s.cpsr = true → s.thumb = false → o.rd ≠ 15#4 →
    exec (r.shift o) s =
      .next (aluNext r.op s o.s o.rd 0 (shiftImm o.ty o.amount (s.reg o.rm) (psrC s.cpsr)))) ∧
  (∀ (o : MovRegOps) (s : State), condPassed o.cond s.cpsr = true → s.thumb = false →
    o.rd ≠ 15#4 → o.rm ≠ 15#4 → o.rs ≠ 15#4 →
    exec (r.reg o) s = .next (aluNext r.op s o.s o.rd 0 (regOperand s o.ty o.rs o.rm)))

/-- The same of a comparison, which writes the flags only. -/
def Sys2Proof.Claims.CmpRow.completes (r : CmpRow) : Prop :=
  (∀ (o : CmpImmOps) (s : State), condPassed o.cond s.cpsr = true → s.thumb = false →
    exec (r.imm o) s = .next (cmpNext r.op s (s.reg o.rn) (immOperand o.rot o.imm8 (psrC s.cpsr)))) ∧
  (∀ (o : CmpShiftOps) (s : State), condPassed o.cond s.cpsr = true → s.thumb = false →
    exec (r.shift o) s =
      .next (cmpNext r.op s (s.reg o.rn) (shiftImm o.ty o.amount (s.reg o.rm) (psrC s.cpsr)))) ∧
  (∀ (o : CmpRegOps) (s : State), condPassed o.cond s.cpsr = true → s.thumb = false →
    o.rn ≠ 15#4 → o.rm ≠ 15#4 → o.rs ≠ 15#4 →
    exec (r.reg o) s = .next (cmpNext r.op s (s.reg o.rn) (regOperand s o.ty o.rs o.rm)))

/-- AND, EOR, ORR, BIC, MOV and MVN complete with their result; with S: N and Z of the result, C the shifter's carry,
V kept. -/
def Obligations.LogicalResults : Prop :=
  (∀ r ∈ logicalRows, r.completes) ∧ (∀ r ∈ movRows, r.completes)

/-- SUB, RSB, ADD, ADC, SBC and RSC complete with their result; with S: N and Z of the result, C and V of the sum. -/
def Obligations.ArithmeticResults : Prop := ∀ r ∈ arithmeticRows, r.completes

/-- TST, TEQ, CMP and CMN complete with their flags and write no register. -/
def Obligations.ComparisonResults : Prop := ∀ r ∈ cmpRows, r.completes

/-- A result `v` for Rd = r15: without S a branch to a word-aligned `v`; with S, in a mode with an SPSR, the CPSR is
the SPSR and the pc is `v` aligned for the restored state. No register is written (R167, R169). -/
def Sys2Proof.Claims.toPc (i : Instr) (setFlags : Bool) (s : State) (v : Word) : Prop :=
  (setFlags = false → fld v 0 2 = 0b00#2 → exec i s = .next { s with pc := v, fetchQ := [] }) ∧
  (∀ p, setFlags = true → s.spsrOf s.mode = some p →
    exec i s = .next { s with cpsr := p, pc := (if psrT p then align2 else align4) v, fetchQ := [] })

/-- Rd = r15, immediate and immediate-shift forms: a branch that keeps the state, or with S an exception return. -/
def Obligations.AluToPc : Prop :=
  (∀ r ∈ aluRows, ∀ (o : AluImmOps) (s : State), condPassed o.cond s.cpsr = true → s.thumb = false → o.rd = 15#4 →
    toPc (r.imm o) o.s s (r.op.value (s.reg o.rn) (rotImm o.rot o.imm8) (psrC s.cpsr))) ∧
  (∀ r ∈ aluRows, ∀ (o : AluShiftOps) (s : State), condPassed o.cond s.cpsr = true → s.thumb = false →
    o.rd = 15#4 →
    toPc (r.shift o) o.s s
      (r.op.value (s.reg o.rn) (shiftImm o.ty o.amount (s.reg o.rm) (psrC s.cpsr)).value (psrC s.cpsr))) ∧
  (∀ r ∈ movRows, ∀ (o : MovImmOps) (s : State), condPassed o.cond s.cpsr = true → s.thumb = false → o.rd = 15#4 →
    toPc (r.imm o) o.s s (r.op.value 0 (rotImm o.rot o.imm8) (psrC s.cpsr))) ∧
  (∀ r ∈ movRows, ∀ (o : MovShiftOps) (s : State), condPassed o.cond s.cpsr = true → s.thumb = false →
    o.rd = 15#4 →
    toPc (r.shift o) o.s s (r.op.value 0 (shiftImm o.ty o.amount (s.reg o.rm) (psrC s.cpsr)).value (psrC s.cpsr)))

/-- CLZ: the number of zero bits above the highest set bit, 32 for 0. -/
def Obligations.CountLeadingZeros : Prop :=
  ∀ (o : ClzOps) (s : State), condPassed o.cond s.cpsr = true → s.thumb = false → o.rd ≠ 15#4 → o.rm ≠ 15#4 →
    ∃ n : Nat, exec (.clz o) s = .next { s with
        regs := s.regs.set (physIx s.mode o.rd) (BitVec.ofNat 32 n), pc := s.pc + 4#32 } ∧
      n ≤ 32 ∧ (∀ i, 32 - n ≤ i → i < 32 → bitAt (s.reg o.rm) i = false) ∧
      (n < 32 → bitAt (s.reg o.rm) (31 - n) = true)

/-! ### Multiplies -/

/-- MUL completes: the low 32 bits, N and Z if S, C and V kept. -/
def Sys2Proof.Claims.mulResult (o : MulOps) (s : State) : Prop :=
  exec (.mul o) s = .next { s with
    regs := s.regs.set (physIx s.mode o.rd) (s.reg o.rm * s.reg o.rs)
    cpsr := mulFlags o.s (s.reg o.rm * s.reg o.rs) s.cpsr
    pc := s.pc + 4#32 }

/-- MLA completes: the low 32 bits of the sum, flags as MUL. -/
def Sys2Proof.Claims.mlaResult (o : MlaOps) (s : State) : Prop :=
  exec (.mla o) s = .next { s with
    regs := s.regs.set (physIx s.mode o.rd) (s.reg o.rm * s.reg o.rs + s.reg o.rn)
    cpsr := mulFlags o.s (s.reg o.rm * s.reg o.rs + s.reg o.rn) s.cpsr
    pc := s.pc + 4#32 }

/-- A long multiply completes: the 64-bit product or sum in RdHi:RdLo, N and Z of the 64 bits if S. -/
def Sys2Proof.Claims.longResult (r : LongRow) (o : MullOps) (s : State) : Prop :=
  exec (r.instr o) s = .next { s with
    regs := longRegs s o.rdHi o.rdLo (r.value s o)
    cpsr := longMulFlags o.s (r.value s o) s.cpsr
    pc := s.pc + 4#32 }

/-- MUL and MLA, Rd not Rm. -/
def Sys2Proof.Claims.multiplyResults : Prop :=
  (∀ (o : MulOps) (s : State), condPassed o.cond s.cpsr = true → s.thumb = false →
    o.rd ≠ 15#4 → o.rs ≠ 15#4 → o.rm ≠ 15#4 → o.rd ≠ o.rm → mulResult o s) ∧
  (∀ (o : MlaOps) (s : State), condPassed o.cond s.cpsr = true → s.thumb = false →
    o.rd ≠ 15#4 → o.rn ≠ 15#4 → o.rs ≠ 15#4 → o.rm ≠ 15#4 → o.rd ≠ o.rm → mlaResult o s)

/-- UMULL, UMLAL, SMULL, SMLAL, with RdHi, RdLo and Rm distinct. -/
def Sys2Proof.Claims.longMultiplyResults : Prop :=
  ∀ r ∈ longRows, ∀ (o : MullOps) (s : State), condPassed o.cond s.cpsr = true → s.thumb = false →
    o.rdHi ≠ 15#4 → o.rdLo ≠ 15#4 → o.rs ≠ 15#4 → o.rm ≠ 15#4 →
    o.rdHi ≠ o.rdLo → o.rdHi ≠ o.rm → o.rdLo ≠ o.rm → longResult r o s

/-- MUL, MLA and the four long multiplies complete with their results, N and Z if S, C and V kept. -/
def Obligations.Multiplies : Prop :=
  Claims.multiplyResults ∧ Claims.longMultiplyResults

/-- QADD, QSUB, QDADD, QDSUB: clamped results, Q set if any clamp changed its value and kept otherwise. -/
def Obligations.SaturatingResults : Prop :=
  ∀ r ∈ satRows, ∀ (o : QOps) (s : State), condPassed o.cond s.cpsr = true → s.thumb = false →
    o.rd ≠ 15#4 → o.rn ≠ 15#4 → o.rm ≠ 15#4 →
    exec (r.instr o) s = .next { s with
      regs := s.regs.set (physIx s.mode o.rd) (BitVec.ofInt 32 (clamp (r.sum (s.reg o.rm) (s.reg o.rn))))
      cpsr := withQ (decide (clamp (r.raw (s.reg o.rn)) ≠ r.raw (s.reg o.rn)) ||
        decide (clamp (r.sum (s.reg o.rm) (s.reg o.rn)) ≠ r.sum (s.reg o.rm) (s.reg o.rn))) s.cpsr
      pc := s.pc + 4#32 }

/-- SMULxy and SMLAxy: a 16 by 16 signed product; the accumulation wraps and sets Q on signed overflow. -/
def Sys2Proof.Claims.halfMultiplyResults : Prop :=
  (∀ (o : SmulXyOps) (s : State), condPassed o.cond s.cpsr = true → s.thumb = false →
    o.rd ≠ 15#4 → o.rs ≠ 15#4 → o.rm ≠ 15#4 →
    exec (.smulXy o) s = .next { s with
      regs := s.regs.set (physIx s.mode o.rd) (halfOf (s.reg o.rm) o.x * halfOf (s.reg o.rs) o.y)
      pc := s.pc + 4#32 }) ∧
  (∀ (o : SmlaXyOps) (s : State), condPassed o.cond s.cpsr = true → s.thumb = false →
    o.rd ≠ 15#4 → o.rn ≠ 15#4 → o.rs ≠ 15#4 → o.rm ≠ 15#4 →
    exec (.smlaXy o) s = .next { s with
      regs := s.regs.set (physIx s.mode o.rd) (halfOf (s.reg o.rm) o.x * halfOf (s.reg o.rs) o.y + s.reg o.rn)
      cpsr := withQ (addOverflows (halfOf (s.reg o.rm) o.x * halfOf (s.reg o.rs) o.y) (s.reg o.rn)) s.cpsr
      pc := s.pc + 4#32 })

/-- SMULWy and SMLAWy: bits 47:16 of a 32 by 16 signed product, accumulated like SMLAxy. -/
def Sys2Proof.Claims.wideMultiplyResults : Prop :=
  (∀ (o : SmulWOps) (s : State), condPassed o.cond s.cpsr = true → s.thumb = false →
    o.rd ≠ 15#4 → o.rs ≠ 15#4 → o.rm ≠ 15#4 →
    exec (.smulW o) s = .next { s with
      regs := s.regs.set (physIx s.mode o.rd) (wideOf (s.reg o.rm) (s.reg o.rs) o.y), pc := s.pc + 4#32 }) ∧
  (∀ (o : SmlaWOps) (s : State), condPassed o.cond s.cpsr = true → s.thumb = false →
    o.rd ≠ 15#4 → o.rn ≠ 15#4 → o.rs ≠ 15#4 → o.rm ≠ 15#4 →
    exec (.smlaW o) s = .next { s with
      regs := s.regs.set (physIx s.mode o.rd) (wideOf (s.reg o.rm) (s.reg o.rs) o.y + s.reg o.rn)
      cpsr := withQ (addOverflows (wideOf (s.reg o.rm) (s.reg o.rs) o.y) (s.reg o.rn)) s.cpsr
      pc := s.pc + 4#32 })

/-- SMLALxy completes: the product is added to RdHi:RdLo over 64 bits; no flag changes. -/
def Sys2Proof.Claims.smlalResult (o : SmlalXyOps) (s : State) : Prop :=
  exec (.smlalXy o) s = .next { s with
    regs := longRegs s o.rdHi o.rdLo ((s.reg o.rdHi ++ s.reg o.rdLo : BitVec 64) +
      (halfOf (s.reg o.rm) o.x * halfOf (s.reg o.rs) o.y).signExtend 64)
    pc := s.pc + 4#32 }

/-- SMLALxy with RdHi not RdLo. -/
def Sys2Proof.Claims.longHalfMultiply : Prop :=
  ∀ (o : SmlalXyOps) (s : State), condPassed o.cond s.cpsr = true → s.thumb = false →
    o.rdHi ≠ 15#4 → o.rdLo ≠ 15#4 → o.rs ≠ 15#4 → o.rm ≠ 15#4 → o.rdHi ≠ o.rdLo → smlalResult o s

/-- The 16-bit signed multiplies: SMULxy, SMLAxy, SMULWy, SMLAWy, SMLALxy complete with their results and Q. -/
def Obligations.HalfMultiplies : Prop :=
  Claims.halfMultiplyResults ∧ Claims.wideMultiplyResults ∧ Claims.longHalfMultiply

/-! ### Branches -/

/-- B, BL, BLX label, BX and BLX register: the target, the link, the state. Branch targets wrap at 2^32. -/
def Obligations.ArmBranches : Prop :=
  (∀ (o : BranchOps) (s : State), condPassed o.cond s.cpsr = true → s.thumb = false → s.pcAligned →
    exec (.b o) s = .next { s with pc := s.pc + 8#32 + (o.imm24.signExtend 32 <<< 2), fetchQ := [] } ∧
    exec (.bl o) s = .next { s with
      regs := s.regs.set (physIx s.mode 14#4) (s.pc + 4#32)
      pc := s.pc + 8#32 + (o.imm24.signExtend 32 <<< 2), fetchQ := [] }) ∧
  (∀ (o : BlxImmOps) (s : State), s.thumb = false → s.pcAligned →
    exec (.blxImm o) s = .next { s with
      regs := s.regs.set (physIx s.mode 14#4) (s.pc + 4#32)
      cpsr := s.cpsr ||| 0x20#32
      pc := s.pc + 8#32 + (o.imm24.signExtend 32 <<< 2) + (if o.h then 2#32 else 0#32), fetchQ := [] }) ∧
  (∀ (o : BxOps) (s : State), condPassed o.cond s.cpsr = true → s.thumb = false → exchangeable (s.reg o.rm) →
    exec (.bx o) s = .next { s with
      cpsr := setBit s.cpsr 5 (bitAt (s.reg o.rm) 0), pc := align2 (s.reg o.rm), fetchQ := [] } ∧
    (o.rm ≠ 15#4 → exec (.blxReg o) s = .next { s with
      regs := s.regs.set (physIx s.mode 14#4) (s.pc + 4#32)
      cpsr := setBit s.cpsr 5 (bitAt (s.reg o.rm) 0), pc := align2 (s.reg o.rm), fetchQ := [] }))

/-- Thumb B conditional, B, BX and BLX register. -/
def Sys2Proof.Claims.thumbBranches : Prop :=
  (∀ (o : TCondBranchOps) (s : State), condPassed o.cond s.cpsr = true → s.thumb = true → s.pcAligned →
    exec (.tBCond o) s = .next { s with pc := s.pc + 4#32 + (o.imm8.signExtend 32 <<< 1), fetchQ := [] }) ∧
  (∀ (o : TBranchOps) (s : State), s.thumb = true → s.pcAligned →
    exec (.tB o) s = .next { s with pc := s.pc + 4#32 + (o.imm11.signExtend 32 <<< 1), fetchQ := [] }) ∧
  (∀ (o : TBxOps) (s : State), s.thumb = true → exchangeable (s.reg o.rm) →
    exec (.tBx o) s = .next { s with
      cpsr := setBit s.cpsr 5 (bitAt (s.reg o.rm) 0), pc := align2 (s.reg o.rm), fetchQ := [] } ∧
    (o.rm ≠ 15#4 → exec (.tBlxReg o) s = .next { s with
      regs := s.regs.set (physIx s.mode 14#4) ((s.pc + 2#32) ||| 1#32)
      cpsr := setBit s.cpsr 5 (bitAt (s.reg o.rm) 0), pc := align2 (s.reg o.rm), fetchQ := [] }))

/-- The halves of Thumb BL and BLX, each an instruction of its own: the prefix leaves the high part in r14; a suffix
adds the low part to whatever r14 holds, links with bit 0 set, and BLX goes to ARM state. -/
def Sys2Proof.Claims.thumbLongBranch : Prop :=
  ∀ s : State, s.thumb = true →
    (∀ hi : TBranchOps, exec (.tBlPrefix hi) s = .next { s with
      regs := s.regs.set (physIx s.mode 14#4) (s.pc + 4#32 + (hi.imm11.signExtend 32 <<< 12))
      pc := s.pc + 2#32 }) ∧
    (∀ lo : TBranchOps, exec (.tBlSuffix lo) s = .next { s with
      regs := s.regs.set (physIx s.mode 14#4) ((s.pc + 2#32) ||| 1#32)
      pc := align2 (s.reg 14#4 + (lo.imm11.setWidth 32 <<< 1)), fetchQ := [] }) ∧
    (∀ lo : TBlxSuffixOps, exec (.tBlxSuffix lo) s = .next { s with
      regs := s.regs.set (physIx s.mode 14#4) ((s.pc + 2#32) ||| 1#32)
      cpsr := s.cpsr &&& ~~~0x20#32
      pc := align4 (s.reg 14#4 + ((lo.imm10 ++ 0b0#1 : BitVec 11).setWidth 32 <<< 1)), fetchQ := [] })

/-- The pair: prefix and suffix together reach pc + 4 + the 22-bit offset. -/
def Sys2Proof.Claims.thumbBranchPair : Prop :=
  ∀ (hi : TBranchOps) (s t : State), s.thumb = true → s.pcAligned → exec (.tBlPrefix hi) s = .next t →
    (∀ (lo : TBranchOps) (u : State), exec (.tBlSuffix lo) t = .next u →
      u.pc = s.pc + 4#32 + ((hi.imm11 ++ lo.imm11 : BitVec 22).signExtend 32 <<< 1)) ∧
    (∀ (lo : TBlxSuffixOps) (u : State), exec (.tBlxSuffix lo) t = .next u →
      u.pc = align4 (s.pc + 4#32 + ((hi.imm11 ++ lo.imm10 ++ 0b0#1 : BitVec 22).signExtend 32 <<< 1)))

/-- The Thumb branches: B, BX, BLX register, and the BL and BLX pair. -/
def Obligations.ThumbBranchResults : Prop :=
  Claims.thumbBranches ∧ Claims.thumbLongBranch ∧ Claims.thumbBranchPair

/-! ### Loads and stores -/

/-- What is said of one ARM load form: its constructor, kind, T variant, condition, registers and address. -/
abbrev Sys2Proof.Claims.LoadClaim : Type 1 :=
  {Ops : Type} → (Ops → Instr) → LoadKind → Bool → (Ops → Cond) → (Ops → Reg) → (Ops → Reg) → (Ops → Option Reg) →
    (Ops → State → Addressed) → Prop

/-- The same of a store form. -/
abbrev Sys2Proof.Claims.StoreClaim : Type 1 :=
  {Ops : Type} → (Ops → Instr) → Size → Bool → (Ops → Cond) → (Ops → Reg) → (Ops → Reg) → (Ops → Option Reg) →
    (Ops → State → Addressed) → Prop

/-- Every single ARM load of addressing mode 2. -/
def Sys2Proof.Claims.singleLoads (P : LoadClaim) : Prop :=
  P .ldrImmPre .word false MemImmPreOps.cond MemImmPreOps.rn MemImmPreOps.rd (fun _ => none) addressMemImmPre ∧
  P .ldrbImmPre .byte false MemImmPreOps.cond MemImmPreOps.rn MemImmPreOps.rd (fun _ => none) addressMemImmPre ∧
  P .ldrImmPost .word false MemImmPostOps.cond MemImmPostOps.rn MemImmPostOps.rd (fun _ => none) addressMemImmPost ∧
  P .ldrtImm .word true MemImmPostOps.cond MemImmPostOps.rn MemImmPostOps.rd (fun _ => none) addressMemImmPost ∧
  P .ldrbImmPost .byte false MemImmPostOps.cond MemImmPostOps.rn MemImmPostOps.rd (fun _ => none)
    addressMemImmPost ∧
  P .ldrbtImm .byte true MemImmPostOps.cond MemImmPostOps.rn MemImmPostOps.rd (fun _ => none) addressMemImmPost ∧
  P .ldrRegPre .word false MemRegPreOps.cond MemRegPreOps.rn MemRegPreOps.rd (fun o => some o.rm) addressMemRegPre ∧
  P .ldrbRegPre .byte false MemRegPreOps.cond MemRegPreOps.rn MemRegPreOps.rd (fun o => some o.rm)
    addressMemRegPre ∧
  P .ldrRegPost .word false MemRegPostOps.cond MemRegPostOps.rn MemRegPostOps.rd (fun o => some o.rm)
    addressMemRegPost ∧
  P .ldrtReg .word true MemRegPostOps.cond MemRegPostOps.rn MemRegPostOps.rd (fun o => some o.rm)
    addressMemRegPost ∧
  P .ldrbRegPost .byte false MemRegPostOps.cond MemRegPostOps.rn MemRegPostOps.rd (fun o => some o.rm)
    addressMemRegPost ∧
  P .ldrbtReg .byte true MemRegPostOps.cond MemRegPostOps.rn MemRegPostOps.rd (fun o => some o.rm)
    addressMemRegPost

/-- The halfword and signed loads of addressing mode 3. -/
def Sys2Proof.Claims.extraLoads (P : LoadClaim) : Prop :=
  P .ldrhImm .half false ExtImmOps.cond ExtImmOps.rn ExtImmOps.rd (fun _ => none) addressExtImm ∧
  P .ldrsbImm .signedByte false ExtImmOps.cond ExtImmOps.rn ExtImmOps.rd (fun _ => none) addressExtImm ∧
  P .ldrshImm .signedHalf false ExtImmOps.cond ExtImmOps.rn ExtImmOps.rd (fun _ => none) addressExtImm ∧
  P .ldrhReg .half false ExtRegOps.cond ExtRegOps.rn ExtRegOps.rd (fun o => some o.rm) addressExtReg ∧
  P .ldrsbReg .signedByte false ExtRegOps.cond ExtRegOps.rn ExtRegOps.rd (fun o => some o.rm) addressExtReg ∧
  P .ldrshReg .signedHalf false ExtRegOps.cond ExtRegOps.rn ExtRegOps.rd (fun o => some o.rm) addressExtReg

/-- Every single ARM store. -/
def Sys2Proof.Claims.singleStores (P : StoreClaim) : Prop :=
  P .strImmPre .word false MemImmPreOps.cond MemImmPreOps.rn MemImmPreOps.rd (fun _ => none) addressMemImmPre ∧
  P .strbImmPre .byte false MemImmPreOps.cond MemImmPreOps.rn MemImmPreOps.rd (fun _ => none) addressMemImmPre ∧
  P .strImmPost .word false MemImmPostOps.cond MemImmPostOps.rn MemImmPostOps.rd (fun _ => none) addressMemImmPost ∧
  P .strtImm .word true MemImmPostOps.cond MemImmPostOps.rn MemImmPostOps.rd (fun _ => none) addressMemImmPost ∧
  P .strbImmPost .byte false MemImmPostOps.cond MemImmPostOps.rn MemImmPostOps.rd (fun _ => none)
    addressMemImmPost ∧
  P .strbtImm .byte true MemImmPostOps.cond MemImmPostOps.rn MemImmPostOps.rd (fun _ => none) addressMemImmPost ∧
  P .strRegPre .word false MemRegPreOps.cond MemRegPreOps.rn MemRegPreOps.rd (fun o => some o.rm) addressMemRegPre ∧
  P .strbRegPre .byte false MemRegPreOps.cond MemRegPreOps.rn MemRegPreOps.rd (fun o => some o.rm)
    addressMemRegPre ∧
  P .strRegPost .word false MemRegPostOps.cond MemRegPostOps.rn MemRegPostOps.rd (fun o => some o.rm)
    addressMemRegPost ∧
  P .strtReg .word true MemRegPostOps.cond MemRegPostOps.rn MemRegPostOps.rd (fun o => some o.rm)
    addressMemRegPost ∧
  P .strbRegPost .byte false MemRegPostOps.cond MemRegPostOps.rn MemRegPostOps.rd (fun o => some o.rm)
    addressMemRegPost ∧
  P .strbtReg .byte true MemRegPostOps.cond MemRegPostOps.rn MemRegPostOps.rd (fun o => some o.rm)
    addressMemRegPost ∧
  P .strhImm .half false ExtImmOps.cond ExtImmOps.rn ExtImmOps.rd (fun _ => none) addressExtImm ∧
  P .strhReg .half false ExtRegOps.cond ExtRegOps.rn ExtRegOps.rd (fun o => some o.rm) addressExtReg

/-- Every single ARM load completes, when nothing aborts, with the loaded value in Rd, the base as its addressing mode
says, and nothing else changed. By the model's choice the halfword and signed loads with P = 0, W = 1 act as
post-indexed (entry 3) and a halfword at an odd address is the aligned one (92 D7, entry 27). -/
def Obligations.ArmLoads : Prop :=
  Claims.singleLoads Loads ∧ Claims.extraLoads Loads

/-- Every single ARM store completes, when nothing aborts: the bytes of the value at its address, the base as its
addressing mode says, every other byte and everything else unchanged. By the model's choice STRH with P = 0, W = 1 acts
as post-indexed (entry 3) and STRH at an odd address stores at the aligned one (92 D7, entry 27). -/
def Obligations.SingleStores : Prop := Claims.singleStores Stores

/-- Every Thumb load of one register. -/
def Sys2Proof.Claims.thumbLoads
    (P : {Ops : Type} → (Ops → Instr) → LoadKind → (Ops → LowReg) → (Ops → State → Word) → Prop) : Prop :=
  P .tLdrPc .word TRdImm8Ops.rd addressTPc ∧
  P .tLdrSp .word TRdImm8Ops.rd addressTSp ∧
  P .tLdrReg .word TMemRegOps.rd addressTReg ∧
  P .tLdrhReg .half TMemRegOps.rd addressTReg ∧
  P .tLdrbReg .byte TMemRegOps.rd addressTReg ∧
  P .tLdrsbReg .signedByte TMemRegOps.rd addressTReg ∧
  P .tLdrshReg .signedHalf TMemRegOps.rd addressTReg ∧
  P .tLdrImm .word TMemImmOps.rd (fun o => addressTImm o 2) ∧
  P .tLdrhImm .half TMemImmOps.rd (fun o => addressTImm o 1) ∧
  P .tLdrbImm .byte TMemImmOps.rd (fun o => addressTImm o 0)

/-- Every Thumb store of one register. -/
def Sys2Proof.Claims.thumbStores
    (P : {Ops : Type} → (Ops → Instr) → Size → (Ops → LowReg) → (Ops → State → Word) → Prop) : Prop :=
  P .tStrSp .word TRdImm8Ops.rd addressTSp ∧
  P .tStrReg .word TMemRegOps.rd addressTReg ∧
  P .tStrhReg .half TMemRegOps.rd addressTReg ∧
  P .tStrbReg .byte TMemRegOps.rd addressTReg ∧
  P .tStrImm .word TMemImmOps.rd (fun o => addressTImm o 2) ∧
  P .tStrhImm .half TMemImmOps.rd (fun o => addressTImm o 1) ∧
  P .tStrbImm .byte TMemImmOps.rd (fun o => addressTImm o 0)

/-- The Thumb loads and stores of one register. A halfword at an odd address is the aligned one by the model's choice (92
D7, entry 27). -/
def Obligations.ThumbSingleTransfers : Prop :=
  Claims.thumbLoads ThumbLoads ∧ Claims.thumbStores ThumbStores

/-- One LDR form with Rd = r15 and an aligned address: `LoadPC` of the word, the base as its addressing mode says. -/
def Sys2Proof.Claims.LoadsPc {Ops : Type} (c : Ops → Instr) (cond : Ops → Cond) (rn rd : Ops → Reg)
    (rm : Ops → Option Reg) (address : Ops → State → Addressed) : Prop :=
  ∀ (o : Ops) (s : State), condPassed (cond o) s.cpsr = true → s.thumb = false → calm s → noAborts s →
    rd o = 15#4 → baseFree (address o s) (rn o) (rd o) (rm o) → fld (address o s).addr 0 2 = 0b00#2 →
    ∃ t, exec (c o) s = .next t ∧ onlyRegs s t ∧ t.regs = basedRegs s (rn o) (address o s) ∧
      loadedPc s t (loadedValue s .word (address o s).addr)

/-- LDR of r15 from an aligned address, every addressing form: `LoadPC`, by CFGDISLTBIT. What the pin does when HIGH is
the spec's own reading (92 D24, entry 33). -/
def Obligations.LoadToPc : Prop :=
  LoadsPc .ldrImmPre MemImmPreOps.cond MemImmPreOps.rn MemImmPreOps.rd (fun _ => none) addressMemImmPre ∧
  LoadsPc .ldrImmPost MemImmPostOps.cond MemImmPostOps.rn MemImmPostOps.rd (fun _ => none) addressMemImmPost ∧
  LoadsPc .ldrRegPre MemRegPreOps.cond MemRegPreOps.rn MemRegPreOps.rd (fun o => some o.rm) addressMemRegPre ∧
  LoadsPc .ldrRegPost MemRegPostOps.cond MemRegPostOps.rn MemRegPostOps.rd (fun o => some o.rm) addressMemRegPost

/-- LDRD and STRD of an even register below r14, when nothing aborts: the two words at the address and the address
+ 4, low register first. -/
def Sys2Proof.Claims.doublewordTransfers : Prop :=
  (∀ (o : ExtImmOps) (s : State), condPassed o.cond s.cpsr = true → s.thumb = false → calm s → noAborts s →
    bitAt o.rd 0 = false → o.rd ≠ 14#4 →
    ((addressExtImm o s).writeback.isSome = true → o.rn ≠ 15#4 ∧ o.rn ≠ o.rd ∧ o.rn ≠ o.rd + 1#4) →
    (∃ t, exec (.ldrdImm o) s = .next t ∧ onlyRegs s t ∧ t.pc = s.pc + 4#32 ∧ t.cpsr = s.cpsr ∧
      t.regs = ((basedRegs s o.rn (addressExtImm o s)).set (physIx s.mode o.rd)
          (s.mem.word s.cfg.bigEnd (align4 (addressExtImm o s).addr))).set (physIx s.mode (o.rd + 1#4))
          (s.mem.word s.cfg.bigEnd (align4 ((addressExtImm o s).addr + 4#32)))) ∧
    (s.mem.wf = true → ∃ t, exec (.strdImm o) s = .next t ∧
      onlyStored s t (basedRegs s o.rn (addressExtImm o s)) ∧
      wordsStored s t (addressExtImm o s).addr [s.reg o.rd, s.reg (o.rd + 1#4)])) ∧
  (∀ (o : ExtRegOps) (s : State), condPassed o.cond s.cpsr = true → s.thumb = false → calm s → noAborts s →
    bitAt o.rd 0 = false → o.rd ≠ 14#4 → o.rm ≠ 15#4 →
    ((addressExtReg o s).writeback.isSome = true →
      o.rn ≠ 15#4 ∧ o.rn ≠ o.rd ∧ o.rn ≠ o.rd + 1#4 ∧ o.rm ≠ o.rn) →
    (o.rm ≠ o.rd → o.rm ≠ o.rd + 1#4 → ∃ t, exec (.ldrdReg o) s = .next t ∧ onlyRegs s t ∧ t.pc = s.pc + 4#32 ∧
      t.cpsr = s.cpsr ∧
      t.regs = ((basedRegs s o.rn (addressExtReg o s)).set (physIx s.mode o.rd)
          (s.mem.word s.cfg.bigEnd (align4 (addressExtReg o s).addr))).set (physIx s.mode (o.rd + 1#4))
          (s.mem.word s.cfg.bigEnd (align4 ((addressExtReg o s).addr + 4#32)))) ∧
    (s.mem.wf = true → ∃ t, exec (.strdReg o) s = .next t ∧
      onlyStored s t (basedRegs s o.rn (addressExtReg o s)) ∧
      wordsStored s t (addressExtReg o s).addr [s.reg o.rd, s.reg (o.rd + 1#4)]))

/-- LDRD and STRD of an odd register are UNDEFINED, in every form. -/
def Sys2Proof.Claims.oddDoublewordUndefined : Prop :=
  (∀ (o : ExtImmOps) (s : State), condPassed o.cond s.cpsr = true → s.thumb = false → s.cfg.dbgen = false →
    bitAt o.rd 0 = true →
    exec (.ldrdImm o) s = .next (undefinedState s) ∧ exec (.strdImm o) s = .next (undefinedState s)) ∧
  (∀ (o : ExtRegOps) (s : State), condPassed o.cond s.cpsr = true → s.thumb = false → s.cfg.dbgen = false →
    bitAt o.rd 0 = true →
    exec (.ldrdReg o) s = .next (undefinedState s) ∧ exec (.strdReg o) s = .next (undefinedState s))

/-- LDRD and STRD, immediate and register forms: the two words of an even register, and the Undefined exception for an
odd one. By the model's choice (entry 3) a form with P = 0, W = 1 acts as post-indexed and an address that is not a
multiple of 8 makes the two word transfers. -/
def Obligations.Doublewords : Prop :=
  Claims.doublewordTransfers ∧ Claims.oddDoublewordUndefined

/-- PLD shows its address on the data interface in an internal cycle and does nothing else. That the cycle is recorded as
a read is the model's choice (entry 37). -/
def Obligations.PreloadHint : Prop :=
  (∀ (o : PldImmOps) (s : State), s.thumb = false → ∃ c : BusCycle, c.kind = .internal ∧ c.spec = true ∧ c.write = false ∧
    c.addr = addOffset o.u (s.reg o.rn) (o.imm12.setWidth 32) ∧
    exec (.pldImm o) s = .next { s with pc := s.pc + 4#32, bus := s.bus ++ [c] }) ∧
  (∀ (o : PldRegOps) (s : State), s.thumb = false → o.rm ≠ 15#4 → ∃ c : BusCycle, c.kind = .internal ∧ c.spec = true ∧
    c.write = false ∧
    c.addr = addOffset o.u (s.reg o.rn) (shiftImm o.ty o.amount (s.reg o.rm) (psrC s.cpsr)).value ∧
    exec (.pldReg o) s = .next { s with pc := s.pc + 4#32, bus := s.bus ++ [c] })

/-! ### Aborted transfers -/

/-- Does the memory system abort this access (D10)? The address is the one on `DA` (entry 10). -/
def Sys2Proof.Claims.abortsAt (s : State) (acc : Access) (z : Size) (a : Word) (user : Bool) : Bool :=
  s.cfg.abort acc z a (s.privileged && !user) (if user then 0b01111#5 else ~~~psrM s.cpsr)

/-- An aborted ARM load: the Data Abort is taken; Rd and the base are as before. -/
def Sys2Proof.Claims.LoadAborts {Ops : Type} (c : Ops → Instr) (k : LoadKind) (user : Bool) (cond : Ops → Cond)
    (rn rd : Ops → Reg) (rm : Ops → Option Reg) (address : Ops → State → Addressed) : Prop :=
  ∀ (o : Ops) (s : State), condPassed (cond o) s.cpsr = true → s.thumb = false → calm s → s.dbg.watch = .idle →
    baseFree (address o s) (rn o) (rd o) (rm o) →
    (rd o = 15#4 → k = .word ∧ user = false ∧ fld (address o s).addr 0 2 = 0b00#2) →
    abortsAt s .read k.size (address o s).addr user = true →
    exec (c o) s = .next (abortedState s
      (s.bus ++ [transfer s k.size (address o s).addr user false false false 0 0]))

/-- An aborted ARM store: the Data Abort is taken; the base is as before, and memory by the model's choice (entry 10). -/
def Sys2Proof.Claims.StoreAborts {Ops : Type} (c : Ops → Instr) (z : Size) (user : Bool) (cond : Ops → Cond)
    (rn rd : Ops → Reg) (rm : Ops → Option Reg) (address : Ops → State → Addressed) : Prop :=
  ∀ (o : Ops) (s : State), condPassed (cond o) s.cpsr = true → s.thumb = false → calm s → s.dbg.watch = .idle →
    baseFree (address o s) (rn o) (rd o) (rm o) → (rd o = 15#4 → z = .word) →
    abortsAt s .write z (address o s).addr user = true →
    exec (c o) s = .next (abortedState s
      (s.bus ++ [transfer s z (address o s).addr user true false false 0 (z.replicate (storedReg s (rd o)))]))

/-- An aborted Thumb load: the same, with r14_abt = A + 8 too. -/
def Sys2Proof.Claims.ThumbLoadAborts {Ops : Type} (c : Ops → Instr) (k : LoadKind) (_rd : Ops → LowReg)
    (address : Ops → State → Word) : Prop :=
  ∀ (o : Ops) (s : State), s.thumb = true → calm s → s.dbg.watch = .idle →
    abortsAt s .read k.size (address o s) false = true →
    exec (c o) s = .next (abortedState s (s.bus ++ [transfer s k.size (address o s) false false false false 0 0]))

/-- An aborted Thumb store. -/
def Sys2Proof.Claims.ThumbStoreAborts {Ops : Type} (c : Ops → Instr) (z : Size) (rd : Ops → LowReg)
    (address : Ops → State → Word) : Prop :=
  ∀ (o : Ops) (s : State), s.thumb = true → calm s → s.dbg.watch = .idle →
    abortsAt s .write z (address o s) false = true →
    exec (c o) s = .next (abortedState s
      (s.bus ++ [transfer s z (address o s) false true false false 0 (z.replicate (storedReg s (low (rd o))))]))

/-- Does the access to the slot of register `n` abort? -/
def Sys2Proof.Claims.slotAborts (s : State) (acc : Access) (first : Word) (list : BitVec 16) (n : Reg) : Bool :=
  abortsAt s acc .word (first + 4#32 * BitVec.ofNat 32 (rank list n)) false

/-- A block load into bank `m` with an aborted slot takes the Data Abort. The base is as before; the registers below the
first aborted slot hold their words and the others are as before, which is the model's reading (entry 15). -/
def Sys2Proof.Claims.LoadListAborts (i : Instr) (s : State) (m : Mode) (list : BitVec 16) (first : Word) (rn : Reg) :
    Prop :=
  (∃ n, listed list n = true ∧ slotAborts s .read first list n = true) →
  ∃ t, exec i s = .next t ∧ t = { abortedState s t.bus with regs := t.regs } ∧
    t.regs[physIx .abt 14#4] = s.pc + 8#32 ∧
    (physIx s.mode rn ≠ physIx .abt 14#4 → t.regs[physIx s.mode rn] = s.regs[physIx s.mode rn]) ∧
    (∀ n : Reg, n ≠ 15#4 → listed list n = true → physIx m n ≠ physIx .abt 14#4 → physIx m n ≠ physIx s.mode rn →
      ((∀ k : Reg, listed list k = true → k.toNat ≤ n.toNat → slotAborts s .read first list k = false) →
        t.regs[physIx m n] = slotWord s first list n) ∧
      ((∃ k : Reg, listed list k = true ∧ k.toNat ≤ n.toNat ∧ slotAborts s .read first list k = true) →
        t.regs[physIx m n] = s.regs[physIx m n])) ∧
    (∀ i : Fin 30, i ≠ physIx .abt 14#4 → (∀ n : Reg, n ≠ 15#4 → listed list n = true → physIx m n ≠ i) →
      t.regs[i] = s.regs[i])

/-- A block store with an aborted slot takes the Data Abort. The base is as before; a word is stored exactly where its
own access is not aborted, which is the model's reading (entries 10 and 15). -/
def Sys2Proof.Claims.StoreListAborts (i : Instr) (s : State) (value : Reg → Word) (isOpen : Reg → Bool)
    (list : BitVec 16) (first : Word) : Prop :=
  s.mem.wf = true → (∃ n, listed list n = true ∧ slotAborts s .write first list n = true) →
  ∃ t, exec i s = .next t ∧
    t = { abortedState s t.bus with mem := t.mem, imem := t.imem, freeIx := t.freeIx } ∧
    (∀ n : Reg, listed list n = true → isOpen n = false → slotAborts s .write first list n = false →
      t.mem.word s.cfg.bigEnd (slotAddress first list n) = value n) ∧
    keptOutside s t (fun a => ∃ n : Reg, listed list n = true ∧ slotAborts s .write first list n = false ∧
      a = slotAddress first list n)

/-- The block transfers with an aborted word: LDM (1) to (3), STM (1) and (2), Thumb LDMIA, STMIA, PUSH, POP. -/
def Sys2Proof.Claims.blockAborts : Prop :=
  (∀ (o : LdmOps) (s : State) (first : Word), condPassed o.cond s.cpsr = true → s.thumb = false → calm s →
    s.dbg.watch = .idle → o.rn ≠ 15#4 → first = firstAddress o.p o.u (s.reg o.rn) (count o.list) →
    LoadListAborts (.ldm1 o) s s.mode o.list first o.rn ∧
    StoreListAborts (.stm1 o) s (storedReg s) (baseOpen o.w o.rn o.list) o.list first ∧
    (o.w = false → s.mode ≠ .usr → s.mode ≠ .sys →
      StoreListAborts (.stm2 o) s (fun n => if n = 15#4 then storedReg s n else s.bankReg .usr n) (fun _ => false)
        o.list first)) ∧
  (∀ (o : Ldm15Ops) (s : State), condPassed o.cond s.cpsr = true → s.thumb = false → calm s →
    s.dbg.watch = .idle → o.rn ≠ 15#4 →
    (o.w = false → s.mode ≠ .usr → s.mode ≠ .sys → LoadListAborts (.ldm2 o) s .usr (o.list.setWidth 16)
      (firstAddress o.p o.u (s.reg o.rn) (count (o.list.setWidth 16))) o.rn) ∧
    LoadListAborts (.ldm3 o) s s.mode (0b1#1 ++ o.list)
      (firstAddress o.p o.u (s.reg o.rn) (count (0b1#1 ++ o.list))) o.rn) ∧
  (∀ (o : TMultiOps) (s : State), s.thumb = true → calm s → s.dbg.watch = .idle →
    LoadListAborts (.tLdmia o) s s.mode (o.list.setWidth 16) (s.reg (low o.rb)) (low o.rb) ∧
    StoreListAborts (.tStmia o) s (storedReg s) (baseOpen true (low o.rb) (o.list.setWidth 16))
      (o.list.setWidth 16) (s.reg (low o.rb))) ∧
  (∀ (o : TStackOps) (s : State) (list : BitVec 16), s.thumb = true → calm s → s.dbg.watch = .idle →
    (list = (bit o.extra ++ 0#7 ++ o.list : BitVec 16) → LoadListAborts (.tPop o) s s.mode list (s.reg 13#4) 13#4) ∧
    (list = (0b0#1 ++ bit o.extra ++ 0#6 ++ o.list : BitVec 16) →
      StoreListAborts (.tPush o) s (storedReg s) (fun _ => false) list
        (firstAddress true false (s.reg 13#4) (count list))))

/-- LDRD and STRD with an aborted word. LDRD: whether a register loaded before the abort keeps its word is the
parameter `ldrdKeeps`, since R249 and R272 differ from R471 (entry 15). STRD: a word is stored exactly where its own access is not
aborted (entries 10 and 15). -/
def Sys2Proof.Claims.DoubleAborts {Ops : Type} (ld sd : Ops → Instr) (cond : Ops → Cond) (rn rd : Ops → Reg)
    (rm : Ops → Option Reg) (address : Ops → State → Addressed) : Prop :=
  ∀ (o : Ops) (s : State) (a : Word), condPassed (cond o) s.cpsr = true → s.thumb = false → calm s →
    s.dbg.watch = .idle → bitAt (rd o) 0 = false → rd o ≠ 14#4 → rm o ≠ some 15#4 →
    ((address o s).writeback.isSome = true → rn o ≠ 15#4 ∧ rn o ≠ rd o ∧ rn o ≠ rd o + 1#4 ∧ rm o ≠ some (rn o)) →
    a = (address o s).addr →
    (rm o ≠ some (rd o) → rm o ≠ some (rd o + 1#4) →
      (abortsAt s .read .word a false || abortsAt s .read .word (a + 4#32) false) = true →
      ∃ t, exec (ld o) s = .next t ∧ t = { abortedState s t.bus with
        regs := (if abortsAt s .read .word a false = false ∧ s.cfg.ldrdKeeps = true ∧ rn o ≠ rd o then
            s.regs.set (physIx s.mode (rd o)) (s.mem.word s.cfg.bigEnd (align4 a))
          else s.regs).set (physIx .abt 14#4) (s.pc + 8#32) }) ∧
    (s.mem.wf = true → (abortsAt s .write .word a false || abortsAt s .write .word (a + 4#32) false) = true →
      ∃ t, exec (sd o) s = .next t ∧ t = { abortedState s t.bus with mem := t.mem, imem := t.imem } ∧
        (abortsAt s .write .word a false = false → t.mem.word s.cfg.bigEnd (align4 a) = s.reg (rd o)) ∧
        (abortsAt s .write .word (a + 4#32) false = false →
          t.mem.word s.cfg.bigEnd (align4 (a + 4#32)) = s.reg (rd o + 1#4)) ∧
        keptOutside s t (fun b => (abortsAt s .write .word a false = false ∧ b = a) ∨
          (abortsAt s .write .word (a + 4#32) false = false ∧ b = a + 4#32)))

/-- SWP and SWPB with an aborted access: the Data Abort; Rd and every other register as before. An aborted write leaves
memory alone (entry 10); whether the write of an aborted read reaches it is the parameter `swapWrites`, since R292 and
R471 differ (entry 15). -/
def Sys2Proof.Claims.swapAborts : Prop :=
  ∀ r ∈ [(Instr.swp, Size.word), (Instr.swpb, Size.byte)], ∀ (o : SwpOps) (s : State),
    condPassed o.cond s.cpsr = true → s.thumb = false → calm s → s.dbg.watch = .idle → s.mem.wf = true →
    o.rn ≠ 15#4 → o.rd ≠ 15#4 → o.rm ≠ 15#4 → o.rn ≠ o.rd →
    (abortsAt s .read r.2 (s.reg o.rn) false || abortsAt s .write r.2 (s.reg o.rn) false) = true →
    ∃ t, exec (r.1 o) s = .next t ∧ t = { abortedState s t.bus with mem := t.mem, imem := t.imem } ∧
      (abortsAt s .write r.2 (s.reg o.rn) false = true ∨ s.cfg.swapWrites = false →
        t.mem = s.mem ∧ t.imem = s.imem) ∧
      (abortsAt s .write r.2 (s.reg o.rn) false = false → s.cfg.swapWrites = true →
        storedIn s r.2 (s.reg o.rn) (s.reg o.rm) t.mem)

/-- The access of word `i` of a coprocessor transfer from `a`. -/
def Sys2Proof.Claims.wordAborts (s : State) (acc : Access) (a : Word) (i : Nat) : Bool :=
  abortsAt s acc .word (a + 4#32 * BitVec.ofNat 32 i) false

/-- LDC or LDC2 with an aborted word: the Data Abort, the base and every other register as before; the coprocessor has
received the words before the first aborted one (R339). -/
def Sys2Proof.Claims.LoadWordsAbort (i : Instr) (s : State) (rest : List CpAnswer) (a : Word) (n : Nat) : Prop :=
  (∃ k, k < n ∧ wordAborts s .read a k = true) →
  ∃ w t, encode i = .arm w ∧ exec i s = .next t ∧
    t = abortedState (offered s w rest
      (((List.range n).takeWhile fun k => !wordAborts s .read a k).map fun k =>
        .received (s.mem.word s.cfg.bigEnd (align4 (a + 4#32 * BitVec.ofNat 32 k))))) t.bus

/-- STC or STC2 with an aborted word: the Data Abort, the base and every other register as before; a word is stored
exactly where its own access is not aborted (R339, D10, entry 10). -/
def Sys2Proof.Claims.StoreWordsAbort (i : Instr) (s : State) (rest : List CpAnswer) (a : Word) (ws : List Word) : Prop :=
  s.mem.wf = true → (∃ k, k < ws.length ∧ wordAborts s .write a k = true) →
  ∃ w t, encode i = .arm w ∧ exec i s = .next t ∧
    t = { abortedState (offered s w rest []) t.bus with mem := t.mem, imem := t.imem } ∧
    (∀ k, (h : k < ws.length) → wordAborts s .write a k = false →
      t.mem.word s.cfg.bigEnd (align4 (a + 4#32 * BitVec.ofNat 32 k)) = ws[k]) ∧
    keptOutside s t (fun b => ∃ k, k < ws.length ∧ wordAborts s .write a k = false ∧ b = a + 4#32 * BitVec.ofNat 32 k)

/-- LDC, STC, LDC2 and STC2, accepted for `more + 1` words that do not wrap onto each other, with an aborted word. -/
def Sys2Proof.Claims.coprocessorAborts : Prop :=
  ∀ (s : State) (more : Nat) (ws : List Word) (rest : List CpAnswer), accepts s more ws rest → s.thumb = false →
    calm s → s.dbg.watch = .idle → more < 2 ^ 30 → ws.length = more + 1 →
    (∀ o : LdcOps, condPassed o.cond s.cpsr = true → o.cp ≠ 14#4 →
      ((mode5 o.p o.u o.w o.imm8 (s.reg o.rn)).writeback.isSome = true → o.rn ≠ 15#4) →
      LoadWordsAbort (.ldc o) s rest (mode5 o.p o.u o.w o.imm8 (s.reg o.rn)).addr (more + 1) ∧
      StoreWordsAbort (.stc o) s rest (mode5 o.p o.u o.w o.imm8 (s.reg o.rn)).addr ws) ∧
    (∀ o : Ldc2Ops, o.cp ≠ 14#4 →
      ((mode5 o.p o.u o.w o.imm8 (s.reg o.rn)).writeback.isSome = true → o.rn ≠ 15#4) →
      LoadWordsAbort (.ldc2 o) s rest (mode5 o.p o.u o.w o.imm8 (s.reg o.rn)).addr (more + 1) ∧
      StoreWordsAbort (.stc2 o) s rest (mode5 o.p o.u o.w o.imm8 (s.reg o.rn)).addr ws)

/-- An aborted transfer, of every form that transfers data: the Data Abort is taken with
r14_abt = A + 8 and the base as before; a single load leaves Rd, and a single store memory, as before. That an aborted
store leaves memory alone is the model's choice (R67, D10, entry 10); what a burst or a swap leaves of the words that did
not abort is its reading of R249, R272, R288 and R292 (entry 15). Forms that 93 refuses by default run here by the model's
choice (entry 3): SWP and SWPB with Rn = Rm, the extra forms with P = 0 and W = 1, LDM with its base listed and writeback,
LDRD and STRD that are not doubleword-aligned; halfwords at an odd address by 92 D7 (entry 27). -/
def Obligations.AbortedTransfer : Prop :=
  (Claims.singleLoads LoadAborts ∧ Claims.extraLoads LoadAborts ∧ Claims.singleStores StoreAborts) ∧
  (Claims.thumbLoads ThumbLoadAborts ∧ Claims.thumbStores ThumbStoreAborts) ∧
  Claims.blockAborts ∧
  (DoubleAborts .ldrdImm .strdImm ExtImmOps.cond ExtImmOps.rn ExtImmOps.rd (fun _ => none) addressExtImm ∧
   DoubleAborts .ldrdReg .strdReg ExtRegOps.cond ExtRegOps.rn ExtRegOps.rd (fun o => some o.rm) addressExtReg) ∧
  Claims.swapAborts ∧ Claims.coprocessorAborts

/-! ### Block transfers and swap -/

/-- LDM (1), LDM (2) and LDM (3), when nothing aborts: the lowest register from the lowest address, the base written
back, r15 through `LoadPC` (with CFGDISLTBIT HIGH by the spec's own reading, 92 D24, entry 33), the User bank for form 2,
the SPSR restored for form 3. -/
def Obligations.LoadMultiple : Prop :=
  (∀ (o : LdmOps) (s : State), condPassed o.cond s.cpsr = true → s.thumb = false → calm s → noAborts s →
    o.list ≠ 0#16 → o.rn ≠ 15#4 → (o.w = true → listed o.list o.rn = false) →
    ∃ t, exec (.ldm1 o) s = .next t ∧ onlyRegs s t ∧
      blockLoaded s t s.mode o.list (firstAddress o.p o.u (s.reg o.rn) (count o.list))
        (if o.w then some (o.rn, newBase o.u (s.reg o.rn) (count o.list)) else none) ∧
      (if listed o.list 15#4 then
        loadedPc s t (slotWord s (firstAddress o.p o.u (s.reg o.rn) (count o.list)) o.list 15#4)
      else t.pc = s.pc + 4#32 ∧ t.cpsr = s.cpsr)) ∧
  (∀ (o : Ldm15Ops) (s : State), condPassed o.cond s.cpsr = true → s.thumb = false → calm s → noAborts s →
    o.list ≠ 0#15 → o.rn ≠ 15#4 → o.w = false → s.mode ≠ .usr → s.mode ≠ .sys →
    ∃ t, exec (.ldm2 o) s = .next t ∧ onlyRegs { s with bankHazard := true } t ∧
      blockLoaded s t .usr (o.list.setWidth 16)
        (firstAddress o.p o.u (s.reg o.rn) (count (o.list.setWidth 16))) none ∧
      t.pc = s.pc + 4#32 ∧ t.cpsr = s.cpsr) ∧
  (∀ (o : Ldm15Ops) (s : State) (p : Word), condPassed o.cond s.cpsr = true → s.thumb = false → calm s →
    noAborts s → o.rn ≠ 15#4 → (o.w = true → listed (0b1#1 ++ o.list : BitVec 16) o.rn = false) →
    s.spsrOf s.mode = some p →
    ∃ t, exec (.ldm3 o) s = .next t ∧ onlyRegs s t ∧
      blockLoaded s t s.mode (0b1#1 ++ o.list)
        (firstAddress o.p o.u (s.reg o.rn) (count (0b1#1 ++ o.list)))
        (if o.w then some (o.rn, newBase o.u (s.reg o.rn) (count (0b1#1 ++ o.list))) else none) ∧
      t.cpsr = p ∧
      t.pc = (if psrT p then align2 else align4)
        (slotWord s (firstAddress o.p o.u (s.reg o.rn) (count (0b1#1 ++ o.list))) (0b1#1 ++ o.list) 15#4))

/-- STM (1) and STM (2), when nothing aborts: each listed register's word in its slot, every other byte as before. -/
def Obligations.StoreMultiple : Prop :=
  (∀ (o : LdmOps) (s : State), condPassed o.cond s.cpsr = true → s.thumb = false → calm s → noAborts s →
    s.mem.wf = true → o.list ≠ 0#16 → o.rn ≠ 15#4 →
    ∃ t, exec (.stm1 o) s = .next t ∧ onlyStored s t (blockBase s o.w o.u o.rn (count o.list)) ∧
      blockStored s t (storedReg s) (baseOpen o.w o.rn o.list) o.list
        (firstAddress o.p o.u (s.reg o.rn) (count o.list))) ∧
  (∀ (o : LdmOps) (s : State), condPassed o.cond s.cpsr = true → s.thumb = false → calm s → noAborts s →
    s.mem.wf = true → o.list ≠ 0#16 → o.rn ≠ 15#4 → o.w = false → s.mode ≠ .usr → s.mode ≠ .sys →
    ∃ t, exec (.stm2 o) s = .next t ∧ onlyStored { s with bankHazard := true } t s.regs ∧
      blockStored s t (fun n => if n = 15#4 then storedReg s n else s.bankReg .usr n) (fun _ => false) o.list
        (firstAddress o.p o.u (s.reg o.rn) (count o.list)))

/-- Thumb LDMIA, STMIA, PUSH and POP, when nothing aborts. A base in the list of LDMIA is left with its loaded word
(R428). POP of the pc with CFGDISLTBIT HIGH is the spec's own reading (92 D24, entry 33). -/
def Obligations.ThumbBlockTransfers : Prop :=
  (∀ (o : TMultiOps) (s : State), s.thumb = true → calm s → noAborts s → o.list ≠ 0#8 →
    (listed (o.list.setWidth 16) (low o.rb) = false →
      ∃ t, exec (.tLdmia o) s = .next t ∧ onlyRegs s t ∧
        blockLoaded s t s.mode (o.list.setWidth 16) (s.reg (low o.rb))
          (some (low o.rb, newBase true (s.reg (low o.rb)) (count (o.list.setWidth 16)))) ∧
        t.pc = s.pc + 2#32 ∧ t.cpsr = s.cpsr) ∧
    (listed (o.list.setWidth 16) (low o.rb) = true →
      ∃ t, exec (.tLdmia o) s = .next t ∧ onlyRegs s t ∧
        blockLoaded s t s.mode (o.list.setWidth 16) (s.reg (low o.rb)) none ∧
        t.pc = s.pc + 2#32 ∧ t.cpsr = s.cpsr) ∧
    (s.mem.wf = true → ∃ t, exec (.tStmia o) s = .next t ∧
      onlyStored s t (blockBase s true true (low o.rb) (count (o.list.setWidth 16))) ∧
      blockStored s t (storedReg s) (baseOpen true (low o.rb) (o.list.setWidth 16)) (o.list.setWidth 16)
        (s.reg (low o.rb)))) ∧
  (∀ (o : TStackOps) (s : State) (list : BitVec 16), s.thumb = true → calm s → noAborts s → s.mem.wf = true →
    list = (0b0#1 ++ bit o.extra ++ 0#6 ++ o.list : BitVec 16) → list ≠ 0#16 →
    ∃ t, exec (.tPush o) s = .next t ∧ onlyStored s t (blockBase s true false 13#4 (count list)) ∧
      blockStored s t (storedReg s) (fun _ => false) list (firstAddress true false (s.reg 13#4) (count list))) ∧
  (∀ (o : TStackOps) (s : State) (list : BitVec 16), s.thumb = true → calm s → noAborts s →
    list = (bit o.extra ++ 0#7 ++ o.list : BitVec 16) → list ≠ 0#16 →
    ∃ t, exec (.tPop o) s = .next t ∧ onlyRegs s t ∧
      blockLoaded s t s.mode list (s.reg 13#4) (some (13#4, newBase true (s.reg 13#4) (count list))) ∧
      (if o.extra then loadedPc s t (slotWord s (s.reg 13#4) list 15#4)
       else t.pc = s.pc + 2#32 ∧ t.cpsr = s.cpsr))

/-- SWP and SWPB, when nothing aborts: memory's old value in Rd, Rm's value in memory, two locked transfers. -/
def Obligations.SwapResults : Prop :=
  ∀ r ∈ [(Instr.swp, LoadKind.word), (Instr.swpb, LoadKind.byte)], ∀ (o : SwpOps) (s : State),
    condPassed o.cond s.cpsr = true → s.thumb = false → calm s → noAborts s → s.mem.wf = true →
    o.rn ≠ 15#4 → o.rd ≠ 15#4 → o.rm ≠ 15#4 → o.rn ≠ o.rd → o.rn ≠ o.rm →
    ∃ m im, exec (r.1 o) s = .next { s with
        mem := m
        imem := im
        regs := s.regs.set (physIx s.mode o.rd) (loadedValue s r.2 (s.reg o.rn))
        pc := s.pc + 4#32
        bus := s.bus ++ [transfer s r.2.size (s.reg o.rn) false false false true 0 0,
          transfer s r.2.size (s.reg o.rn) false true false true 0 (r.2.size.replicate (s.reg o.rm))] } ∧
      storedIn s r.2.size (s.reg o.rn) (s.reg o.rm) m ∧ storedInCode s r.2.size (s.reg o.rn) (s.reg o.rm) im

/-! ### Status registers and exceptions -/

/-- MRS reads the CPSR or the mode's SPSR whole. -/
def Obligations.MrsReads : Prop :=
  ∀ (o : MrsOps) (s : State), condPassed o.cond s.cpsr = true → s.thumb = false → o.rd ≠ 15#4 →
    (o.spsr = false → exec (.mrs o) s = .next { s with
      regs := s.regs.set (physIx s.mode o.rd) s.cpsr, pc := s.pc + 4#32 }) ∧
    (∀ p, o.spsr = true → s.spsrOf s.mode = some p → exec (.mrs o) s = .next { s with
      regs := s.regs.set (physIx s.mode o.rd) p, pc := s.pc + 4#32 })

/-- After an MSR of `v` with a field mask. CPSR: a bit changes only if its byte is selected and, in User mode, it lies in
the flags byte, or in debug state (R566) in the control byte; the T bit is never written (the model's choice, entry 3). SPSR, in a mode that
has one: exactly the selected bytes. -/
def Sys2Proof.Claims.msrDone (s t : State) (spsr : Bool) (mask : BitVec 4) (v : Word) : Prop :=
  (spsr = false → t = { s with cpsr := t.cpsr, pc := s.pc + 4#32 } ∧
    ∀ i, i < 32 → bitAt t.cpsr i =
      if bitAt mask (i / 8) && decide (s.mode ≠ .usr ∨ 24 ≤ i ∨ (s.dbg.active = true ∧ i < 8)) && decide (i ≠ 5) then
        bitAt v i
      else bitAt s.cpsr i) ∧
  (∀ p, spsr = true → s.spsrOf s.mode = some p →
    ∃ q, t = { s.setSpsrOf s.mode q with pc := s.pc + 4#32 } ∧
      ∀ i, i < 32 → bitAt q i = if bitAt mask (i / 8) then bitAt v i else bitAt p i)

/-- MSR completes, immediate and register form, with the masked write above. -/
def Obligations.MsrWrites : Prop :=
  (∀ (o : MsrImmOps) (s : State), condPassed o.cond s.cpsr = true → s.thumb = false →
    ∃ t, exec (.msrImm o) s = .next t ∧
      msrDone s t o.spsr o.mask ((o.imm8.setWidth 32).rotateRight (2 * o.rot.toNat))) ∧
  (∀ (o : MsrRegOps) (s : State), condPassed o.cond s.cpsr = true → s.thumb = false → o.rm ≠ 15#4 →
    ∃ t, exec (.msrReg o) s = .next t ∧ msrDone s t o.spsr o.mask (s.reg o.rm))

/-- Taking an exception: r14 and the SPSR of the new mode, the mode, T = 0, I = 1, F = 1 for FIQ alone, the vector;
nothing else but the prefetched instructions, the vector-catch mark and the note of a user-bank transfer (entry 29). -/
def Obligations.TakeException : Prop :=
  ∀ (s : State) (ret : Word),
    s.takeException .undefined ret = { s with
      regs := s.regs.set (physIx .und 14#4) ret, spsrUnd := s.cpsr, cpsr := enteredCpsr s.cpsr false 0b11011#5
      pc := vectors s + 0x04#32, fetchQ := [], bankHazard := false, dbg := { s.dbg with catchNext := s.catches .undefined } } ∧
    s.takeException .swi ret = { s with
      regs := s.regs.set (physIx .svc 14#4) ret, spsrSvc := s.cpsr, cpsr := enteredCpsr s.cpsr false 0b10011#5
      pc := vectors s + 0x08#32, fetchQ := [], bankHazard := false, dbg := { s.dbg with catchNext := s.catches .swi } } ∧
    s.takeException .prefetchAbort ret = { s with
      regs := s.regs.set (physIx .abt 14#4) ret, spsrAbt := s.cpsr, cpsr := enteredCpsr s.cpsr false 0b10111#5
      pc := vectors s + 0x0C#32, fetchQ := [], bankHazard := false, dbg := { s.dbg with catchNext := s.catches .prefetchAbort } } ∧
    s.takeException .dataAbort ret = { s with
      regs := s.regs.set (physIx .abt 14#4) ret, spsrAbt := s.cpsr, cpsr := enteredCpsr s.cpsr false 0b10111#5
      pc := vectors s + 0x10#32, fetchQ := [], bankHazard := false, dbg := { s.dbg with catchNext := s.catches .dataAbort } } ∧
    s.takeException .irq ret = { s with
      regs := s.regs.set (physIx .irq 14#4) ret, spsrIrq := s.cpsr, cpsr := enteredCpsr s.cpsr false 0b10010#5
      pc := vectors s + 0x18#32, fetchQ := [], bankHazard := false, dbg := { s.dbg with catchNext := s.catches .irq } } ∧
    s.takeException .fiq ret = { s with
      regs := s.regs.set (physIx .fiq 14#4) ret, spsrFiq := s.cpsr, cpsr := enteredCpsr s.cpsr true 0b10001#5
      pc := vectors s + 0x1C#32, fetchQ := [], bankHazard := false, dbg := { s.dbg with catchNext := s.catches .fiq } }

/-- SWI takes its exception with r14_svc the next instruction's address, in ARM and in Thumb state. -/
def Sys2Proof.Claims.softwareInterrupt : Prop :=
  (∀ (o : SwiOps) (s : State), condPassed o.cond s.cpsr = true → s.thumb = false →
    exec (.swi o) s = .next (s.takeException .swi (s.pc + 4#32))) ∧
  (∀ (o : TCommentOps) (s : State), s.thumb = true →
    exec (.tSwi o) s = .next (s.takeException .swi (s.pc + 2#32)))

/-- BKPT: the Prefetch Abort with r14_abt = A + 4 in both states unless halt-mode debug is on; then debug state with
MOE 0b0011, no register or memory changed. -/
def Sys2Proof.Claims.breakpointInstruction : Prop :=
  ∀ (o : BkptOps) (o' : TCommentOps) (s : State),
    ((s.cfg.dbgen = false ∨ bitAt s.ice.control 4 = true) →
      exec (.bkpt o) s = .next (s.takeException .prefetchAbort (s.pc + 4#32)) ∧
      exec (.tBkpt o') s = .next (s.takeException .prefetchAbort (s.pc + 4#32))) ∧
    (s.cfg.dbgen = true → bitAt s.ice.control 4 = false →
      ∃ t, exec (.bkpt o) s = .next t ∧ exec (.tBkpt o') s = .next t ∧ t.dbg.active = true ∧ t.ice.moe = 0b0011#4 ∧
        t.regs = s.regs ∧ t.cpsr = s.cpsr ∧ t.mem = s.mem)

/-- SWI and BKPT, ARM and Thumb: the exception or debug entry each one is. The exception of BKPT leaves DbgAbt as it was,
by the spec's own inference (91_not_in_source.md N21, entry 32). -/
def Obligations.SwiAndBkpt : Prop :=
  Claims.softwareInterrupt ∧ Claims.breakpointInstruction

/-- FIQ before IRQ before the instruction: with nFIQ LOW and F clear the step takes FIQ with r14_fiq = N + 4,
whatever nIRQ is; with nFIQ HIGH or F set, nIRQ LOW and I clear, it takes IRQ with r14_irq = N + 4. -/
def Obligations.InterruptEntry : Prop :=
  ∀ s : State, plainBoundary s →
    (s.pins.nFIQ = false → psrF s.cpsr = false →
      ∃ t, step s = .next t ∧ t.regs = s.regs.set (physIx .fiq 14#4) (s.pc + 4#32) ∧ t.spsrFiq = s.cpsr ∧
        t.cpsr = enteredCpsr s.cpsr true 0b10001#5 ∧ t.pc = vectors s + 0x1C#32 ∧ t.mem = s.mem) ∧
    ((s.pins.nFIQ = true ∨ psrF s.cpsr = true) → s.pins.nIRQ = false → psrI s.cpsr = false →
      ∃ t, step s = .next t ∧ t.regs = s.regs.set (physIx .irq 14#4) (s.pc + 4#32) ∧ t.spsrIrq = s.cpsr ∧
        t.cpsr = enteredCpsr s.cpsr false 0b10010#5 ∧ t.pc = vectors s + 0x18#32 ∧ t.mem = s.mem)

/-- A Data Abort with FIQ enabled and asserted: the next step enters FIQ from the abort vector, with r14_fiq = base
+ 0x14 and SPSR_fiq the Abort-mode CPSR, and r14_abt and SPSR_abt kept. -/
def Obligations.DataAbortThenFiq : Prop :=
  ∀ (s : State) (ret : Word), plainBoundary s → s.pins.nFIQ = false → psrF s.cpsr = false →
    ∃ t, step (s.takeException .dataAbort ret) = .next t ∧
      t.regs = (s.regs.set (physIx .abt 14#4) ret).set (physIx .fiq 14#4) (vectors s + 0x14#32) ∧
      t.spsrAbt = s.cpsr ∧ t.spsrFiq = enteredCpsr s.cpsr false 0b10111#5 ∧
      t.cpsr = enteredCpsr s.cpsr true 0b10001#5 ∧ t.pc = vectors s + 0x1C#32 ∧ t.mem = s.mem

/-- Bits that no row of the opcode table matches take the Undefined exception if their condition passes, with r14_und the
next instruction's address; ARM words with cond = 1111 and Thumb halfwords have no condition to fail. With a failed
condition only the pc moves on. That every such word is Undefined is the spec's decision (92 D20, entry 26); BKPT with a
condition other than AL, which `RefusedForms` has, is set apart. -/
def Sys2Proof.Claims.undefinedWord : Prop :=
  ∀ (s : State) (w : Word) (e : Reject), undisturbed s → headBits s w → decoded s w = .error e →
    e ≠ .breakpointCondition →
    ((s.thumb = true ∨ ∀ c, Cond.ofBits (fld w 28 4) = some c → condPassed c s.cpsr = true) →
      ∃ t, step s = .next t ∧ t.regs = s.regs.set (physIx .und 14#4) (s.pc + s.instrSize) ∧ t.spsrUnd = s.cpsr ∧
        t.cpsr = enteredCpsr s.cpsr false 0b11011#5 ∧ t.pc = vectors s + 0x04#32 ∧ t.mem = s.mem) ∧
    (∀ c, s.thumb = false → Cond.ofBits (fld w 28 4) = some c → condPassed c s.cpsr = false →
      ∃ t, step s = .next t ∧ t.regs = s.regs ∧ t.cpsr = s.cpsr ∧ t.pc = s.pc + 4#32 ∧ t.mem = s.mem)

/-- An aborted fetch: the Prefetch Abort is taken when the instruction would execute, with r14_abt = A + 4 in both
states, whatever its bits are: of the oldest prefetched entry at the pc or, with none there, of the fetch made now. -/
def Sys2Proof.Claims.prefetchAbortTaken : Prop :=
  ∀ s : State, undisturbed s →
    ((∃ f rest, s.liveQueue = f :: rest ∧ f.aborted = true) ∨
     (s.liveQueue = [] ∧
      s.cfg.abort .fetch (if s.thumb && !s.cfg.thumb32 then .half else .word)
        (if s.thumb && !s.cfg.thumb32 then align2 s.pc else align4 s.pc) s.privileged (~~~psrM s.cpsr) = true)) →
    ∃ t, step s = .next t ∧ t.regs = s.regs.set (physIx .abt 14#4) (s.pc + 4#32) ∧ t.spsrAbt = s.cpsr ∧
      t.cpsr = enteredCpsr s.cpsr false 0b10111#5 ∧ t.pc = vectors s + 0x0C#32 ∧ t.mem = s.mem

/-- A step at bits no row matches takes Undefined, ARM and Thumb (by 92 D20, entry 26); at an aborted fetch it takes the
Prefetch Abort. -/
def Obligations.UndefinedAndPrefetchAbort : Prop :=
  Claims.undefinedWord ∧ Claims.prefetchAbortTaken

/-! ### Coprocessors -/

/-- Every coprocessor instruction that no coprocessor accepts takes the Undefined exception once it was offered; the
handshake is a script of answers, ABSENT when it is empty (entry 12). -/
def Sys2Proof.Claims.absentCoprocessor : Prop :=
  ∀ (i : Instr) (c : Option Cond) (cp : BitVec 4) (s : State) (rest : List CpAnswer), isCoprocessor i c cp →
    passes c s → cp ≠ 14#4 → s.cfg.dbgen = false →
    (s.cpScript = .absent :: rest ∨ (s.cpScript = [] ∧ rest = [])) →
    ∃ w, encode i = .arm w ∧ exec i s = .next (undefinedState (offered s w rest []))

/-- Of coprocessor 14 every form but the six of R344 takes the Undefined exception, whatever answers wait: CDP, LDC,
STC, MCRR, MRRC, the "2" forms, and MCR and MRC with another op1, op2, CRm or CRn. That it does so for the forms the spec
does not list is 92 D22 (entry 13). -/
def Sys2Proof.Claims.commsOnly : Prop :=
  ∀ (i : Instr) (c : Option Cond) (s : State), isCoprocessor i c 14#4 → passes c s → ¬ commsForm i →
    s.cfg.dbgen = false → exec i s = .next (undefinedState s)

/-- A busy-waiting coprocessor: the instruction, of any form, stays where it is and nothing of the core changes; if it is
the one after a watchpointed access, it is noted that it is not done yet (R563, entry 19). -/
def Sys2Proof.Claims.busyWait : Prop :=
  ∀ (i : Instr) (c : Option Cond) (cp : BitVec 4) (s : State) (rest : List CpAnswer), isCoprocessor i c cp →
    passes c s → cp ≠ 14#4 → s.cpScript = .wait :: rest →
    ∃ w, encode i = .arm w ∧
      ((∀ m, s.dbg.watch ≠ .armed m) → exec i s = .next (offered s w rest [])) ∧
      (∀ m, s.dbg.watch = .armed m →
        exec i s = .next { offered s w rest [] with dbg := { s.dbg with watch := .waiting m } })

/-- The handshake without acceptance: ABSENT is the Undefined exception, and so is all of coprocessor 14 but R344's six
forms (92 D22, entry 13); WAIT leaves the instruction where it is. -/
def Obligations.AbsentAndBusy : Prop :=
  Claims.absentCoprocessor ∧ Claims.commsOnly ∧ Claims.busyWait

/-- What MCR shows a coprocessor: coprocessor 15 sees the word on `IA` and `DA` in each GO cycle too (R343), others not
by the model's choice (entry 12). -/
def Sys2Proof.Claims.moved (cp : BitVec 4) (more : Nat) (w : Word) : List CpEvent :=
  List.replicate (if cp = 15#4 then more else 0) (.driven w) ++ [.received w]

/-- A C cycle: one word of a register transfer, to the coprocessor or from it, with no memory request (R86, R95). What
else the cycle shows is the model's choice (entry 37). -/
def Sys2Proof.Claims.cCycle (s : State) (write : Bool) (data : Word) : BusCycle :=
  { transfer s .word 0 false write true false 0 data with request := false }

/-- An MRC with the word `d`: Rd, or the condition flags where Rd is r15 (R334); a C cycle, the pc and nothing else. -/
def Sys2Proof.Claims.received (s : State) (rd : Reg) (d : Word) : State :=
  let t := { s with bus := s.bus ++ [cCycle s false d], pc := s.pc + 4#32 }
  if rd = 15#4 then { t with cpsr := (fld d 28 4 ++ fld s.cpsr 0 28 : BitVec 32) }
  else { t with regs := s.regs.set (physIx s.mode rd) d }

/-- CDP, MCR, MRC, MCRR, MRRC and their "2" forms accepted by a coprocessor complete: what goes out, what comes in, a C
cycle for each word. -/
def Obligations.CoprocessorTransfers : Prop :=
  ∀ (s : State) (more : Nat) (ws : List Word) (rest : List CpAnswer), accepts s more ws rest → s.thumb = false →
    (∀ o : CdpOps, condPassed o.cond s.cpsr = true → o.cp ≠ 14#4 → ∃ w, encode (.cdp o) = .arm w ∧
      exec (.cdp o) s = .next { offered s w rest [] with pc := s.pc + 4#32 }) ∧
    (∀ o : Cdp2Ops, o.cp ≠ 14#4 → ∃ w, encode (.cdp2 o) = .arm w ∧
      exec (.cdp2 o) s = .next { offered s w rest [] with pc := s.pc + 4#32 }) ∧
    (∀ o : McrOps, condPassed o.cond s.cpsr = true → o.cp ≠ 14#4 → o.rd ≠ 15#4 → ∃ w, encode (.mcr o) = .arm w ∧
      exec (.mcr o) s = .next { offered s w rest (moved o.cp more (s.reg o.rd)) with
        bus := s.bus ++ [cCycle s true (s.reg o.rd)], pc := s.pc + 4#32 }) ∧
    (∀ o : Mcr2Ops, o.cp ≠ 14#4 → o.rd ≠ 15#4 → ∃ w, encode (.mcr2 o) = .arm w ∧
      exec (.mcr2 o) s = .next { offered s w rest (moved o.cp more (s.reg o.rd)) with
        bus := s.bus ++ [cCycle s true (s.reg o.rd)], pc := s.pc + 4#32 }) ∧
    (∀ (o : McrOps) (d : Word) (ds : List Word), condPassed o.cond s.cpsr = true → o.cp ≠ 14#4 → ws = d :: ds →
      ∃ w, encode (.mrc o) = .arm w ∧
      exec (.mrc o) s = .next (received (offered s w rest []) o.rd d)) ∧
    (∀ (o : Mcr2Ops) (d : Word) (ds : List Word), o.cp ≠ 14#4 → ws = d :: ds →
      ∃ w, encode (.mrc2 o) = .arm w ∧
      exec (.mrc2 o) s = .next (received (offered s w rest []) o.rd d)) ∧
    (∀ o : McrrOps, condPassed o.cond s.cpsr = true → o.cp ≠ 14#4 → o.rd ≠ 15#4 → o.rn ≠ 15#4 →
      ∃ w, encode (.mcrr o) = .arm w ∧
      exec (.mcrr o) s = .next { offered s w rest [.received (s.reg o.rd), .received (s.reg o.rn)] with
        bus := s.bus ++ [cCycle s true (s.reg o.rd), cCycle s true (s.reg o.rn)], pc := s.pc + 4#32 }) ∧
    (∀ (o : McrrOps) (d e : Word) (ds : List Word), condPassed o.cond s.cpsr = true → o.cp ≠ 14#4 →
      o.rd ≠ 15#4 → o.rn ≠ 15#4 → o.rd ≠ o.rn → ws = d :: e :: ds → ∃ w, encode (.mrrc o) = .arm w ∧
      exec (.mrrc o) s = .next { offered s w rest [] with
        regs := (s.regs.set (physIx s.mode o.rd) d).set (physIx s.mode o.rn) e
        bus := s.bus ++ [cCycle s false d, cCycle s false e], pc := s.pc + 4#32 })

/-- LDC, STC and their "2" forms accepted for `more + 1` words complete: the words between memory and the
coprocessor, rising from the address; the base as the addressing mode says. -/
def Obligations.CoprocessorMemory : Prop :=
  ∀ (s : State) (more : Nat) (ws : List Word) (rest : List CpAnswer), accepts s more ws rest → s.thumb = false →
    calm s → noAborts s → s.mem.wf = true → more < 16 → ws.length = more + 1 →
    (∀ o : LdcOps, condPassed o.cond s.cpsr = true → o.cp ≠ 14#4 →
      ((mode5 o.p o.u o.w o.imm8 (s.reg o.rn)).writeback.isSome = true → o.rn ≠ 15#4) →
      (∃ w t, encode (.ldc o) = .arm w ∧ exec (.ldc o) s = .next t ∧
        t = { offered s w rest ((wordsAt s (mode5 o.p o.u o.w o.imm8 (s.reg o.rn)).addr (more + 1)).map .received) with
          regs := basedRegs s o.rn (mode5 o.p o.u o.w o.imm8 (s.reg o.rn)), pc := s.pc + 4#32, bus := t.bus }) ∧
      (∃ w t, encode (.stc o) = .arm w ∧ exec (.stc o) s = .next t ∧
        onlyStored (offered s w rest []) t (basedRegs s o.rn (mode5 o.p o.u o.w o.imm8 (s.reg o.rn))) ∧
        wordsStored s t (mode5 o.p o.u o.w o.imm8 (s.reg o.rn)).addr ws)) ∧
    (∀ o : Ldc2Ops, o.cp ≠ 14#4 →
      ((mode5 o.p o.u o.w o.imm8 (s.reg o.rn)).writeback.isSome = true → o.rn ≠ 15#4) →
      (∃ w t, encode (.ldc2 o) = .arm w ∧ exec (.ldc2 o) s = .next t ∧
        t = { offered s w rest ((wordsAt s (mode5 o.p o.u o.w o.imm8 (s.reg o.rn)).addr (more + 1)).map .received) with
          regs := basedRegs s o.rn (mode5 o.p o.u o.w o.imm8 (s.reg o.rn)), pc := s.pc + 4#32, bus := t.bus }) ∧
      (∃ w t, encode (.stc2 o) = .arm w ∧ exec (.stc2 o) s = .next t ∧
        onlyStored (offered s w rest []) t (basedRegs s o.rn (mode5 o.p o.u o.w o.imm8 (s.reg o.rn))) ∧
        wordsStored s t (mode5 o.p o.u o.w o.imm8 (s.reg o.rn)).addr ws))

/-- Coprocessor 14: MRC of c0 reads 0110 : 0 : W : R, of c1 the data read register clearing R, of c2 DbgAbt, each into
Rd or, for r15, its bits 31:28 into the flags (R334, R344, entry 28); MCR to c0 is ignored, to c1 fills the data
write register and sets W, to c2 writes DbgAbt from bit 0. DBGnTRST is HIGH. Bits 27:2 of c0 reading 0 and the ignored
write are 92 D22 (entry 13); that each transfer is a C cycle of the data interface is the model's choice (entry 37). -/
def Obligations.CommsChannel : Prop :=
  ∀ (o : McrOps) (s : State), condPassed o.cond s.cpsr = true → s.thumb = false → s.pins.nTRST = true →
    o.cp = 14#4 → o.op1 = 0#3 → o.op2 = 0#3 → o.crm = 0#4 →
    (o.crn = 0#4 → exec (.mrc o) s =
      .next (received s o.rd (0b0110#4 ++ 0#26 ++ bit s.ice.w ++ bit s.ice.r : BitVec 32))) ∧
    (o.crn = 1#4 → exec (.mrc o) s =
      .next { received s o.rd s.ice.dccRd with ice := { s.ice with r := false } }) ∧
    (o.crn = 2#4 → exec (.mrc o) s = .next (received s o.rd (if s.ice.dbgAbt then 1#32 else 0#32))) ∧
    (o.rd ≠ 15#4 → o.crn = 0#4 → exec (.mcr o) s = .next { s with
      bus := s.bus ++ [cCycle s true (s.reg o.rd)], pc := s.pc + 4#32 }) ∧
    (o.rd ≠ 15#4 → o.crn = 1#4 → exec (.mcr o) s = .next { s with
      ice := { s.ice with dccWr := s.reg o.rd, w := true }
      bus := s.bus ++ [cCycle s true (s.reg o.rd)], pc := s.pc + 4#32 }) ∧
    (o.rd ≠ 15#4 → o.crn = 2#4 → exec (.mcr o) s = .next { s with
      ice := { s.ice with dbgAbt := bitAt (s.reg o.rd) 0 }
      bus := s.bus ++ [cCycle s true (s.reg o.rd)], pc := s.pc + 4#32 })

/-! ### Thumb data processing -/

/-- Rd gets the result and the flags change, from Thumb state. -/
def Sys2Proof.Claims.thumbNext (op : AluSpec) (s : State) (rd : LowReg) (a : Word) (b : Shifted) : State :=
  { s with regs := s.regs.set (physIx s.mode (low rd)) (op.value a b.value (psrC s.cpsr))
           cpsr := op.flags a b s.cpsr
           pc := s.pc + 2#32 }

/-- Only the flags and the pc change, from Thumb state. -/
def Sys2Proof.Claims.thumbFlags (op : AluSpec) (s : State) (a : Word) (b : Shifted) : State :=
  { s with cpsr := op.flags a b s.cpsr, pc := s.pc + 2#32 }

/-- Thumb MUL completes: the low 32 bits of the product, N and Z, C and V kept. -/
def Sys2Proof.Claims.thumbMulResult (o : TAluOps) (s : State) : Prop :=
  exec (.tMul o) s = .next { s with
    regs := s.regs.set (physIx s.mode (low o.rd)) (s.reg (low o.rd) * s.reg (low o.rs))
    cpsr := mulFlags true (s.reg (low o.rd) * s.reg (low o.rs)) s.cpsr
    pc := s.pc + 2#32 }

/-- The Thumb operations on two low registers complete with the result and flags of their ARM operation: AND, EOR,
ADC, SBC, ORR, BIC, MVN, NEG (0 - Rs), MUL (of two registers), and the comparisons TST, CMP, CMN. -/
def Obligations.ThumbAluResults : Prop :=
  ∀ (o : TAluOps) (s : State), s.thumb = true →
    (∀ r ∈ [(Instr.tAnd, andSpec), (Instr.tEor, eorSpec), (Instr.tAdc, adcSpec), (Instr.tSbc, sbcSpec),
        (Instr.tOrr, orrSpec), (Instr.tBic, bicSpec), (Instr.tMvn, mvnSpec)],
      exec (r.1 o) s = .next (thumbNext r.2 s o.rd (s.reg (low o.rd)) ⟨s.reg (low o.rs), psrC s.cpsr⟩)) ∧
    (∀ r ∈ [(Instr.tTst, andSpec), (Instr.tCmpLow, subSpec), (Instr.tCmn, addSpec)],
      exec (r.1 o) s = .next (thumbFlags r.2 s (s.reg (low o.rd)) ⟨s.reg (low o.rs), psrC s.cpsr⟩)) ∧
    exec (.tNeg o) s = .next (thumbNext subSpec s o.rd 0#32 ⟨s.reg (low o.rs), psrC s.cpsr⟩) ∧
    (o.rd ≠ o.rs → thumbMulResult o s)

/-- The Thumb shifts, by an immediate and by a register: result and carry of the shifter, N and Z of the result. -/
def Obligations.ThumbShiftResults : Prop :=
  (∀ (o : TShiftImmOps) (s : State), s.thumb = true →
    ∀ r ∈ [(Instr.tLslImm, ShiftTy.lsl), (Instr.tLsrImm, .lsr), (Instr.tAsrImm, .asr)],
      exec (r.1 o) s = .next (thumbNext movSpec s o.rd 0#32
        ⟨(shiftImmSpec r.2 o.imm5.toNat (s.reg (low o.rs)) (psrC s.cpsr)).1,
         (shiftImmSpec r.2 o.imm5.toNat (s.reg (low o.rs)) (psrC s.cpsr)).2⟩)) ∧
  (∀ (o : TAluOps) (s : State), s.thumb = true →
    ∀ r ∈ [(Instr.tLslReg, ShiftTy.lsl), (Instr.tLsrReg, .lsr), (Instr.tAsrReg, .asr), (Instr.tRor, .ror)],
      exec (r.1 o) s = .next (thumbNext movSpec s o.rd 0#32
        ⟨(shiftRegSpec r.2 ((s.reg (low o.rs)).setWidth 8).toNat (s.reg (low o.rd)) (psrC s.cpsr)).1,
         (shiftRegSpec r.2 ((s.reg (low o.rs)).setWidth 8).toNat (s.reg (low o.rd)) (psrC s.cpsr)).2⟩))

/-- The Thumb additions, subtractions, moves and comparisons with flags: three-operand forms and 8-bit immediates. -/
def Obligations.ThumbAddSubResults : Prop :=
  ∀ s : State, s.thumb = true →
    (∀ o : TAdd3Ops,
      exec (.tAddReg o) s = .next (thumbNext addSpec s o.rd (s.reg (low o.rs)) ⟨s.reg (low o.rn), psrC s.cpsr⟩) ∧
      exec (.tSubReg o) s = .next (thumbNext subSpec s o.rd (s.reg (low o.rs)) ⟨s.reg (low o.rn), psrC s.cpsr⟩)) ∧
    (∀ o : TAddImm3Ops,
      exec (.tAddImm3 o) s = .next (thumbNext addSpec s o.rd (s.reg (low o.rs)) ⟨o.imm3.setWidth 32, psrC s.cpsr⟩) ∧
      exec (.tSubImm3 o) s = .next (thumbNext subSpec s o.rd (s.reg (low o.rs)) ⟨o.imm3.setWidth 32, psrC s.cpsr⟩)) ∧
    (∀ o : TRdImm8Ops,
      exec (.tMovImm o) s = .next (thumbNext movSpec s o.rd 0#32 ⟨o.imm8.setWidth 32, psrC s.cpsr⟩) ∧
      exec (.tAddImm8 o) s = .next (thumbNext addSpec s o.rd (s.reg (low o.rd)) ⟨o.imm8.setWidth 32, psrC s.cpsr⟩) ∧
      exec (.tSubImm8 o) s = .next (thumbNext subSpec s o.rd (s.reg (low o.rd)) ⟨o.imm8.setWidth 32, psrC s.cpsr⟩) ∧
      exec (.tCmpImm o) s = .next (thumbFlags subSpec s (s.reg (low o.rd)) ⟨o.imm8.setWidth 32, psrC s.cpsr⟩))

/-- The Thumb operations without flags: ADD and MOV on any registers (r15 is a branch that stays in Thumb state),
CMP on any but r15, and the PC- and SP-relative additions. Two low registers (H1 = H2 = 0, UNPREDICTABLE by R136) act like any
others by the model's choice (entry 3, U25). -/
def Obligations.ThumbHighRegisters : Prop :=
  ∀ s : State, s.thumb = true →
    (∀ o : THiOps,
      (o.rd ≠ 15#4 →
        exec (.tAddHi o) s = .next { s with
          regs := s.regs.set (physIx s.mode o.rd) (s.reg o.rd + s.reg o.rm), pc := s.pc + 2#32 } ∧
        exec (.tMovHi o) s = .next { s with
          regs := s.regs.set (physIx s.mode o.rd) (s.reg o.rm), pc := s.pc + 2#32 } ∧
        exec (.tCmpHi o) s = .next (thumbFlags subSpec s (s.reg o.rd) ⟨s.reg o.rm, psrC s.cpsr⟩)) ∧
      (o.rd = 15#4 →
        exec (.tAddHi o) s = .next { s with pc := align2 (s.pc + 4#32 + s.reg o.rm), fetchQ := [] } ∧
        exec (.tMovHi o) s = .next { s with pc := align2 (s.reg o.rm), fetchQ := [] })) ∧
    (∀ o : TRdImm8Ops,
      exec (.tAddPc o) s = .next { s with
        regs := s.regs.set (physIx s.mode (low o.rd)) (align4 (s.pc + 4#32) + (o.imm8.setWidth 32 <<< 2))
        pc := s.pc + 2#32 } ∧
      exec (.tAddSp o) s = .next { s with
        regs := s.regs.set (physIx s.mode (low o.rd)) (s.reg 13#4 + (o.imm8.setWidth 32 <<< 2))
        pc := s.pc + 2#32 }) ∧
    (∀ o : TSpImmOps,
      exec (.tIncSp o) s = .next { s with
        regs := s.regs.set (physIx s.mode 13#4) (s.reg 13#4 + (o.imm7.setWidth 32 <<< 2)), pc := s.pc + 2#32 } ∧
      exec (.tDecSp o) s = .next { s with
        regs := s.regs.set (physIx s.mode 13#4) (s.reg 13#4 - (o.imm7.setWidth 32 <<< 2)), pc := s.pc + 2#32 })

/-! ### UNPREDICTABLE forms -/

/-- A data-processing instruction with a register-specified shift refuses r15 in every field (R164). -/
def Sys2Proof.Claims.refusedShifts : Prop :=
  (∀ r ∈ aluRows, ∀ (o : AluRegOps) (s : State), condPassed o.cond s.cpsr = true →
    (o.rd = 15#4 ∨ o.rn = 15#4 ∨ o.rm = 15#4 ∨ o.rs = 15#4) → exec (r.reg o) s = .refused .pcRegisterShift) ∧
  (∀ r ∈ movRows, ∀ (o : MovRegOps) (s : State), condPassed o.cond s.cpsr = true →
    (o.rd = 15#4 ∨ o.rm = 15#4 ∨ o.rs = 15#4) → exec (r.reg o) s = .refused .pcRegisterShift) ∧
  (∀ r ∈ cmpRows, ∀ (o : CmpRegOps) (s : State), condPassed o.cond s.cpsr = true →
    (o.rn = 15#4 ∨ o.rm = 15#4 ∨ o.rs = 15#4) → exec (r.reg o) s = .refused .pcRegisterShift)

/-- The multiply, status and branch forms with r15 where 93 section 2.2 refuses it. -/
def Sys2Proof.Claims.refusedOperands : Prop :=
  (∀ (o : MulOps) (s : State), condPassed o.cond s.cpsr = true → (o.rd = 15#4 ∨ o.rs = 15#4 ∨ o.rm = 15#4) →
    exec (.mul o) s = .refused .pcOperand) ∧
  (∀ (o : MlaOps) (s : State), condPassed o.cond s.cpsr = true →
    (o.rd = 15#4 ∨ o.rn = 15#4 ∨ o.rs = 15#4 ∨ o.rm = 15#4) → exec (.mla o) s = .refused .pcOperand) ∧
  (∀ r ∈ longRows, ∀ (o : MullOps) (s : State), condPassed o.cond s.cpsr = true →
    (o.rdHi = 15#4 ∨ o.rdLo = 15#4 ∨ o.rs = 15#4 ∨ o.rm = 15#4) → exec (r.instr o) s = .refused .pcOperand) ∧
  (∀ r ∈ satRows, ∀ (o : QOps) (s : State), condPassed o.cond s.cpsr = true →
    (o.rn = 15#4 ∨ o.rd = 15#4 ∨ o.rm = 15#4) → exec (r.instr o) s = .refused .pcOperand) ∧
  (∀ (o : SmulXyOps) (s : State), condPassed o.cond s.cpsr = true → (o.rd = 15#4 ∨ o.rs = 15#4 ∨ o.rm = 15#4) →
    exec (.smulXy o) s = .refused .pcOperand) ∧
  (∀ (o : SmlaXyOps) (s : State), condPassed o.cond s.cpsr = true →
    (o.rd = 15#4 ∨ o.rn = 15#4 ∨ o.rs = 15#4 ∨ o.rm = 15#4) → exec (.smlaXy o) s = .refused .pcOperand) ∧
  (∀ (o : SmulWOps) (s : State), condPassed o.cond s.cpsr = true → (o.rd = 15#4 ∨ o.rs = 15#4 ∨ o.rm = 15#4) →
    exec (.smulW o) s = .refused .pcOperand) ∧
  (∀ (o : SmlaWOps) (s : State), condPassed o.cond s.cpsr = true →
    (o.rd = 15#4 ∨ o.rn = 15#4 ∨ o.rs = 15#4 ∨ o.rm = 15#4) → exec (.smlaW o) s = .refused .pcOperand) ∧
  (∀ (o : SmlalXyOps) (s : State), condPassed o.cond s.cpsr = true →
    (o.rdHi = 15#4 ∨ o.rdLo = 15#4 ∨ o.rs = 15#4 ∨ o.rm = 15#4) → exec (.smlalXy o) s = .refused .pcOperand) ∧
  (∀ (o : ClzOps) (s : State), condPassed o.cond s.cpsr = true → (o.rd = 15#4 ∨ o.rm = 15#4) →
    exec (.clz o) s = .refused .pcOperand) ∧
  (∀ (o : MrsOps) (s : State), condPassed o.cond s.cpsr = true → o.rd = 15#4 →
    exec (.mrs o) s = .refused .pcOperand) ∧
  (∀ (o : MsrRegOps) (s : State), condPassed o.cond s.cpsr = true → o.rm = 15#4 →
    exec (.msrReg o) s = .refused .pcOperand) ∧
  (∀ (o : BxOps) (s : State), condPassed o.cond s.cpsr = true → o.rm = 15#4 →
    exec (.blxReg o) s = .refused .pcOperand) ∧
  (∀ (o : TBxOps) (s : State), o.rm = 15#4 → exec (.tBlxReg o) s = .refused .pcOperand) ∧
  (∀ (o : THiOps) (s : State), o.rd = 15#4 → exec (.tCmpHi o) s = .refused .pcOperand)

/-- One single-transfer form: an offset register r15, and writeback to r15, Rd or Rm, are refused (R246, R248), and
so is r15 as Rd unless the form may transfer it (`pcOk`: LDR, STR and STRT). -/
def Sys2Proof.Claims.RefusesBase {Ops : Type} (c : Ops → Instr) (pcOk : Bool) (cond : Ops → Cond) (rn rd : Ops → Reg)
    (rm : Ops → Option Reg) (address : Ops → State → Addressed) : Prop :=
  ∀ (o : Ops) (s : State), condPassed (cond o) s.cpsr = true →
    (rm o = some 15#4 → exec (c o) s = .refused .pcOperand) ∧
    (rm o ≠ some 15#4 → (address o s).writeback.isSome = true →
      (rn o = 15#4 ∨ rn o = rd o ∨ rm o = some (rn o)) → exec (c o) s = .refused .writebackConflict) ∧
    (baseFree (address o s) (rn o) (rd o) (rm o) → rd o = 15#4 → pcOk = false →
      exec (c o) s = .refused .pcOperand)

/-- One LDR form with Rd = r15 from an address that is not word-aligned (R250). -/
def Sys2Proof.Claims.RefusesUnalignedPc {Ops : Type} (c : Ops → Instr) (cond : Ops → Cond) (rn rd : Ops → Reg)
    (rm : Ops → Option Reg) (address : Ops → State → Addressed) : Prop :=
  ∀ (o : Ops) (s : State), condPassed (cond o) s.cpsr = true → baseFree (address o s) (rn o) (rd o) (rm o) →
    rd o = 15#4 → fld (address o s).addr 0 2 ≠ 0b00#2 → exec (c o) s = .refused .unalignedPcLoad

/-- The ARM transfers that 93 section 2.2 refuses. -/
def Sys2Proof.Claims.refusedTransfers : Prop :=
  (∀ c ∈ [(Instr.ldrImmPre, true), (.ldrbImmPre, false), (.strImmPre, true), (.strbImmPre, false)],
    RefusesBase c.1 c.2 MemImmPreOps.cond MemImmPreOps.rn MemImmPreOps.rd (fun _ => none) addressMemImmPre) ∧
  (∀ c ∈ [(Instr.ldrImmPost, true), (.ldrtImm, false), (.ldrbImmPost, false), (.ldrbtImm, false),
      (.strImmPost, true), (.strtImm, true), (.strbImmPost, false), (.strbtImm, false)],
    RefusesBase c.1 c.2 MemImmPostOps.cond MemImmPostOps.rn MemImmPostOps.rd (fun _ => none) addressMemImmPost) ∧
  (∀ c ∈ [(Instr.ldrRegPre, true), (.ldrbRegPre, false), (.strRegPre, true), (.strbRegPre, false)],
    RefusesBase c.1 c.2 MemRegPreOps.cond MemRegPreOps.rn MemRegPreOps.rd (fun o => some o.rm) addressMemRegPre) ∧
  (∀ c ∈ [(Instr.ldrRegPost, true), (.ldrtReg, false), (.ldrbRegPost, false), (.ldrbtReg, false),
      (.strRegPost, true), (.strtReg, true), (.strbRegPost, false), (.strbtReg, false)],
    RefusesBase c.1 c.2 MemRegPostOps.cond MemRegPostOps.rn MemRegPostOps.rd (fun o => some o.rm) addressMemRegPost) ∧
  (∀ c ∈ [Instr.ldrhImm, .ldrsbImm, .ldrshImm, .strhImm],
    RefusesBase c false ExtImmOps.cond ExtImmOps.rn ExtImmOps.rd (fun _ => none) addressExtImm) ∧
  (∀ c ∈ [Instr.ldrhReg, .ldrsbReg, .ldrshReg, .strhReg],
    RefusesBase c false ExtRegOps.cond ExtRegOps.rn ExtRegOps.rd (fun o => some o.rm) addressExtReg) ∧
  RefusesUnalignedPc .ldrImmPre MemImmPreOps.cond MemImmPreOps.rn MemImmPreOps.rd (fun _ => none) addressMemImmPre ∧
  RefusesUnalignedPc .ldrImmPost MemImmPostOps.cond MemImmPostOps.rn MemImmPostOps.rd (fun _ => none)
    addressMemImmPost ∧
  RefusesUnalignedPc .ldrRegPre MemRegPreOps.cond MemRegPreOps.rn MemRegPreOps.rd (fun o => some o.rm)
    addressMemRegPre ∧
  RefusesUnalignedPc .ldrRegPost MemRegPostOps.cond MemRegPostOps.rn MemRegPostOps.rd (fun o => some o.rm)
    addressMemRegPost ∧
  (∀ c ∈ [Instr.ldm1, .stm1, .stm2], ∀ (o : LdmOps) (s : State), condPassed o.cond s.cpsr = true →
    (o.list = 0#16 ∨ o.rn = 15#4) → exec (c o) s = .refused .multipleForm) ∧
  (∀ (o : Ldm15Ops) (s : State), condPassed o.cond s.cpsr = true →
    ((o.list = 0#15 ∨ o.rn = 15#4) → exec (.ldm2 o) s = .refused .multipleForm) ∧
    (o.rn = 15#4 → exec (.ldm3 o) s = .refused .multipleForm)) ∧
  (∀ (o : Ldm15Ops) (s : State), condPassed o.cond s.cpsr = true → o.list ≠ 0#15 → o.rn ≠ 15#4 →
    (o.w = true ∨ s.mode = .usr ∨ s.mode = .sys) → exec (.ldm2 o) s = .refused .userBankForm) ∧
  (∀ (o : LdmOps) (s : State), condPassed o.cond s.cpsr = true → o.list ≠ 0#16 → o.rn ≠ 15#4 →
    (o.w = true ∨ s.mode = .usr ∨ s.mode = .sys) → exec (.stm2 o) s = .refused .userBankForm) ∧
  (∀ (o : PldRegOps) (s : State), o.rm = 15#4 → exec (.pldReg o) s = .refused .pcOperand) ∧
  (∀ c ∈ [Instr.tLdmia, .tStmia], ∀ (o : TMultiOps) (s : State), o.list = 0#8 →
    exec (c o) s = .refused .multipleForm) ∧
  (∀ c ∈ [Instr.tPush, .tPop], ∀ (o : TStackOps) (s : State), o.list = 0#8 → o.extra = false →
    exec (c o) s = .refused .multipleForm) ∧
  (∀ c ∈ [Instr.swp, .swpb], ∀ (o : SwpOps) (s : State), condPassed o.cond s.cpsr = true →
    ((o.rn = 15#4 ∨ o.rd = 15#4 ∨ o.rm = 15#4) → exec (c o) s = .refused .pcOperand) ∧
    (o.rn ≠ 15#4 → o.rm ≠ 15#4 → o.rn = o.rd → exec (c o) s = .refused .swapRegister))

/-- LDRD or STRD of an even register (an odd one is UNDEFINED): r14, an offset register r15, writeback to r15, to a
transferred register or to the offset register, and for LDRD an offset register among the two, are refused (R248, R272,
R273). -/
def Sys2Proof.Claims.RefusesDouble {Ops : Type} (ld sd : Ops → Instr) (cond : Ops → Cond) (rn rd : Ops → Reg)
    (rm : Ops → Option Reg) (address : Ops → State → Addressed) : Prop :=
  ∀ (o : Ops) (s : State), condPassed (cond o) s.cpsr = true → bitAt (rd o) 0 = false →
    (∀ c ∈ [ld, sd],
      (rd o = 14#4 → exec (c o) s = .refused .doublewordRegister) ∧
      (rd o ≠ 14#4 → rm o = some 15#4 → exec (c o) s = .refused .pcOperand) ∧
      (rd o ≠ 14#4 → rm o ≠ some 15#4 → (address o s).writeback.isSome = true →
        (rn o = 15#4 ∨ rn o = rd o ∨ rn o = rd o + 1#4 ∨ rm o = some (rn o)) →
        exec (c o) s = .refused .writebackConflict)) ∧
    (rd o ≠ 14#4 → (rm o = some (rd o) ∨ rm o = some (rd o + 1#4)) →
      ((address o s).writeback.isSome = true → rn o ≠ 15#4 ∧ rn o ≠ rd o ∧ rn o ≠ rd o + 1#4 ∧ rm o ≠ some (rn o)) →
      exec (ld o) s = .refused .doublewordRegister)

/-- The doubleword forms that 93 section 2.2 refuses, immediate and register. -/
def Sys2Proof.Claims.refusedDoublewords : Prop :=
  RefusesDouble .ldrdImm .strdImm ExtImmOps.cond ExtImmOps.rn ExtImmOps.rd (fun _ => none) addressExtImm ∧
  RefusesDouble .ldrdReg .strdReg ExtRegOps.cond ExtRegOps.rn ExtRegOps.rd (fun o => some o.rm) addressExtReg

/-- The coprocessor forms that 93 section 2.2 refuses, once a coprocessor accepts them: MCRR and MRRC with r15, MRRC with
Rd = Rn, and LDC, STC, LDC2 and STC2 with writeback to r15 (R335, R336, R337). -/
def Sys2Proof.Claims.refusedCoprocessor : Prop :=
  ∀ (s : State) (more : Nat) (ws : List Word) (rest : List CpAnswer), accepts s more ws rest →
    (∀ o : McrrOps, condPassed o.cond s.cpsr = true → o.cp ≠ 14#4 →
      ((o.rd = 15#4 ∨ o.rn = 15#4) →
        exec (.mcrr o) s = .refused .pcOperand ∧ exec (.mrrc o) s = .refused .pcOperand) ∧
      (o.rd ≠ 15#4 → o.rd = o.rn → exec (.mrrc o) s = .refused .coprocessorRegister)) ∧
    (∀ o : LdcOps, condPassed o.cond s.cpsr = true → o.cp ≠ 14#4 → o.rn = 15#4 →
      (mode5 o.p o.u o.w o.imm8 (s.reg o.rn)).writeback.isSome = true →
      exec (.ldc o) s = .refused .writebackConflict ∧ exec (.stc o) s = .refused .writebackConflict) ∧
    (∀ o : Ldc2Ops, o.cp ≠ 14#4 → o.rn = 15#4 →
      (mode5 o.p o.u o.w o.imm8 (s.reg o.rn)).writeback.isSome = true →
      exec (.ldc2 o) s = .refused .writebackConflict ∧ exec (.stc2 o) s = .refused .writebackConflict)

/-- What a step refuses before the instruction runs: BKPT with a condition other than AL (R118, R305), and an
instruction that passes its condition and reads a banked register directly after a user-bank transfer (R283, R286). -/
def Sys2Proof.Claims.refusedSteps : Prop :=
  (∀ (s : State) (w : Word), undisturbed s → headBits s w → s.thumb = false → fld w 20 8 = 0x12#8 →
    fld w 4 4 = 0x7#4 → fld w 28 4 ≠ 0xE#4 → fld w 28 4 ≠ 0xF#4 → step s = .refused .breakpointCondition) ∧
  (∀ (s : State) (w : Word) (i : Instr), undisturbed s → headBits s w → decoded s w = .ok i →
    s.bankHazard = true → passes (condOf i) s → (sources i).any (banked s.mode) = true →
    step s = .refused .bankedAfterUserBank)

/-- The UNPREDICTABLE forms for which 93 offers no total alternative are refused, each under its own name. -/
def Obligations.RefusedForms : Prop :=
  Claims.refusedShifts ∧ Claims.refusedOperands ∧ Claims.refusedTransfers ∧ Claims.refusedDoublewords ∧
    Claims.refusedCoprocessor ∧ Claims.refusedSteps

/-- The multiplies whose registers R217 calls UNPREDICTABLE together, none of them r15, compute their formula from the
registers' old values; RdHi wins over RdLo. -/
def Sys2Proof.Claims.multiplyAlternatives : Prop :=
  (∀ (o : MulOps) (s : State), condPassed o.cond s.cpsr = true → s.thumb = false →
    o.rd ≠ 15#4 → o.rs ≠ 15#4 → o.rd = o.rm → mulResult o s) ∧
  (∀ (o : MlaOps) (s : State), condPassed o.cond s.cpsr = true → s.thumb = false →
    o.rd ≠ 15#4 → o.rn ≠ 15#4 → o.rs ≠ 15#4 → o.rd = o.rm → mlaResult o s) ∧
  (∀ r ∈ longRows, ∀ (o : MullOps) (s : State), condPassed o.cond s.cpsr = true → s.thumb = false →
    o.rdHi ≠ 15#4 → o.rdLo ≠ 15#4 → o.rs ≠ 15#4 → o.rm ≠ 15#4 →
    (o.rdHi = o.rdLo ∨ o.rdHi = o.rm ∨ o.rdLo = o.rm) → longResult r o s) ∧
  (∀ (o : SmlalXyOps) (s : State), condPassed o.cond s.cpsr = true → s.thumb = false →
    o.rdHi ≠ 15#4 → o.rs ≠ 15#4 → o.rm ≠ 15#4 → o.rdHi = o.rdLo → smlalResult o s) ∧
  (∀ (o : TAluOps) (s : State), s.thumb = true → o.rd = o.rs → thumbMulResult o s)

/-- A data-processing result `v` for Rd = r15 where R237 or U10 leaves it open: without S and with bits 1:0 set these are
cleared; with S in a mode without an SPSR the CPSR is kept. -/
def Sys2Proof.Claims.toPcOtherwise (i : Instr) (setFlags : Bool) (s : State) (v : Word) : Prop :=
  ((setFlags = false ∧ fld v 0 2 ≠ 0b00#2) ∨ (setFlags = true ∧ s.spsrOf s.mode = none)) →
    exec i s = .next { s with pc := align4 v, fetchQ := [] }

/-- Branches of an address that is not one: BX and BLX with bits 1:0 = 0b10 clear them; data processing to r15. -/
def Sys2Proof.Claims.branchAlternatives : Prop :=
  (∀ (o : BxOps) (s : State), condPassed o.cond s.cpsr = true → s.thumb = false → ¬ exchangeable (s.reg o.rm) →
    exec (.bx o) s = .next { s with pc := align4 (s.reg o.rm), fetchQ := [] } ∧
    (o.rm ≠ 15#4 → exec (.blxReg o) s = .next { s with
      regs := s.regs.set (physIx s.mode 14#4) (s.pc + 4#32), pc := align4 (s.reg o.rm), fetchQ := [] })) ∧
  (∀ (o : TBxOps) (s : State), s.thumb = true → ¬ exchangeable (s.reg o.rm) →
    exec (.tBx o) s = .next { s with
      cpsr := s.cpsr &&& ~~~0x20#32, pc := align4 (s.reg o.rm), fetchQ := [] } ∧
    (o.rm ≠ 15#4 → exec (.tBlxReg o) s = .next { s with
      regs := s.regs.set (physIx s.mode 14#4) ((s.pc + 2#32) ||| 1#32)
      cpsr := s.cpsr &&& ~~~0x20#32, pc := align4 (s.reg o.rm), fetchQ := [] })) ∧
  (∀ r ∈ aluRows, ∀ (o : AluImmOps) (s : State), condPassed o.cond s.cpsr = true → s.thumb = false → o.rd = 15#4 →
    toPcOtherwise (r.imm o) o.s s (r.op.value (s.reg o.rn) (rotImm o.rot o.imm8) (psrC s.cpsr))) ∧
  (∀ r ∈ aluRows, ∀ (o : AluShiftOps) (s : State), condPassed o.cond s.cpsr = true → s.thumb = false →
    o.rd = 15#4 → toPcOtherwise (r.shift o) o.s s
      (r.op.value (s.reg o.rn) (shiftImm o.ty o.amount (s.reg o.rm) (psrC s.cpsr)).value (psrC s.cpsr))) ∧
  (∀ r ∈ movRows, ∀ (o : MovImmOps) (s : State), condPassed o.cond s.cpsr = true → s.thumb = false → o.rd = 15#4 →
    toPcOtherwise (r.imm o) o.s s (r.op.value 0 (rotImm o.rot o.imm8) (psrC s.cpsr))) ∧
  (∀ r ∈ movRows, ∀ (o : MovShiftOps) (s : State), condPassed o.cond s.cpsr = true → s.thumb = false →
    o.rd = 15#4 → toPcOtherwise (r.shift o) o.s s
      (r.op.value 0 (shiftImm o.ty o.amount (s.reg o.rm) (psrC s.cpsr)).value (psrC s.cpsr)))

/-- MRS and MSR of the SPSR in a mode without one: a free value is read, nothing is written. -/
def Sys2Proof.Claims.spsrAlternatives : Prop :=
  (∀ (o : MrsOps) (s : State), condPassed o.cond s.cpsr = true → s.thumb = false → o.rd ≠ 15#4 → o.spsr = true →
    s.spsrOf s.mode = none → exec (.mrs o) s = .next { s with
      regs := s.regs.set (physIx s.mode o.rd) (Config.freeWord s.freeIx), freeIx := s.freeIx + 1
      pc := s.pc + 4#32 }) ∧
  (∀ (o : MsrImmOps) (s : State), condPassed o.cond s.cpsr = true → s.thumb = false → o.spsr = true →
    s.spsrOf s.mode = none → exec (.msrImm o) s = .next { s with pc := s.pc + 4#32 }) ∧
  (∀ (o : MsrRegOps) (s : State), condPassed o.cond s.cpsr = true → s.thumb = false → o.rm ≠ 15#4 → o.spsr = true →
    s.spsrOf s.mode = none → exec (.msrReg o) s = .next { s with pc := s.pc + 4#32 })

/-- Block loads: with the base listed and writeback the loaded word wins; LDM (3) without an SPSR keeps the CPSR. -/
def Sys2Proof.Claims.blockAlternatives : Prop :=
  (∀ (o : LdmOps) (s : State) (first : Word), condPassed o.cond s.cpsr = true → s.thumb = false → calm s →
    noAborts s → o.rn ≠ 15#4 → o.w = true → listed o.list o.rn = true →
    first = firstAddress o.p o.u (s.reg o.rn) (count o.list) →
    ∃ t, exec (.ldm1 o) s = .next t ∧ onlyRegs s t ∧ blockLoaded s t s.mode o.list first none ∧
      (if listed o.list 15#4 then loadedPc s t (slotWord s first o.list 15#4)
      else t.pc = s.pc + 4#32 ∧ t.cpsr = s.cpsr)) ∧
  (∀ (o : Ldm15Ops) (s : State) (list : BitVec 16) (first : Word), condPassed o.cond s.cpsr = true →
    s.thumb = false → calm s → noAborts s → o.rn ≠ 15#4 → list = 0b1#1 ++ o.list →
    first = firstAddress o.p o.u (s.reg o.rn) (count list) →
    (s.spsrOf s.mode = none ∨ (o.w = true ∧ listed list o.rn = true)) →
    ∃ t, exec (.ldm3 o) s = .next t ∧ onlyRegs s t ∧
      blockLoaded s t s.mode list first
        (if o.w && !listed list o.rn then some (o.rn, newBase o.u (s.reg o.rn) (count list)) else none) ∧
      t.cpsr = (s.spsrOf s.mode).getD s.cpsr ∧
      t.pc = (if psrT t.cpsr then align2 else align4) (slotWord s first list 15#4))

/-- SWP and SWPB with Rn = Rm store the address, or its low byte, as vector T22 of 95 shows it; 93 refuses the case and
permits no alternative, so this one is the model's choice alone. -/
def Sys2Proof.Claims.swapOfAddress : Prop :=
  ∀ r ∈ [(Instr.swp, LoadKind.word), (Instr.swpb, LoadKind.byte)], ∀ (o : SwpOps) (s : State),
    condPassed o.cond s.cpsr = true → s.thumb = false → calm s → noAborts s → s.mem.wf = true →
    o.rn ≠ 15#4 → o.rd ≠ 15#4 → o.rn ≠ o.rd → o.rn = o.rm →
    ∃ t, exec (r.1 o) s = .next t ∧
      t = { s with mem := t.mem, imem := t.imem, pc := s.pc + 4#32, bus := t.bus,
                   regs := s.regs.set (physIx s.mode o.rd) (loadedValue s r.2 (s.reg o.rn)) } ∧
      storedIn s r.2.size (s.reg o.rn) (s.reg o.rn) t.mem

/-- UNPREDICTABLE forms that run, all by the model's choice (entry 3): an alternative 93 permits for branch targets
ending in 0b10, exception returns, MRS and MSR without an SPSR, block loads with the base listed and writeback, and
multiplies with coinciding registers; vector T22 of 95 for a swap with Rn = Rm, which 93 refuses. -/
def Obligations.PermittedAlternatives : Prop :=
  Claims.multiplyAlternatives ∧ Claims.branchAlternatives ∧ Claims.spsrAlternatives ∧ Claims.blockAlternatives ∧
    Claims.swapOfAddress

/-! ### Debug -/

/-- Five TAP clocks with TMS HIGH reach Test-Logic-Reset from every state. -/
def Sys2Proof.Claims.tapFiveOnes : Prop :=
  ∀ t : TapState, ((((t.next true).next true).next true).next true).next true = .reset

/-- IDCODE: after Capture-DR, thirty-two clocks in Shift-DR put TAPID on DBGTDO, bit 0 first. -/
def Sys2Proof.Claims.idCodeShiftsOut : Prop :=
  ∀ (s : State) (tdi : List Bool), s.tap.instr = .idcode → tdi.length = 32 →
    (tdi.foldl (fun (t : State) b => t.shiftDr b) { s.captureDr with tap := { s.captureDr.tap with tdoTrace := [] } }).tap.tdoTrace
      = (List.range 32).map fun i => bitAt s.cfg.tapId i

/-- The TAP controller: five clocks with TMS HIGH reset it, and IDCODE shifts TAPID out. Bit 0 first on DBGTDO is the
model's choice (entry 21): R548 gives no order. -/
def Obligations.TapController : Prop :=
  Claims.tapFiveOnes ∧ Claims.idCodeShiftsOut

/-- A watchpoint unit after a write of `d` to its register number `k` (R46, R48, R49): masks and values whole, nine bits
of control value clearing CHAINOUT, control mask with bit 3 reading 0; a control value with bit 3 set or clear completes
(entry 3, U14). -/
def Sys2Proof.Claims.unitWritten (u : WatchUnit) (k : BitVec 3) (d : Word) : WatchUnit :=
  if k = 0b000#3 then { u with addrValue := d }
  else if k = 0b001#3 then { u with addrMask := d }
  else if k = 0b010#3 then { u with dataValue := d }
  else if k = 0b011#3 then { u with dataMask := d }
  else if k = 0b100#3 then { u with control := fld d 0 9, chainOut := false }
  else if k = 0b101#3 then { u with controlMask := (fld d 4 4 ++ 0b0#1 ++ fld d 0 3 : BitVec 8) }
  else u

/-- EmbeddedICE-RT after a debugger's write of `d` to address `a`, by the map of R46: debug control (bit 3 reads 0),
vector catch (bit 5 reads 0), a comms control write clears R, a comms data write fills the read register and sets R, the
registers of the two units; the status register and unlisted addresses take nothing. -/
def Sys2Proof.Claims.iceWritten (i : Ice) (a : BitVec 5) (d : Word) : Ice :=
  if a = 0b00000#5 then { i with control := (fld d 4 2 ++ 0b0#1 ++ fld d 0 3 : BitVec 6) }
  else if a = 0b00010#5 then { i with vectorCatch := (fld d 6 2 ++ 0b0#1 ++ fld d 0 5 : BitVec 8) }
  else if a = 0b00100#5 then { i with r := false }
  else if a = 0b00101#5 then { i with dccRd := d, r := true }
  else if fld a 3 2 = 0b01#2 then { i with unit0 := unitWritten i.unit0 (fld a 0 3) d }
  else if fld a 3 2 = 0b10#2 then { i with unit1 := unitWritten i.unit1 (fld a 0 3) d }
  else i

/-- Scan chain 2 in Update-DR with INTEST and bit 37 set: the register at the address of bits 36:32 takes its bits of
bits 31:0, and the first access lifts the "disabled out of reset" latch; the unit's comparisons are off for the update
(R584); nothing but EmbeddedICE-RT changes. The comparators are then on exactly if bit 5 of the control register is
clear. That reserved bits are dropped and debug control bit 3 = 1 completes is the model's choice (U14, entry 3), and so
is that unlisted addresses take nothing (U16). -/
def Obligations.ScanChain2Write : Prop :=
  ∀ (s : State) (a : BitVec 5) (d : Word), s.tap.instr = .intest → s.tap.chain = 2#5 →
    s.tap.scan2 = (0b1#1 ++ a ++ d : BitVec 38) →
    s.updateDr =
      ({ s with ice := { iceWritten s.ice a d with offLatch := false, updating := some a } }, .nothing) ∧
    s.updateDr.1.ice.comparing = !bitAt s.updateDr.1.ice.control 5 ∧
    (a = 0b00000#5 → s.updateDr.1.ice.comparing = !bitAt d 5)

/-- No restriction of monitor mode is violated (R583): no external breakpoint or watchpoint, and no enabled unit in use
that depends on data or on RANGE. -/
def Sys2Proof.Claims.monitorAllowed (s : State) : Prop :=
  s.pins.iebkpt = false ∧ s.pins.dewpt = false ∧
    (s.ice.comparing = true → ∀ u ∈ [s.ice.unit0, s.ice.unit1],
      u.enabled = true → u.dataMask = 0xFFFFFFFF#32 ∧ bitAt u.controlMask 7 = true)

/-- A debug request with DBGEN HIGH, in halt mode or in monitor mode (R560): the step enters debug state before any pending
interrupt, and changes no register, status register or byte of memory. MOE is 0b1010 for EDBGRQ and 0b1001 for debug
control bit 1 (R564); that it is 0b1010 where both are present is the model's choice (entry 20), as is that monitor mode
with one of its restrictions violated is left out, where R583 has a model refuse. -/
def Sys2Proof.Claims.debugRequest : Prop :=
  ∀ s : State, quietPins s → s.cfg.dbgen = true → s.dbg.active = false → s.dbg.watch = .idle →
    Mode.ofBits (psrM s.cpsr) ≠ none → (s.ice.monitor = true → monitorAllowed s) →
    (s.pins.edbgrq = true ∨ bitAt s.ice.control 1 = true) →
    ∃ t, step s = .next t ∧ t.dbg.active = true ∧ t.ice.moe = (if s.pins.edbgrq then 0b1010#4 else 0b1001#4) ∧
      t.regs = s.regs ∧ t.cpsr = s.cpsr ∧ t.mem = s.mem

/-- The pc in debug state: after entry at the instruction N, a branch of -5 addresses scanned in first, or of -7 after
two one-address instructions, leads back to N. -/
def Sys2Proof.Claims.debugReturnOffset : Prop :=
  ∀ (s : State) (moe : BitVec 4) (t : State), s.thumb = false → s.pcAligned →
    t = s.enterDebug moe →
    (∃ u, exec (.b ⟨.al, 0xFFFFFB#24⟩) t = .next u ∧ u.pc = s.pc) ∧
    (∃ v, exec (.b ⟨.al, 0xFFFFF9#24⟩) t.advance.advance = .next v ∧ v.pc = s.pc)

/-- Debug state: entry on a debug request in either mode, and the branch offset that leads back. -/
def Obligations.DebugEntry : Prop :=
  Claims.debugRequest ∧ Claims.debugReturnOffset
end

