-- ==== Sys2Proof/Laws/Align.lean ====
section
/-! SUPPORT. What clearing the low address bits does, as shifts and over the naturals. -/

namespace Sys2Proof.Laws

open Sys2Proof.Machine

theorem align4_shift (y : Word) : align4 y = (y >>> 2) <<< 2 := by
  unfold align4
  apply BitVec.eq_of_getLsbD_eq
  intro i hi
  rw [BitVec.getLsbD_and, BitVec.getLsbD_shiftLeft, BitVec.getLsbD_ushiftRight]
  by_cases h : i < 2
  · have : (0xFFFFFFFC#32).getLsbD i = false := by
      have : i = 0 ∨ i = 1 := by omega
      rcases this with rfl | rfl <;> decide
    simp [this, h]
  · have : (0xFFFFFFFC#32).getLsbD i = true := by
      have h2 : ∀ j : Fin 32, 2 ≤ j.val → (0xFFFFFFFC#32).getLsbD j.val = true := by decide
      exact h2 ⟨i, hi⟩ (by simp; omega)
    have h3 : 2 + (i - 2) = i := by omega
    simp [this, h, hi, h3]
theorem align2_shift (y : Word) : align2 y = (y >>> 1) <<< 1 := by
  unfold align2
  apply BitVec.eq_of_getLsbD_eq
  intro i hi
  rw [BitVec.getLsbD_and, BitVec.getLsbD_shiftLeft, BitVec.getLsbD_ushiftRight]
  by_cases h : i < 1
  · have : i = 0 := by omega
    subst this; simp
  · have : (0xFFFFFFFE#32).getLsbD i = true := by
      have h2 : ∀ j : Fin 32, 1 ≤ j.val → (0xFFFFFFFE#32).getLsbD j.val = true := by decide
      exact h2 ⟨i, hi⟩ (by simp; omega)
    have h3 : 1 + (i - 1) = i := by omega
    simp [this, h, hi, h3]
theorem align4_toNat (y : Word) : (align4 y).toNat = y.toNat / 4 * 4 := by
  rw [align4_shift, BitVec.toNat_shiftLeft, BitVec.toNat_ushiftRight, Nat.shiftRight_eq_div_pow, Nat.shiftLeft_eq]
  have := y.isLt; omega
theorem align2_toNat (y : Word) : (align2 y).toNat = y.toNat / 2 * 2 := by
  rw [align2_shift, BitVec.toNat_shiftLeft, BitVec.toNat_ushiftRight, Nat.shiftRight_eq_div_pow, Nat.shiftLeft_eq]
  have := y.isLt; omega
theorem align4_eq_iff (y : Word) : align4 y = y ↔ y.toNat % 4 = 0 := by
  rw [← BitVec.toNat_inj, align4_toNat]; omega
theorem align2_eq_iff (y : Word) : align2 y = y ↔ y.toNat % 2 = 0 := by
  rw [← BitVec.toNat_inj, align2_toNat]; omega

end Sys2Proof.Laws
end

