-- ==== Sys2Proof/Laws/State.lean ====
section
/-! SUPPORT. One lemma per field for every shared update: what it leaves alone, and what the plain ones write. -/

namespace Sys2Proof.Machine

/-! ### advance -/

@[simp] theorem State.advance_regs (s : State) : (s.advance).regs = s.regs := rfl
@[simp] theorem State.advance_cpsr (s : State) : (s.advance).cpsr = s.cpsr := rfl
@[simp] theorem State.advance_spsrFiq (s : State) : (s.advance).spsrFiq = s.spsrFiq := rfl
@[simp] theorem State.advance_spsrSvc (s : State) : (s.advance).spsrSvc = s.spsrSvc := rfl
@[simp] theorem State.advance_spsrAbt (s : State) : (s.advance).spsrAbt = s.spsrAbt := rfl
@[simp] theorem State.advance_spsrIrq (s : State) : (s.advance).spsrIrq = s.spsrIrq := rfl
@[simp] theorem State.advance_spsrUnd (s : State) : (s.advance).spsrUnd = s.spsrUnd := rfl
@[simp] theorem State.advance_mem (s : State) : (s.advance).mem = s.mem := rfl
@[simp] theorem State.advance_imem (s : State) : (s.advance).imem = s.imem := rfl
@[simp] theorem State.advance_fetchQ (s : State) : (s.advance).fetchQ = s.fetchQ := rfl
@[simp] theorem State.advance_fiqReg (s : State) : (s.advance).fiqReg = s.fiqReg := rfl
@[simp] theorem State.advance_irqReg (s : State) : (s.advance).irqReg = s.irqReg := rfl
@[simp] theorem State.advance_resetReg (s : State) : (s.advance).resetReg = s.resetReg := rfl
@[simp] theorem State.advance_bankHazard (s : State) : (s.advance).bankHazard = s.bankHazard := rfl
@[simp] theorem State.advance_bus (s : State) : (s.advance).bus = s.bus := rfl
@[simp] theorem State.advance_ibus (s : State) : (s.advance).ibus = s.ibus := rfl
@[simp] theorem State.advance_cfg (s : State) : (s.advance).cfg = s.cfg := rfl
@[simp] theorem State.advance_pins (s : State) : (s.advance).pins = s.pins := rfl
@[simp] theorem State.advance_pinStream (s : State) : (s.advance).pinStream = s.pinStream := rfl
@[simp] theorem State.advance_cpScript (s : State) : (s.advance).cpScript = s.cpScript := rfl
@[simp] theorem State.advance_cpEvents (s : State) : (s.advance).cpEvents = s.cpEvents := rfl
@[simp] theorem State.advance_ice (s : State) : (s.advance).ice = s.ice := rfl
@[simp] theorem State.advance_tap (s : State) : (s.advance).tap = s.tap := rfl
@[simp] theorem State.advance_dbg (s : State) : (s.advance).dbg = s.dbg := rfl
@[simp] theorem State.advance_freeIx (s : State) : (s.advance).freeIx = s.freeIx := rfl

/-! ### setBankReg -/

@[simp] theorem State.setBankReg_pc (s : State) (m : Mode) (n : Reg) (v : Word) : (s.setBankReg m n v).pc = s.pc := rfl
@[simp] theorem State.setBankReg_cpsr (s : State) (m : Mode) (n : Reg) (v : Word) : (s.setBankReg m n v).cpsr = s.cpsr := rfl
@[simp] theorem State.setBankReg_spsrFiq (s : State) (m : Mode) (n : Reg) (v : Word) : (s.setBankReg m n v).spsrFiq = s.spsrFiq := rfl
@[simp] theorem State.setBankReg_spsrSvc (s : State) (m : Mode) (n : Reg) (v : Word) : (s.setBankReg m n v).spsrSvc = s.spsrSvc := rfl
@[simp] theorem State.setBankReg_spsrAbt (s : State) (m : Mode) (n : Reg) (v : Word) : (s.setBankReg m n v).spsrAbt = s.spsrAbt := rfl
@[simp] theorem State.setBankReg_spsrIrq (s : State) (m : Mode) (n : Reg) (v : Word) : (s.setBankReg m n v).spsrIrq = s.spsrIrq := rfl
@[simp] theorem State.setBankReg_spsrUnd (s : State) (m : Mode) (n : Reg) (v : Word) : (s.setBankReg m n v).spsrUnd = s.spsrUnd := rfl
@[simp] theorem State.setBankReg_mem (s : State) (m : Mode) (n : Reg) (v : Word) : (s.setBankReg m n v).mem = s.mem := rfl
@[simp] theorem State.setBankReg_imem (s : State) (m : Mode) (n : Reg) (v : Word) : (s.setBankReg m n v).imem = s.imem := rfl
@[simp] theorem State.setBankReg_fetchQ (s : State) (m : Mode) (n : Reg) (v : Word) : (s.setBankReg m n v).fetchQ = s.fetchQ := rfl
@[simp] theorem State.setBankReg_fiqReg (s : State) (m : Mode) (n : Reg) (v : Word) : (s.setBankReg m n v).fiqReg = s.fiqReg := rfl
@[simp] theorem State.setBankReg_irqReg (s : State) (m : Mode) (n : Reg) (v : Word) : (s.setBankReg m n v).irqReg = s.irqReg := rfl
@[simp] theorem State.setBankReg_resetReg (s : State) (m : Mode) (n : Reg) (v : Word) : (s.setBankReg m n v).resetReg = s.resetReg := rfl
@[simp] theorem State.setBankReg_bankHazard (s : State) (m : Mode) (n : Reg) (v : Word) : (s.setBankReg m n v).bankHazard = s.bankHazard := rfl
@[simp] theorem State.setBankReg_bus (s : State) (m : Mode) (n : Reg) (v : Word) : (s.setBankReg m n v).bus = s.bus := rfl
@[simp] theorem State.setBankReg_ibus (s : State) (m : Mode) (n : Reg) (v : Word) : (s.setBankReg m n v).ibus = s.ibus := rfl
@[simp] theorem State.setBankReg_cfg (s : State) (m : Mode) (n : Reg) (v : Word) : (s.setBankReg m n v).cfg = s.cfg := rfl
@[simp] theorem State.setBankReg_pins (s : State) (m : Mode) (n : Reg) (v : Word) : (s.setBankReg m n v).pins = s.pins := rfl
@[simp] theorem State.setBankReg_pinStream (s : State) (m : Mode) (n : Reg) (v : Word) : (s.setBankReg m n v).pinStream = s.pinStream := rfl
@[simp] theorem State.setBankReg_cpScript (s : State) (m : Mode) (n : Reg) (v : Word) : (s.setBankReg m n v).cpScript = s.cpScript := rfl
@[simp] theorem State.setBankReg_cpEvents (s : State) (m : Mode) (n : Reg) (v : Word) : (s.setBankReg m n v).cpEvents = s.cpEvents := rfl
@[simp] theorem State.setBankReg_ice (s : State) (m : Mode) (n : Reg) (v : Word) : (s.setBankReg m n v).ice = s.ice := rfl
@[simp] theorem State.setBankReg_tap (s : State) (m : Mode) (n : Reg) (v : Word) : (s.setBankReg m n v).tap = s.tap := rfl
@[simp] theorem State.setBankReg_dbg (s : State) (m : Mode) (n : Reg) (v : Word) : (s.setBankReg m n v).dbg = s.dbg := rfl
@[simp] theorem State.setBankReg_freeIx (s : State) (m : Mode) (n : Reg) (v : Word) : (s.setBankReg m n v).freeIx = s.freeIx := rfl

/-! ### setReg -/

@[simp] theorem State.setReg_pc (s : State) (n : Reg) (v : Word) : (s.setReg n v).pc = s.pc := by unfold State.setReg; split <;> rfl
@[simp] theorem State.setReg_cpsr (s : State) (n : Reg) (v : Word) : (s.setReg n v).cpsr = s.cpsr := by unfold State.setReg; split <;> rfl
@[simp] theorem State.setReg_spsrFiq (s : State) (n : Reg) (v : Word) : (s.setReg n v).spsrFiq = s.spsrFiq := by unfold State.setReg; split <;> rfl
@[simp] theorem State.setReg_spsrSvc (s : State) (n : Reg) (v : Word) : (s.setReg n v).spsrSvc = s.spsrSvc := by unfold State.setReg; split <;> rfl
@[simp] theorem State.setReg_spsrAbt (s : State) (n : Reg) (v : Word) : (s.setReg n v).spsrAbt = s.spsrAbt := by unfold State.setReg; split <;> rfl
@[simp] theorem State.setReg_spsrIrq (s : State) (n : Reg) (v : Word) : (s.setReg n v).spsrIrq = s.spsrIrq := by unfold State.setReg; split <;> rfl
@[simp] theorem State.setReg_spsrUnd (s : State) (n : Reg) (v : Word) : (s.setReg n v).spsrUnd = s.spsrUnd := by unfold State.setReg; split <;> rfl
@[simp] theorem State.setReg_mem (s : State) (n : Reg) (v : Word) : (s.setReg n v).mem = s.mem := by unfold State.setReg; split <;> rfl
@[simp] theorem State.setReg_imem (s : State) (n : Reg) (v : Word) : (s.setReg n v).imem = s.imem := by unfold State.setReg; split <;> rfl
@[simp] theorem State.setReg_fetchQ (s : State) (n : Reg) (v : Word) : (s.setReg n v).fetchQ = s.fetchQ := by unfold State.setReg; split <;> rfl
@[simp] theorem State.setReg_fiqReg (s : State) (n : Reg) (v : Word) : (s.setReg n v).fiqReg = s.fiqReg := by unfold State.setReg; split <;> rfl
@[simp] theorem State.setReg_irqReg (s : State) (n : Reg) (v : Word) : (s.setReg n v).irqReg = s.irqReg := by unfold State.setReg; split <;> rfl
@[simp] theorem State.setReg_resetReg (s : State) (n : Reg) (v : Word) : (s.setReg n v).resetReg = s.resetReg := by unfold State.setReg; split <;> rfl
@[simp] theorem State.setReg_bankHazard (s : State) (n : Reg) (v : Word) : (s.setReg n v).bankHazard = s.bankHazard := by unfold State.setReg; split <;> rfl
@[simp] theorem State.setReg_bus (s : State) (n : Reg) (v : Word) : (s.setReg n v).bus = s.bus := by unfold State.setReg; split <;> rfl
@[simp] theorem State.setReg_ibus (s : State) (n : Reg) (v : Word) : (s.setReg n v).ibus = s.ibus := by unfold State.setReg; split <;> rfl
@[simp] theorem State.setReg_cfg (s : State) (n : Reg) (v : Word) : (s.setReg n v).cfg = s.cfg := by unfold State.setReg; split <;> rfl
@[simp] theorem State.setReg_pins (s : State) (n : Reg) (v : Word) : (s.setReg n v).pins = s.pins := by unfold State.setReg; split <;> rfl
@[simp] theorem State.setReg_pinStream (s : State) (n : Reg) (v : Word) : (s.setReg n v).pinStream = s.pinStream := by unfold State.setReg; split <;> rfl
@[simp] theorem State.setReg_cpScript (s : State) (n : Reg) (v : Word) : (s.setReg n v).cpScript = s.cpScript := by unfold State.setReg; split <;> rfl
@[simp] theorem State.setReg_cpEvents (s : State) (n : Reg) (v : Word) : (s.setReg n v).cpEvents = s.cpEvents := by unfold State.setReg; split <;> rfl
@[simp] theorem State.setReg_ice (s : State) (n : Reg) (v : Word) : (s.setReg n v).ice = s.ice := by unfold State.setReg; split <;> rfl
@[simp] theorem State.setReg_tap (s : State) (n : Reg) (v : Word) : (s.setReg n v).tap = s.tap := by unfold State.setReg; split <;> rfl
@[simp] theorem State.setReg_dbg (s : State) (n : Reg) (v : Word) : (s.setReg n v).dbg = s.dbg := by unfold State.setReg; split <;> rfl
@[simp] theorem State.setReg_freeIx (s : State) (n : Reg) (v : Word) : (s.setReg n v).freeIx = s.freeIx := by unfold State.setReg; split <;> rfl

/-! ### setCpsr -/

@[simp] theorem State.setCpsr_regs (s : State) (v : Word) : (s.setCpsr v).regs = s.regs := rfl
@[simp] theorem State.setCpsr_pc (s : State) (v : Word) : (s.setCpsr v).pc = s.pc := rfl
@[simp] theorem State.setCpsr_spsrFiq (s : State) (v : Word) : (s.setCpsr v).spsrFiq = s.spsrFiq := rfl
@[simp] theorem State.setCpsr_spsrSvc (s : State) (v : Word) : (s.setCpsr v).spsrSvc = s.spsrSvc := rfl
@[simp] theorem State.setCpsr_spsrAbt (s : State) (v : Word) : (s.setCpsr v).spsrAbt = s.spsrAbt := rfl
@[simp] theorem State.setCpsr_spsrIrq (s : State) (v : Word) : (s.setCpsr v).spsrIrq = s.spsrIrq := rfl
@[simp] theorem State.setCpsr_spsrUnd (s : State) (v : Word) : (s.setCpsr v).spsrUnd = s.spsrUnd := rfl
@[simp] theorem State.setCpsr_mem (s : State) (v : Word) : (s.setCpsr v).mem = s.mem := rfl
@[simp] theorem State.setCpsr_imem (s : State) (v : Word) : (s.setCpsr v).imem = s.imem := rfl
@[simp] theorem State.setCpsr_fetchQ (s : State) (v : Word) : (s.setCpsr v).fetchQ = s.fetchQ := rfl
@[simp] theorem State.setCpsr_fiqReg (s : State) (v : Word) : (s.setCpsr v).fiqReg = s.fiqReg := rfl
@[simp] theorem State.setCpsr_irqReg (s : State) (v : Word) : (s.setCpsr v).irqReg = s.irqReg := rfl
@[simp] theorem State.setCpsr_resetReg (s : State) (v : Word) : (s.setCpsr v).resetReg = s.resetReg := rfl
@[simp] theorem State.setCpsr_bankHazard (s : State) (v : Word) : (s.setCpsr v).bankHazard = s.bankHazard := rfl
@[simp] theorem State.setCpsr_bus (s : State) (v : Word) : (s.setCpsr v).bus = s.bus := rfl
@[simp] theorem State.setCpsr_ibus (s : State) (v : Word) : (s.setCpsr v).ibus = s.ibus := rfl
@[simp] theorem State.setCpsr_cfg (s : State) (v : Word) : (s.setCpsr v).cfg = s.cfg := rfl
@[simp] theorem State.setCpsr_pins (s : State) (v : Word) : (s.setCpsr v).pins = s.pins := rfl
@[simp] theorem State.setCpsr_pinStream (s : State) (v : Word) : (s.setCpsr v).pinStream = s.pinStream := rfl
@[simp] theorem State.setCpsr_cpScript (s : State) (v : Word) : (s.setCpsr v).cpScript = s.cpScript := rfl
@[simp] theorem State.setCpsr_cpEvents (s : State) (v : Word) : (s.setCpsr v).cpEvents = s.cpEvents := rfl
@[simp] theorem State.setCpsr_ice (s : State) (v : Word) : (s.setCpsr v).ice = s.ice := rfl
@[simp] theorem State.setCpsr_tap (s : State) (v : Word) : (s.setCpsr v).tap = s.tap := rfl
@[simp] theorem State.setCpsr_dbg (s : State) (v : Word) : (s.setCpsr v).dbg = s.dbg := rfl
@[simp] theorem State.setCpsr_freeIx (s : State) (v : Word) : (s.setCpsr v).freeIx = s.freeIx := rfl

/-! ### setSpsrOf -/

@[simp] theorem State.setSpsrOf_regs (s : State) (m : Mode) (v : Word) : (s.setSpsrOf m v).regs = s.regs := by cases m <;> rfl
@[simp] theorem State.setSpsrOf_pc (s : State) (m : Mode) (v : Word) : (s.setSpsrOf m v).pc = s.pc := by cases m <;> rfl
@[simp] theorem State.setSpsrOf_cpsr (s : State) (m : Mode) (v : Word) : (s.setSpsrOf m v).cpsr = s.cpsr := by cases m <;> rfl
@[simp] theorem State.setSpsrOf_mem (s : State) (m : Mode) (v : Word) : (s.setSpsrOf m v).mem = s.mem := by cases m <;> rfl
@[simp] theorem State.setSpsrOf_imem (s : State) (m : Mode) (v : Word) : (s.setSpsrOf m v).imem = s.imem := by cases m <;> rfl
@[simp] theorem State.setSpsrOf_fetchQ (s : State) (m : Mode) (v : Word) : (s.setSpsrOf m v).fetchQ = s.fetchQ := by cases m <;> rfl
@[simp] theorem State.setSpsrOf_fiqReg (s : State) (m : Mode) (v : Word) : (s.setSpsrOf m v).fiqReg = s.fiqReg := by cases m <;> rfl
@[simp] theorem State.setSpsrOf_irqReg (s : State) (m : Mode) (v : Word) : (s.setSpsrOf m v).irqReg = s.irqReg := by cases m <;> rfl
@[simp] theorem State.setSpsrOf_resetReg (s : State) (m : Mode) (v : Word) : (s.setSpsrOf m v).resetReg = s.resetReg := by cases m <;> rfl
@[simp] theorem State.setSpsrOf_bankHazard (s : State) (m : Mode) (v : Word) : (s.setSpsrOf m v).bankHazard = s.bankHazard := by cases m <;> rfl
@[simp] theorem State.setSpsrOf_bus (s : State) (m : Mode) (v : Word) : (s.setSpsrOf m v).bus = s.bus := by cases m <;> rfl
@[simp] theorem State.setSpsrOf_ibus (s : State) (m : Mode) (v : Word) : (s.setSpsrOf m v).ibus = s.ibus := by cases m <;> rfl
@[simp] theorem State.setSpsrOf_cfg (s : State) (m : Mode) (v : Word) : (s.setSpsrOf m v).cfg = s.cfg := by cases m <;> rfl
@[simp] theorem State.setSpsrOf_pins (s : State) (m : Mode) (v : Word) : (s.setSpsrOf m v).pins = s.pins := by cases m <;> rfl
@[simp] theorem State.setSpsrOf_pinStream (s : State) (m : Mode) (v : Word) : (s.setSpsrOf m v).pinStream = s.pinStream := by cases m <;> rfl
@[simp] theorem State.setSpsrOf_cpScript (s : State) (m : Mode) (v : Word) : (s.setSpsrOf m v).cpScript = s.cpScript := by cases m <;> rfl
@[simp] theorem State.setSpsrOf_cpEvents (s : State) (m : Mode) (v : Word) : (s.setSpsrOf m v).cpEvents = s.cpEvents := by cases m <;> rfl
@[simp] theorem State.setSpsrOf_ice (s : State) (m : Mode) (v : Word) : (s.setSpsrOf m v).ice = s.ice := by cases m <;> rfl
@[simp] theorem State.setSpsrOf_tap (s : State) (m : Mode) (v : Word) : (s.setSpsrOf m v).tap = s.tap := by cases m <;> rfl
@[simp] theorem State.setSpsrOf_dbg (s : State) (m : Mode) (v : Word) : (s.setSpsrOf m v).dbg = s.dbg := by cases m <;> rfl
@[simp] theorem State.setSpsrOf_freeIx (s : State) (m : Mode) (v : Word) : (s.setSpsrOf m v).freeIx = s.freeIx := by cases m <;> rfl

/-! ### branchTo -/

@[simp] theorem State.branchTo_regs (s : State) (a : Word) : (s.branchTo a).regs = s.regs := rfl
@[simp] theorem State.branchTo_cpsr (s : State) (a : Word) : (s.branchTo a).cpsr = s.cpsr := rfl
@[simp] theorem State.branchTo_spsrFiq (s : State) (a : Word) : (s.branchTo a).spsrFiq = s.spsrFiq := rfl
@[simp] theorem State.branchTo_spsrSvc (s : State) (a : Word) : (s.branchTo a).spsrSvc = s.spsrSvc := rfl
@[simp] theorem State.branchTo_spsrAbt (s : State) (a : Word) : (s.branchTo a).spsrAbt = s.spsrAbt := rfl
@[simp] theorem State.branchTo_spsrIrq (s : State) (a : Word) : (s.branchTo a).spsrIrq = s.spsrIrq := rfl
@[simp] theorem State.branchTo_spsrUnd (s : State) (a : Word) : (s.branchTo a).spsrUnd = s.spsrUnd := rfl
@[simp] theorem State.branchTo_mem (s : State) (a : Word) : (s.branchTo a).mem = s.mem := rfl
@[simp] theorem State.branchTo_imem (s : State) (a : Word) : (s.branchTo a).imem = s.imem := rfl
@[simp] theorem State.branchTo_fiqReg (s : State) (a : Word) : (s.branchTo a).fiqReg = s.fiqReg := rfl
@[simp] theorem State.branchTo_irqReg (s : State) (a : Word) : (s.branchTo a).irqReg = s.irqReg := rfl
@[simp] theorem State.branchTo_resetReg (s : State) (a : Word) : (s.branchTo a).resetReg = s.resetReg := rfl
@[simp] theorem State.branchTo_bankHazard (s : State) (a : Word) : (s.branchTo a).bankHazard = s.bankHazard := rfl
@[simp] theorem State.branchTo_bus (s : State) (a : Word) : (s.branchTo a).bus = s.bus := rfl
@[simp] theorem State.branchTo_ibus (s : State) (a : Word) : (s.branchTo a).ibus = s.ibus := rfl
@[simp] theorem State.branchTo_cfg (s : State) (a : Word) : (s.branchTo a).cfg = s.cfg := rfl
@[simp] theorem State.branchTo_pins (s : State) (a : Word) : (s.branchTo a).pins = s.pins := rfl
@[simp] theorem State.branchTo_pinStream (s : State) (a : Word) : (s.branchTo a).pinStream = s.pinStream := rfl
@[simp] theorem State.branchTo_cpScript (s : State) (a : Word) : (s.branchTo a).cpScript = s.cpScript := rfl
@[simp] theorem State.branchTo_cpEvents (s : State) (a : Word) : (s.branchTo a).cpEvents = s.cpEvents := rfl
@[simp] theorem State.branchTo_ice (s : State) (a : Word) : (s.branchTo a).ice = s.ice := rfl
@[simp] theorem State.branchTo_tap (s : State) (a : Word) : (s.branchTo a).tap = s.tap := rfl
@[simp] theorem State.branchTo_dbg (s : State) (a : Word) : (s.branchTo a).dbg = s.dbg := rfl
@[simp] theorem State.branchTo_freeIx (s : State) (a : Word) : (s.branchTo a).freeIx = s.freeIx := rfl

/-! ### writePc -/

@[simp] theorem State.writePc_regs (s : State) (a : Word) : (s.writePc a).regs = s.regs := rfl
@[simp] theorem State.writePc_cpsr (s : State) (a : Word) : (s.writePc a).cpsr = s.cpsr := rfl
@[simp] theorem State.writePc_spsrFiq (s : State) (a : Word) : (s.writePc a).spsrFiq = s.spsrFiq := rfl
@[simp] theorem State.writePc_spsrSvc (s : State) (a : Word) : (s.writePc a).spsrSvc = s.spsrSvc := rfl
@[simp] theorem State.writePc_spsrAbt (s : State) (a : Word) : (s.writePc a).spsrAbt = s.spsrAbt := rfl
@[simp] theorem State.writePc_spsrIrq (s : State) (a : Word) : (s.writePc a).spsrIrq = s.spsrIrq := rfl
@[simp] theorem State.writePc_spsrUnd (s : State) (a : Word) : (s.writePc a).spsrUnd = s.spsrUnd := rfl
@[simp] theorem State.writePc_mem (s : State) (a : Word) : (s.writePc a).mem = s.mem := rfl
@[simp] theorem State.writePc_imem (s : State) (a : Word) : (s.writePc a).imem = s.imem := rfl
@[simp] theorem State.writePc_fiqReg (s : State) (a : Word) : (s.writePc a).fiqReg = s.fiqReg := rfl
@[simp] theorem State.writePc_irqReg (s : State) (a : Word) : (s.writePc a).irqReg = s.irqReg := rfl
@[simp] theorem State.writePc_resetReg (s : State) (a : Word) : (s.writePc a).resetReg = s.resetReg := rfl
@[simp] theorem State.writePc_bankHazard (s : State) (a : Word) : (s.writePc a).bankHazard = s.bankHazard := rfl
@[simp] theorem State.writePc_bus (s : State) (a : Word) : (s.writePc a).bus = s.bus := rfl
@[simp] theorem State.writePc_ibus (s : State) (a : Word) : (s.writePc a).ibus = s.ibus := rfl
@[simp] theorem State.writePc_cfg (s : State) (a : Word) : (s.writePc a).cfg = s.cfg := rfl
@[simp] theorem State.writePc_pins (s : State) (a : Word) : (s.writePc a).pins = s.pins := rfl
@[simp] theorem State.writePc_pinStream (s : State) (a : Word) : (s.writePc a).pinStream = s.pinStream := rfl
@[simp] theorem State.writePc_cpScript (s : State) (a : Word) : (s.writePc a).cpScript = s.cpScript := rfl
@[simp] theorem State.writePc_cpEvents (s : State) (a : Word) : (s.writePc a).cpEvents = s.cpEvents := rfl
@[simp] theorem State.writePc_ice (s : State) (a : Word) : (s.writePc a).ice = s.ice := rfl
@[simp] theorem State.writePc_tap (s : State) (a : Word) : (s.writePc a).tap = s.tap := rfl
@[simp] theorem State.writePc_dbg (s : State) (a : Word) : (s.writePc a).dbg = s.dbg := rfl
@[simp] theorem State.writePc_freeIx (s : State) (a : Word) : (s.writePc a).freeIx = s.freeIx := rfl

/-! ### branchExchange -/

@[simp] theorem State.branchExchange_regs (s : State) (a : Word) : (s.branchExchange a).regs = s.regs := rfl
@[simp] theorem State.branchExchange_spsrFiq (s : State) (a : Word) : (s.branchExchange a).spsrFiq = s.spsrFiq := rfl
@[simp] theorem State.branchExchange_spsrSvc (s : State) (a : Word) : (s.branchExchange a).spsrSvc = s.spsrSvc := rfl
@[simp] theorem State.branchExchange_spsrAbt (s : State) (a : Word) : (s.branchExchange a).spsrAbt = s.spsrAbt := rfl
@[simp] theorem State.branchExchange_spsrIrq (s : State) (a : Word) : (s.branchExchange a).spsrIrq = s.spsrIrq := rfl
@[simp] theorem State.branchExchange_spsrUnd (s : State) (a : Word) : (s.branchExchange a).spsrUnd = s.spsrUnd := rfl
@[simp] theorem State.branchExchange_mem (s : State) (a : Word) : (s.branchExchange a).mem = s.mem := rfl
@[simp] theorem State.branchExchange_imem (s : State) (a : Word) : (s.branchExchange a).imem = s.imem := rfl
@[simp] theorem State.branchExchange_fiqReg (s : State) (a : Word) : (s.branchExchange a).fiqReg = s.fiqReg := rfl
@[simp] theorem State.branchExchange_irqReg (s : State) (a : Word) : (s.branchExchange a).irqReg = s.irqReg := rfl
@[simp] theorem State.branchExchange_resetReg (s : State) (a : Word) : (s.branchExchange a).resetReg = s.resetReg := rfl
@[simp] theorem State.branchExchange_bankHazard (s : State) (a : Word) : (s.branchExchange a).bankHazard = s.bankHazard := rfl
@[simp] theorem State.branchExchange_bus (s : State) (a : Word) : (s.branchExchange a).bus = s.bus := rfl
@[simp] theorem State.branchExchange_ibus (s : State) (a : Word) : (s.branchExchange a).ibus = s.ibus := rfl
@[simp] theorem State.branchExchange_cfg (s : State) (a : Word) : (s.branchExchange a).cfg = s.cfg := rfl
@[simp] theorem State.branchExchange_pins (s : State) (a : Word) : (s.branchExchange a).pins = s.pins := rfl
@[simp] theorem State.branchExchange_pinStream (s : State) (a : Word) : (s.branchExchange a).pinStream = s.pinStream := rfl
@[simp] theorem State.branchExchange_cpScript (s : State) (a : Word) : (s.branchExchange a).cpScript = s.cpScript := rfl
@[simp] theorem State.branchExchange_cpEvents (s : State) (a : Word) : (s.branchExchange a).cpEvents = s.cpEvents := rfl
@[simp] theorem State.branchExchange_ice (s : State) (a : Word) : (s.branchExchange a).ice = s.ice := rfl
@[simp] theorem State.branchExchange_tap (s : State) (a : Word) : (s.branchExchange a).tap = s.tap := rfl
@[simp] theorem State.branchExchange_dbg (s : State) (a : Word) : (s.branchExchange a).dbg = s.dbg := rfl
@[simp] theorem State.branchExchange_freeIx (s : State) (a : Word) : (s.branchExchange a).freeIx = s.freeIx := rfl

/-! ### loadPc -/

@[simp] theorem State.loadPc_regs (s : State) (a : Word) : (s.loadPc a).regs = s.regs := by unfold State.loadPc; split <;> rfl
@[simp] theorem State.loadPc_spsrFiq (s : State) (a : Word) : (s.loadPc a).spsrFiq = s.spsrFiq := by unfold State.loadPc; split <;> rfl
@[simp] theorem State.loadPc_spsrSvc (s : State) (a : Word) : (s.loadPc a).spsrSvc = s.spsrSvc := by unfold State.loadPc; split <;> rfl
@[simp] theorem State.loadPc_spsrAbt (s : State) (a : Word) : (s.loadPc a).spsrAbt = s.spsrAbt := by unfold State.loadPc; split <;> rfl
@[simp] theorem State.loadPc_spsrIrq (s : State) (a : Word) : (s.loadPc a).spsrIrq = s.spsrIrq := by unfold State.loadPc; split <;> rfl
@[simp] theorem State.loadPc_spsrUnd (s : State) (a : Word) : (s.loadPc a).spsrUnd = s.spsrUnd := by unfold State.loadPc; split <;> rfl
@[simp] theorem State.loadPc_mem (s : State) (a : Word) : (s.loadPc a).mem = s.mem := by unfold State.loadPc; split <;> rfl
@[simp] theorem State.loadPc_imem (s : State) (a : Word) : (s.loadPc a).imem = s.imem := by unfold State.loadPc; split <;> rfl
@[simp] theorem State.loadPc_fiqReg (s : State) (a : Word) : (s.loadPc a).fiqReg = s.fiqReg := by unfold State.loadPc; split <;> rfl
@[simp] theorem State.loadPc_irqReg (s : State) (a : Word) : (s.loadPc a).irqReg = s.irqReg := by unfold State.loadPc; split <;> rfl
@[simp] theorem State.loadPc_resetReg (s : State) (a : Word) : (s.loadPc a).resetReg = s.resetReg := by unfold State.loadPc; split <;> rfl
@[simp] theorem State.loadPc_bankHazard (s : State) (a : Word) : (s.loadPc a).bankHazard = s.bankHazard := by unfold State.loadPc; split <;> rfl
@[simp] theorem State.loadPc_bus (s : State) (a : Word) : (s.loadPc a).bus = s.bus := by unfold State.loadPc; split <;> rfl
@[simp] theorem State.loadPc_ibus (s : State) (a : Word) : (s.loadPc a).ibus = s.ibus := by unfold State.loadPc; split <;> rfl
@[simp] theorem State.loadPc_cfg (s : State) (a : Word) : (s.loadPc a).cfg = s.cfg := by unfold State.loadPc; split <;> rfl
@[simp] theorem State.loadPc_pins (s : State) (a : Word) : (s.loadPc a).pins = s.pins := by unfold State.loadPc; split <;> rfl
@[simp] theorem State.loadPc_pinStream (s : State) (a : Word) : (s.loadPc a).pinStream = s.pinStream := by unfold State.loadPc; split <;> rfl
@[simp] theorem State.loadPc_cpScript (s : State) (a : Word) : (s.loadPc a).cpScript = s.cpScript := by unfold State.loadPc; split <;> rfl
@[simp] theorem State.loadPc_cpEvents (s : State) (a : Word) : (s.loadPc a).cpEvents = s.cpEvents := by unfold State.loadPc; split <;> rfl
@[simp] theorem State.loadPc_ice (s : State) (a : Word) : (s.loadPc a).ice = s.ice := by unfold State.loadPc; split <;> rfl
@[simp] theorem State.loadPc_tap (s : State) (a : Word) : (s.loadPc a).tap = s.tap := by unfold State.loadPc; split <;> rfl
@[simp] theorem State.loadPc_dbg (s : State) (a : Word) : (s.loadPc a).dbg = s.dbg := by unfold State.loadPc; split <;> rfl
@[simp] theorem State.loadPc_freeIx (s : State) (a : Word) : (s.loadPc a).freeIx = s.freeIx := by unfold State.loadPc; split <;> rfl

/-! ### draw -/

@[simp] theorem State.draw_regs (s : State) : (s.draw.2).regs = s.regs := rfl
@[simp] theorem State.draw_pc (s : State) : (s.draw.2).pc = s.pc := rfl
@[simp] theorem State.draw_cpsr (s : State) : (s.draw.2).cpsr = s.cpsr := rfl
@[simp] theorem State.draw_spsrFiq (s : State) : (s.draw.2).spsrFiq = s.spsrFiq := rfl
@[simp] theorem State.draw_spsrSvc (s : State) : (s.draw.2).spsrSvc = s.spsrSvc := rfl
@[simp] theorem State.draw_spsrAbt (s : State) : (s.draw.2).spsrAbt = s.spsrAbt := rfl
@[simp] theorem State.draw_spsrIrq (s : State) : (s.draw.2).spsrIrq = s.spsrIrq := rfl
@[simp] theorem State.draw_spsrUnd (s : State) : (s.draw.2).spsrUnd = s.spsrUnd := rfl
@[simp] theorem State.draw_mem (s : State) : (s.draw.2).mem = s.mem := rfl
@[simp] theorem State.draw_imem (s : State) : (s.draw.2).imem = s.imem := rfl
@[simp] theorem State.draw_fetchQ (s : State) : (s.draw.2).fetchQ = s.fetchQ := rfl
@[simp] theorem State.draw_fiqReg (s : State) : (s.draw.2).fiqReg = s.fiqReg := rfl
@[simp] theorem State.draw_irqReg (s : State) : (s.draw.2).irqReg = s.irqReg := rfl
@[simp] theorem State.draw_resetReg (s : State) : (s.draw.2).resetReg = s.resetReg := rfl
@[simp] theorem State.draw_bankHazard (s : State) : (s.draw.2).bankHazard = s.bankHazard := rfl
@[simp] theorem State.draw_bus (s : State) : (s.draw.2).bus = s.bus := rfl
@[simp] theorem State.draw_ibus (s : State) : (s.draw.2).ibus = s.ibus := rfl
@[simp] theorem State.draw_cfg (s : State) : (s.draw.2).cfg = s.cfg := rfl
@[simp] theorem State.draw_pins (s : State) : (s.draw.2).pins = s.pins := rfl
@[simp] theorem State.draw_pinStream (s : State) : (s.draw.2).pinStream = s.pinStream := rfl
@[simp] theorem State.draw_cpScript (s : State) : (s.draw.2).cpScript = s.cpScript := rfl
@[simp] theorem State.draw_cpEvents (s : State) : (s.draw.2).cpEvents = s.cpEvents := rfl
@[simp] theorem State.draw_ice (s : State) : (s.draw.2).ice = s.ice := rfl
@[simp] theorem State.draw_tap (s : State) : (s.draw.2).tap = s.tap := rfl
@[simp] theorem State.draw_dbg (s : State) : (s.draw.2).dbg = s.dbg := rfl

/-! ### takeException -/

@[simp] theorem State.takeException_mem (s : State) (k : ExcKind) (r : Word) : (s.takeException k r).mem = s.mem := by cases k <;> rfl
@[simp] theorem State.takeException_imem (s : State) (k : ExcKind) (r : Word) : (s.takeException k r).imem = s.imem := by cases k <;> rfl
@[simp] theorem State.takeException_fiqReg (s : State) (k : ExcKind) (r : Word) : (s.takeException k r).fiqReg = s.fiqReg := by cases k <;> rfl
@[simp] theorem State.takeException_irqReg (s : State) (k : ExcKind) (r : Word) : (s.takeException k r).irqReg = s.irqReg := by cases k <;> rfl
@[simp] theorem State.takeException_resetReg (s : State) (k : ExcKind) (r : Word) : (s.takeException k r).resetReg = s.resetReg := by cases k <;> rfl
@[simp] theorem State.takeException_bus (s : State) (k : ExcKind) (r : Word) : (s.takeException k r).bus = s.bus := by cases k <;> rfl
@[simp] theorem State.takeException_ibus (s : State) (k : ExcKind) (r : Word) : (s.takeException k r).ibus = s.ibus := by cases k <;> rfl
@[simp] theorem State.takeException_cfg (s : State) (k : ExcKind) (r : Word) : (s.takeException k r).cfg = s.cfg := by cases k <;> rfl
@[simp] theorem State.takeException_pins (s : State) (k : ExcKind) (r : Word) : (s.takeException k r).pins = s.pins := by cases k <;> rfl
@[simp] theorem State.takeException_pinStream (s : State) (k : ExcKind) (r : Word) : (s.takeException k r).pinStream = s.pinStream := by cases k <;> rfl
@[simp] theorem State.takeException_cpScript (s : State) (k : ExcKind) (r : Word) : (s.takeException k r).cpScript = s.cpScript := by cases k <;> rfl
@[simp] theorem State.takeException_cpEvents (s : State) (k : ExcKind) (r : Word) : (s.takeException k r).cpEvents = s.cpEvents := by cases k <;> rfl
@[simp] theorem State.takeException_ice (s : State) (k : ExcKind) (r : Word) : (s.takeException k r).ice = s.ice := by cases k <;> rfl
@[simp] theorem State.takeException_tap (s : State) (k : ExcKind) (r : Word) : (s.takeException k r).tap = s.tap := by cases k <;> rfl
@[simp] theorem State.takeException_freeIx (s : State) (k : ExcKind) (r : Word) : (s.takeException k r).freeIx = s.freeIx := by cases k <;> rfl

/-! ### dataAbort -/

@[simp] theorem State.dataAbort_spsrFiq (s : State) : (s.dataAbort).spsrFiq = s.spsrFiq := by unfold State.dataAbort; split <;> rfl
@[simp] theorem State.dataAbort_spsrSvc (s : State) : (s.dataAbort).spsrSvc = s.spsrSvc := by unfold State.dataAbort; split <;> rfl
@[simp] theorem State.dataAbort_spsrIrq (s : State) : (s.dataAbort).spsrIrq = s.spsrIrq := by unfold State.dataAbort; split <;> rfl
@[simp] theorem State.dataAbort_spsrUnd (s : State) : (s.dataAbort).spsrUnd = s.spsrUnd := by unfold State.dataAbort; split <;> rfl
@[simp] theorem State.dataAbort_mem (s : State) : (s.dataAbort).mem = s.mem := by unfold State.dataAbort; split <;> rfl
@[simp] theorem State.dataAbort_imem (s : State) : (s.dataAbort).imem = s.imem := by unfold State.dataAbort; split <;> rfl
@[simp] theorem State.dataAbort_fiqReg (s : State) : (s.dataAbort).fiqReg = s.fiqReg := by unfold State.dataAbort; split <;> rfl
@[simp] theorem State.dataAbort_irqReg (s : State) : (s.dataAbort).irqReg = s.irqReg := by unfold State.dataAbort; split <;> rfl
@[simp] theorem State.dataAbort_resetReg (s : State) : (s.dataAbort).resetReg = s.resetReg := by unfold State.dataAbort; split <;> rfl
@[simp] theorem State.dataAbort_bus (s : State) : (s.dataAbort).bus = s.bus := by unfold State.dataAbort; split <;> rfl
@[simp] theorem State.dataAbort_ibus (s : State) : (s.dataAbort).ibus = s.ibus := by unfold State.dataAbort; split <;> rfl
@[simp] theorem State.dataAbort_cfg (s : State) : (s.dataAbort).cfg = s.cfg := by unfold State.dataAbort; split <;> rfl
@[simp] theorem State.dataAbort_pins (s : State) : (s.dataAbort).pins = s.pins := by unfold State.dataAbort; split <;> rfl
@[simp] theorem State.dataAbort_pinStream (s : State) : (s.dataAbort).pinStream = s.pinStream := by unfold State.dataAbort; split <;> rfl
@[simp] theorem State.dataAbort_cpScript (s : State) : (s.dataAbort).cpScript = s.cpScript := by unfold State.dataAbort; split <;> rfl
@[simp] theorem State.dataAbort_cpEvents (s : State) : (s.dataAbort).cpEvents = s.cpEvents := by unfold State.dataAbort; split <;> rfl
@[simp] theorem State.dataAbort_ice (s : State) : (s.dataAbort).ice = s.ice := by unfold State.dataAbort; split <;> rfl
@[simp] theorem State.dataAbort_tap (s : State) : (s.dataAbort).tap = s.tap := by unfold State.dataAbort; split <;> rfl
@[simp] theorem State.dataAbort_freeIx (s : State) : (s.dataAbort).freeIx = s.freeIx := by unfold State.dataAbort; split <;> rfl

/-! ### exceptionReturn -/

@[simp] theorem State.exceptionReturn_regs (s : State) (v : Word) : (s.exceptionReturn v).regs = s.regs := by unfold State.exceptionReturn; split <;> rfl
@[simp] theorem State.exceptionReturn_spsrFiq (s : State) (v : Word) : (s.exceptionReturn v).spsrFiq = s.spsrFiq := by unfold State.exceptionReturn; split <;> rfl
@[simp] theorem State.exceptionReturn_spsrSvc (s : State) (v : Word) : (s.exceptionReturn v).spsrSvc = s.spsrSvc := by unfold State.exceptionReturn; split <;> rfl
@[simp] theorem State.exceptionReturn_spsrAbt (s : State) (v : Word) : (s.exceptionReturn v).spsrAbt = s.spsrAbt := by unfold State.exceptionReturn; split <;> rfl
@[simp] theorem State.exceptionReturn_spsrIrq (s : State) (v : Word) : (s.exceptionReturn v).spsrIrq = s.spsrIrq := by unfold State.exceptionReturn; split <;> rfl
@[simp] theorem State.exceptionReturn_spsrUnd (s : State) (v : Word) : (s.exceptionReturn v).spsrUnd = s.spsrUnd := by unfold State.exceptionReturn; split <;> rfl
@[simp] theorem State.exceptionReturn_mem (s : State) (v : Word) : (s.exceptionReturn v).mem = s.mem := by unfold State.exceptionReturn; split <;> rfl
@[simp] theorem State.exceptionReturn_imem (s : State) (v : Word) : (s.exceptionReturn v).imem = s.imem := by unfold State.exceptionReturn; split <;> rfl
@[simp] theorem State.exceptionReturn_fiqReg (s : State) (v : Word) : (s.exceptionReturn v).fiqReg = s.fiqReg := by unfold State.exceptionReturn; split <;> rfl
@[simp] theorem State.exceptionReturn_irqReg (s : State) (v : Word) : (s.exceptionReturn v).irqReg = s.irqReg := by unfold State.exceptionReturn; split <;> rfl
@[simp] theorem State.exceptionReturn_resetReg (s : State) (v : Word) : (s.exceptionReturn v).resetReg = s.resetReg := by unfold State.exceptionReturn; split <;> rfl
@[simp] theorem State.exceptionReturn_bankHazard (s : State) (v : Word) : (s.exceptionReturn v).bankHazard = s.bankHazard := by unfold State.exceptionReturn; split <;> rfl
@[simp] theorem State.exceptionReturn_bus (s : State) (v : Word) : (s.exceptionReturn v).bus = s.bus := by unfold State.exceptionReturn; split <;> rfl
@[simp] theorem State.exceptionReturn_ibus (s : State) (v : Word) : (s.exceptionReturn v).ibus = s.ibus := by unfold State.exceptionReturn; split <;> rfl
@[simp] theorem State.exceptionReturn_cfg (s : State) (v : Word) : (s.exceptionReturn v).cfg = s.cfg := by unfold State.exceptionReturn; split <;> rfl
@[simp] theorem State.exceptionReturn_pins (s : State) (v : Word) : (s.exceptionReturn v).pins = s.pins := by unfold State.exceptionReturn; split <;> rfl
@[simp] theorem State.exceptionReturn_pinStream (s : State) (v : Word) : (s.exceptionReturn v).pinStream = s.pinStream := by unfold State.exceptionReturn; split <;> rfl
@[simp] theorem State.exceptionReturn_cpScript (s : State) (v : Word) : (s.exceptionReturn v).cpScript = s.cpScript := by unfold State.exceptionReturn; split <;> rfl
@[simp] theorem State.exceptionReturn_cpEvents (s : State) (v : Word) : (s.exceptionReturn v).cpEvents = s.cpEvents := by unfold State.exceptionReturn; split <;> rfl
@[simp] theorem State.exceptionReturn_ice (s : State) (v : Word) : (s.exceptionReturn v).ice = s.ice := by unfold State.exceptionReturn; split <;> rfl
@[simp] theorem State.exceptionReturn_tap (s : State) (v : Word) : (s.exceptionReturn v).tap = s.tap := by unfold State.exceptionReturn; split <;> rfl
@[simp] theorem State.exceptionReturn_dbg (s : State) (v : Word) : (s.exceptionReturn v).dbg = s.dbg := by unfold State.exceptionReturn; split <;> rfl
@[simp] theorem State.exceptionReturn_freeIx (s : State) (v : Word) : (s.exceptionReturn v).freeIx = s.freeIx := by unfold State.exceptionReturn; split <;> rfl

/-! ### enterDebug -/

@[simp] theorem State.enterDebug_regs (s : State) (m : BitVec 4) : (s.enterDebug m).regs = s.regs := rfl
@[simp] theorem State.enterDebug_cpsr (s : State) (m : BitVec 4) : (s.enterDebug m).cpsr = s.cpsr := rfl
@[simp] theorem State.enterDebug_spsrFiq (s : State) (m : BitVec 4) : (s.enterDebug m).spsrFiq = s.spsrFiq := rfl
@[simp] theorem State.enterDebug_spsrSvc (s : State) (m : BitVec 4) : (s.enterDebug m).spsrSvc = s.spsrSvc := rfl
@[simp] theorem State.enterDebug_spsrAbt (s : State) (m : BitVec 4) : (s.enterDebug m).spsrAbt = s.spsrAbt := rfl
@[simp] theorem State.enterDebug_spsrIrq (s : State) (m : BitVec 4) : (s.enterDebug m).spsrIrq = s.spsrIrq := rfl
@[simp] theorem State.enterDebug_spsrUnd (s : State) (m : BitVec 4) : (s.enterDebug m).spsrUnd = s.spsrUnd := rfl
@[simp] theorem State.enterDebug_mem (s : State) (m : BitVec 4) : (s.enterDebug m).mem = s.mem := rfl
@[simp] theorem State.enterDebug_imem (s : State) (m : BitVec 4) : (s.enterDebug m).imem = s.imem := rfl
@[simp] theorem State.enterDebug_fiqReg (s : State) (m : BitVec 4) : (s.enterDebug m).fiqReg = s.fiqReg := rfl
@[simp] theorem State.enterDebug_irqReg (s : State) (m : BitVec 4) : (s.enterDebug m).irqReg = s.irqReg := rfl
@[simp] theorem State.enterDebug_resetReg (s : State) (m : BitVec 4) : (s.enterDebug m).resetReg = s.resetReg := rfl
@[simp] theorem State.enterDebug_bus (s : State) (m : BitVec 4) : (s.enterDebug m).bus = s.bus := rfl
@[simp] theorem State.enterDebug_ibus (s : State) (m : BitVec 4) : (s.enterDebug m).ibus = s.ibus := rfl
@[simp] theorem State.enterDebug_cfg (s : State) (m : BitVec 4) : (s.enterDebug m).cfg = s.cfg := rfl
@[simp] theorem State.enterDebug_pins (s : State) (m : BitVec 4) : (s.enterDebug m).pins = s.pins := rfl
@[simp] theorem State.enterDebug_pinStream (s : State) (m : BitVec 4) : (s.enterDebug m).pinStream = s.pinStream := rfl
@[simp] theorem State.enterDebug_cpScript (s : State) (m : BitVec 4) : (s.enterDebug m).cpScript = s.cpScript := rfl
@[simp] theorem State.enterDebug_cpEvents (s : State) (m : BitVec 4) : (s.enterDebug m).cpEvents = s.cpEvents := rfl
@[simp] theorem State.enterDebug_tap (s : State) (m : BitVec 4) : (s.enterDebug m).tap = s.tap := rfl
@[simp] theorem State.enterDebug_freeIx (s : State) (m : BitVec 4) : (s.enterDebug m).freeIx = s.freeIx := rfl

/-! ### softBreakpoint -/

@[simp] theorem State.softBreakpoint_spsrFiq (s : State) : (s.softBreakpoint).spsrFiq = s.spsrFiq := by unfold State.softBreakpoint; split <;> rfl
@[simp] theorem State.softBreakpoint_spsrSvc (s : State) : (s.softBreakpoint).spsrSvc = s.spsrSvc := by unfold State.softBreakpoint; split <;> rfl
@[simp] theorem State.softBreakpoint_spsrIrq (s : State) : (s.softBreakpoint).spsrIrq = s.spsrIrq := by unfold State.softBreakpoint; split <;> rfl
@[simp] theorem State.softBreakpoint_spsrUnd (s : State) : (s.softBreakpoint).spsrUnd = s.spsrUnd := by unfold State.softBreakpoint; split <;> rfl
@[simp] theorem State.softBreakpoint_mem (s : State) : (s.softBreakpoint).mem = s.mem := by unfold State.softBreakpoint; split <;> rfl
@[simp] theorem State.softBreakpoint_imem (s : State) : (s.softBreakpoint).imem = s.imem := by unfold State.softBreakpoint; split <;> rfl
@[simp] theorem State.softBreakpoint_fiqReg (s : State) : (s.softBreakpoint).fiqReg = s.fiqReg := by unfold State.softBreakpoint; split <;> rfl
@[simp] theorem State.softBreakpoint_irqReg (s : State) : (s.softBreakpoint).irqReg = s.irqReg := by unfold State.softBreakpoint; split <;> rfl
@[simp] theorem State.softBreakpoint_resetReg (s : State) : (s.softBreakpoint).resetReg = s.resetReg := by unfold State.softBreakpoint; split <;> rfl
@[simp] theorem State.softBreakpoint_bus (s : State) : (s.softBreakpoint).bus = s.bus := by unfold State.softBreakpoint; split <;> rfl
@[simp] theorem State.softBreakpoint_ibus (s : State) : (s.softBreakpoint).ibus = s.ibus := by unfold State.softBreakpoint; split <;> rfl
@[simp] theorem State.softBreakpoint_cfg (s : State) : (s.softBreakpoint).cfg = s.cfg := by unfold State.softBreakpoint; split <;> rfl
@[simp] theorem State.softBreakpoint_pins (s : State) : (s.softBreakpoint).pins = s.pins := by unfold State.softBreakpoint; split <;> rfl
@[simp] theorem State.softBreakpoint_pinStream (s : State) : (s.softBreakpoint).pinStream = s.pinStream := by unfold State.softBreakpoint; split <;> rfl
@[simp] theorem State.softBreakpoint_cpScript (s : State) : (s.softBreakpoint).cpScript = s.cpScript := by unfold State.softBreakpoint; split <;> rfl
@[simp] theorem State.softBreakpoint_cpEvents (s : State) : (s.softBreakpoint).cpEvents = s.cpEvents := by unfold State.softBreakpoint; split <;> rfl
@[simp] theorem State.softBreakpoint_tap (s : State) : (s.softBreakpoint).tap = s.tap := by unfold State.softBreakpoint; split <;> rfl
@[simp] theorem State.softBreakpoint_freeIx (s : State) : (s.softBreakpoint).freeIx = s.freeIx := by unfold State.softBreakpoint; split <;> rfl

/-! ### store -/

@[simp] theorem State.store_regs (s : State) (z : Size) (a v : Word) : (s.store z a v).regs = s.regs := rfl
@[simp] theorem State.store_pc (s : State) (z : Size) (a v : Word) : (s.store z a v).pc = s.pc := rfl
@[simp] theorem State.store_cpsr (s : State) (z : Size) (a v : Word) : (s.store z a v).cpsr = s.cpsr := rfl
@[simp] theorem State.store_spsrFiq (s : State) (z : Size) (a v : Word) : (s.store z a v).spsrFiq = s.spsrFiq := rfl
@[simp] theorem State.store_spsrSvc (s : State) (z : Size) (a v : Word) : (s.store z a v).spsrSvc = s.spsrSvc := rfl
@[simp] theorem State.store_spsrAbt (s : State) (z : Size) (a v : Word) : (s.store z a v).spsrAbt = s.spsrAbt := rfl
@[simp] theorem State.store_spsrIrq (s : State) (z : Size) (a v : Word) : (s.store z a v).spsrIrq = s.spsrIrq := rfl
@[simp] theorem State.store_spsrUnd (s : State) (z : Size) (a v : Word) : (s.store z a v).spsrUnd = s.spsrUnd := rfl
@[simp] theorem State.store_fetchQ (s : State) (z : Size) (a v : Word) : (s.store z a v).fetchQ = s.fetchQ := rfl
@[simp] theorem State.store_fiqReg (s : State) (z : Size) (a v : Word) : (s.store z a v).fiqReg = s.fiqReg := rfl
@[simp] theorem State.store_irqReg (s : State) (z : Size) (a v : Word) : (s.store z a v).irqReg = s.irqReg := rfl
@[simp] theorem State.store_resetReg (s : State) (z : Size) (a v : Word) : (s.store z a v).resetReg = s.resetReg := rfl
@[simp] theorem State.store_bankHazard (s : State) (z : Size) (a v : Word) : (s.store z a v).bankHazard = s.bankHazard := rfl
@[simp] theorem State.store_bus (s : State) (z : Size) (a v : Word) : (s.store z a v).bus = s.bus := rfl
@[simp] theorem State.store_ibus (s : State) (z : Size) (a v : Word) : (s.store z a v).ibus = s.ibus := rfl
@[simp] theorem State.store_cfg (s : State) (z : Size) (a v : Word) : (s.store z a v).cfg = s.cfg := rfl
@[simp] theorem State.store_pins (s : State) (z : Size) (a v : Word) : (s.store z a v).pins = s.pins := rfl
@[simp] theorem State.store_pinStream (s : State) (z : Size) (a v : Word) : (s.store z a v).pinStream = s.pinStream := rfl
@[simp] theorem State.store_cpScript (s : State) (z : Size) (a v : Word) : (s.store z a v).cpScript = s.cpScript := rfl
@[simp] theorem State.store_cpEvents (s : State) (z : Size) (a v : Word) : (s.store z a v).cpEvents = s.cpEvents := rfl
@[simp] theorem State.store_ice (s : State) (z : Size) (a v : Word) : (s.store z a v).ice = s.ice := rfl
@[simp] theorem State.store_tap (s : State) (z : Size) (a v : Word) : (s.store z a v).tap = s.tap := rfl
@[simp] theorem State.store_dbg (s : State) (z : Size) (a v : Word) : (s.store z a v).dbg = s.dbg := rfl
@[simp] theorem State.store_freeIx (s : State) (z : Size) (a v : Word) : (s.store z a v).freeIx = s.freeIx := rfl

/-! ### observe -/

@[simp] theorem State.observe_regs (s : State) (c : BusCycle) (d : Word) (a : Bool) : (s.observe c d a).regs = s.regs := rfl
@[simp] theorem State.observe_pc (s : State) (c : BusCycle) (d : Word) (a : Bool) : (s.observe c d a).pc = s.pc := rfl
@[simp] theorem State.observe_cpsr (s : State) (c : BusCycle) (d : Word) (a : Bool) : (s.observe c d a).cpsr = s.cpsr := rfl
@[simp] theorem State.observe_spsrFiq (s : State) (c : BusCycle) (d : Word) (a : Bool) : (s.observe c d a).spsrFiq = s.spsrFiq := rfl
@[simp] theorem State.observe_spsrSvc (s : State) (c : BusCycle) (d : Word) (a : Bool) : (s.observe c d a).spsrSvc = s.spsrSvc := rfl
@[simp] theorem State.observe_spsrAbt (s : State) (c : BusCycle) (d : Word) (a : Bool) : (s.observe c d a).spsrAbt = s.spsrAbt := rfl
@[simp] theorem State.observe_spsrIrq (s : State) (c : BusCycle) (d : Word) (a : Bool) : (s.observe c d a).spsrIrq = s.spsrIrq := rfl
@[simp] theorem State.observe_spsrUnd (s : State) (c : BusCycle) (d : Word) (a : Bool) : (s.observe c d a).spsrUnd = s.spsrUnd := rfl
@[simp] theorem State.observe_mem (s : State) (c : BusCycle) (d : Word) (a : Bool) : (s.observe c d a).mem = s.mem := rfl
@[simp] theorem State.observe_imem (s : State) (c : BusCycle) (d : Word) (a : Bool) : (s.observe c d a).imem = s.imem := rfl
@[simp] theorem State.observe_fetchQ (s : State) (c : BusCycle) (d : Word) (a : Bool) : (s.observe c d a).fetchQ = s.fetchQ := rfl
@[simp] theorem State.observe_fiqReg (s : State) (c : BusCycle) (d : Word) (a : Bool) : (s.observe c d a).fiqReg = s.fiqReg := rfl
@[simp] theorem State.observe_irqReg (s : State) (c : BusCycle) (d : Word) (a : Bool) : (s.observe c d a).irqReg = s.irqReg := rfl
@[simp] theorem State.observe_resetReg (s : State) (c : BusCycle) (d : Word) (a : Bool) : (s.observe c d a).resetReg = s.resetReg := rfl
@[simp] theorem State.observe_bankHazard (s : State) (c : BusCycle) (d : Word) (a : Bool) : (s.observe c d a).bankHazard = s.bankHazard := rfl
@[simp] theorem State.observe_ibus (s : State) (c : BusCycle) (d : Word) (a : Bool) : (s.observe c d a).ibus = s.ibus := rfl
@[simp] theorem State.observe_cfg (s : State) (c : BusCycle) (d : Word) (a : Bool) : (s.observe c d a).cfg = s.cfg := rfl
@[simp] theorem State.observe_pins (s : State) (c : BusCycle) (d : Word) (a : Bool) : (s.observe c d a).pins = s.pins := rfl
@[simp] theorem State.observe_pinStream (s : State) (c : BusCycle) (d : Word) (a : Bool) : (s.observe c d a).pinStream = s.pinStream := rfl
@[simp] theorem State.observe_cpScript (s : State) (c : BusCycle) (d : Word) (a : Bool) : (s.observe c d a).cpScript = s.cpScript := rfl
@[simp] theorem State.observe_cpEvents (s : State) (c : BusCycle) (d : Word) (a : Bool) : (s.observe c d a).cpEvents = s.cpEvents := rfl
@[simp] theorem State.observe_tap (s : State) (c : BusCycle) (d : Word) (a : Bool) : (s.observe c d a).tap = s.tap := rfl

/-! ### takeScanned -/

@[simp] theorem State.takeScanned_regs (s : State) : (s.takeScanned.2).regs = s.regs := rfl
@[simp] theorem State.takeScanned_pc (s : State) : (s.takeScanned.2).pc = s.pc := rfl
@[simp] theorem State.takeScanned_cpsr (s : State) : (s.takeScanned.2).cpsr = s.cpsr := rfl
@[simp] theorem State.takeScanned_spsrFiq (s : State) : (s.takeScanned.2).spsrFiq = s.spsrFiq := rfl
@[simp] theorem State.takeScanned_spsrSvc (s : State) : (s.takeScanned.2).spsrSvc = s.spsrSvc := rfl
@[simp] theorem State.takeScanned_spsrAbt (s : State) : (s.takeScanned.2).spsrAbt = s.spsrAbt := rfl
@[simp] theorem State.takeScanned_spsrIrq (s : State) : (s.takeScanned.2).spsrIrq = s.spsrIrq := rfl
@[simp] theorem State.takeScanned_spsrUnd (s : State) : (s.takeScanned.2).spsrUnd = s.spsrUnd := rfl
@[simp] theorem State.takeScanned_mem (s : State) : (s.takeScanned.2).mem = s.mem := rfl
@[simp] theorem State.takeScanned_imem (s : State) : (s.takeScanned.2).imem = s.imem := rfl
@[simp] theorem State.takeScanned_fetchQ (s : State) : (s.takeScanned.2).fetchQ = s.fetchQ := rfl
@[simp] theorem State.takeScanned_fiqReg (s : State) : (s.takeScanned.2).fiqReg = s.fiqReg := rfl
@[simp] theorem State.takeScanned_irqReg (s : State) : (s.takeScanned.2).irqReg = s.irqReg := rfl
@[simp] theorem State.takeScanned_resetReg (s : State) : (s.takeScanned.2).resetReg = s.resetReg := rfl
@[simp] theorem State.takeScanned_bankHazard (s : State) : (s.takeScanned.2).bankHazard = s.bankHazard := rfl
@[simp] theorem State.takeScanned_bus (s : State) : (s.takeScanned.2).bus = s.bus := rfl
@[simp] theorem State.takeScanned_ibus (s : State) : (s.takeScanned.2).ibus = s.ibus := rfl
@[simp] theorem State.takeScanned_cfg (s : State) : (s.takeScanned.2).cfg = s.cfg := rfl
@[simp] theorem State.takeScanned_pins (s : State) : (s.takeScanned.2).pins = s.pins := rfl
@[simp] theorem State.takeScanned_pinStream (s : State) : (s.takeScanned.2).pinStream = s.pinStream := rfl
@[simp] theorem State.takeScanned_cpScript (s : State) : (s.takeScanned.2).cpScript = s.cpScript := rfl
@[simp] theorem State.takeScanned_cpEvents (s : State) : (s.takeScanned.2).cpEvents = s.cpEvents := rfl
@[simp] theorem State.takeScanned_ice (s : State) : (s.takeScanned.2).ice = s.ice := rfl
@[simp] theorem State.takeScanned_tap (s : State) : (s.takeScanned.2).tap = s.tap := rfl
@[simp] theorem State.takeScanned_freeIx (s : State) : (s.takeScanned.2).freeIx = s.freeIx := rfl

/-! ### dataRead -/

@[simp] theorem State.dataRead_regs (s : State) (q : Req) : ((s.dataRead q).2).regs = s.regs := by unfold State.dataRead; split <;> rfl
@[simp] theorem State.dataRead_pc (s : State) (q : Req) : ((s.dataRead q).2).pc = s.pc := by unfold State.dataRead; split <;> rfl
@[simp] theorem State.dataRead_cpsr (s : State) (q : Req) : ((s.dataRead q).2).cpsr = s.cpsr := by unfold State.dataRead; split <;> rfl
@[simp] theorem State.dataRead_spsrFiq (s : State) (q : Req) : ((s.dataRead q).2).spsrFiq = s.spsrFiq := by unfold State.dataRead; split <;> rfl
@[simp] theorem State.dataRead_spsrSvc (s : State) (q : Req) : ((s.dataRead q).2).spsrSvc = s.spsrSvc := by unfold State.dataRead; split <;> rfl
@[simp] theorem State.dataRead_spsrAbt (s : State) (q : Req) : ((s.dataRead q).2).spsrAbt = s.spsrAbt := by unfold State.dataRead; split <;> rfl
@[simp] theorem State.dataRead_spsrIrq (s : State) (q : Req) : ((s.dataRead q).2).spsrIrq = s.spsrIrq := by unfold State.dataRead; split <;> rfl
@[simp] theorem State.dataRead_spsrUnd (s : State) (q : Req) : ((s.dataRead q).2).spsrUnd = s.spsrUnd := by unfold State.dataRead; split <;> rfl
@[simp] theorem State.dataRead_mem (s : State) (q : Req) : ((s.dataRead q).2).mem = s.mem := by unfold State.dataRead; split <;> rfl
@[simp] theorem State.dataRead_imem (s : State) (q : Req) : ((s.dataRead q).2).imem = s.imem := by unfold State.dataRead; split <;> rfl
@[simp] theorem State.dataRead_fetchQ (s : State) (q : Req) : ((s.dataRead q).2).fetchQ = s.fetchQ := by unfold State.dataRead; split <;> rfl
@[simp] theorem State.dataRead_fiqReg (s : State) (q : Req) : ((s.dataRead q).2).fiqReg = s.fiqReg := by unfold State.dataRead; split <;> rfl
@[simp] theorem State.dataRead_irqReg (s : State) (q : Req) : ((s.dataRead q).2).irqReg = s.irqReg := by unfold State.dataRead; split <;> rfl
@[simp] theorem State.dataRead_resetReg (s : State) (q : Req) : ((s.dataRead q).2).resetReg = s.resetReg := by unfold State.dataRead; split <;> rfl
@[simp] theorem State.dataRead_bankHazard (s : State) (q : Req) : ((s.dataRead q).2).bankHazard = s.bankHazard := by unfold State.dataRead; split <;> rfl
@[simp] theorem State.dataRead_ibus (s : State) (q : Req) : ((s.dataRead q).2).ibus = s.ibus := by unfold State.dataRead; split <;> rfl
@[simp] theorem State.dataRead_cfg (s : State) (q : Req) : ((s.dataRead q).2).cfg = s.cfg := by unfold State.dataRead; split <;> rfl
@[simp] theorem State.dataRead_pins (s : State) (q : Req) : ((s.dataRead q).2).pins = s.pins := by unfold State.dataRead; split <;> rfl
@[simp] theorem State.dataRead_pinStream (s : State) (q : Req) : ((s.dataRead q).2).pinStream = s.pinStream := by unfold State.dataRead; split <;> rfl
@[simp] theorem State.dataRead_cpScript (s : State) (q : Req) : ((s.dataRead q).2).cpScript = s.cpScript := by unfold State.dataRead; split <;> rfl
@[simp] theorem State.dataRead_cpEvents (s : State) (q : Req) : ((s.dataRead q).2).cpEvents = s.cpEvents := by unfold State.dataRead; split <;> rfl
@[simp] theorem State.dataRead_tap (s : State) (q : Req) : ((s.dataRead q).2).tap = s.tap := by unfold State.dataRead; split <;> rfl

/-! ### dataWrite -/

@[simp] theorem State.dataWrite_regs (s : State) (q : Req) (v : Word) : ((s.dataWrite q v).2).regs = s.regs := by unfold State.dataWrite; dsimp only; split <;> [rfl; (split <;> rfl)]
@[simp] theorem State.dataWrite_pc (s : State) (q : Req) (v : Word) : ((s.dataWrite q v).2).pc = s.pc := by unfold State.dataWrite; dsimp only; split <;> [rfl; (split <;> rfl)]
@[simp] theorem State.dataWrite_cpsr (s : State) (q : Req) (v : Word) : ((s.dataWrite q v).2).cpsr = s.cpsr := by unfold State.dataWrite; dsimp only; split <;> [rfl; (split <;> rfl)]
@[simp] theorem State.dataWrite_spsrFiq (s : State) (q : Req) (v : Word) : ((s.dataWrite q v).2).spsrFiq = s.spsrFiq := by unfold State.dataWrite; dsimp only; split <;> [rfl; (split <;> rfl)]
@[simp] theorem State.dataWrite_spsrSvc (s : State) (q : Req) (v : Word) : ((s.dataWrite q v).2).spsrSvc = s.spsrSvc := by unfold State.dataWrite; dsimp only; split <;> [rfl; (split <;> rfl)]
@[simp] theorem State.dataWrite_spsrAbt (s : State) (q : Req) (v : Word) : ((s.dataWrite q v).2).spsrAbt = s.spsrAbt := by unfold State.dataWrite; dsimp only; split <;> [rfl; (split <;> rfl)]
@[simp] theorem State.dataWrite_spsrIrq (s : State) (q : Req) (v : Word) : ((s.dataWrite q v).2).spsrIrq = s.spsrIrq := by unfold State.dataWrite; dsimp only; split <;> [rfl; (split <;> rfl)]
@[simp] theorem State.dataWrite_spsrUnd (s : State) (q : Req) (v : Word) : ((s.dataWrite q v).2).spsrUnd = s.spsrUnd := by unfold State.dataWrite; dsimp only; split <;> [rfl; (split <;> rfl)]
@[simp] theorem State.dataWrite_fetchQ (s : State) (q : Req) (v : Word) : ((s.dataWrite q v).2).fetchQ = s.fetchQ := by unfold State.dataWrite; dsimp only; split <;> [rfl; (split <;> rfl)]
@[simp] theorem State.dataWrite_fiqReg (s : State) (q : Req) (v : Word) : ((s.dataWrite q v).2).fiqReg = s.fiqReg := by unfold State.dataWrite; dsimp only; split <;> [rfl; (split <;> rfl)]
@[simp] theorem State.dataWrite_irqReg (s : State) (q : Req) (v : Word) : ((s.dataWrite q v).2).irqReg = s.irqReg := by unfold State.dataWrite; dsimp only; split <;> [rfl; (split <;> rfl)]
@[simp] theorem State.dataWrite_resetReg (s : State) (q : Req) (v : Word) : ((s.dataWrite q v).2).resetReg = s.resetReg := by unfold State.dataWrite; dsimp only; split <;> [rfl; (split <;> rfl)]
@[simp] theorem State.dataWrite_bankHazard (s : State) (q : Req) (v : Word) : ((s.dataWrite q v).2).bankHazard = s.bankHazard := by unfold State.dataWrite; dsimp only; split <;> [rfl; (split <;> rfl)]
@[simp] theorem State.dataWrite_ibus (s : State) (q : Req) (v : Word) : ((s.dataWrite q v).2).ibus = s.ibus := by unfold State.dataWrite; dsimp only; split <;> [rfl; (split <;> rfl)]
@[simp] theorem State.dataWrite_cfg (s : State) (q : Req) (v : Word) : ((s.dataWrite q v).2).cfg = s.cfg := by unfold State.dataWrite; dsimp only; split <;> [rfl; (split <;> rfl)]
@[simp] theorem State.dataWrite_pins (s : State) (q : Req) (v : Word) : ((s.dataWrite q v).2).pins = s.pins := by unfold State.dataWrite; dsimp only; split <;> [rfl; (split <;> rfl)]
@[simp] theorem State.dataWrite_pinStream (s : State) (q : Req) (v : Word) : ((s.dataWrite q v).2).pinStream = s.pinStream := by unfold State.dataWrite; dsimp only; split <;> [rfl; (split <;> rfl)]
@[simp] theorem State.dataWrite_cpScript (s : State) (q : Req) (v : Word) : ((s.dataWrite q v).2).cpScript = s.cpScript := by unfold State.dataWrite; dsimp only; split <;> [rfl; (split <;> rfl)]
@[simp] theorem State.dataWrite_cpEvents (s : State) (q : Req) (v : Word) : ((s.dataWrite q v).2).cpEvents = s.cpEvents := by unfold State.dataWrite; dsimp only; split <;> [rfl; (split <;> rfl)]
@[simp] theorem State.dataWrite_tap (s : State) (q : Req) (v : Word) : ((s.dataWrite q v).2).tap = s.tap := by unfold State.dataWrite; dsimp only; split <;> [rfl; (split <;> rfl)]

/-! ### cpAnswer -/

@[simp] theorem State.cpAnswer_regs (s : State) : (s.cpAnswer.2).regs = s.regs := rfl
@[simp] theorem State.cpAnswer_pc (s : State) : (s.cpAnswer.2).pc = s.pc := rfl
@[simp] theorem State.cpAnswer_cpsr (s : State) : (s.cpAnswer.2).cpsr = s.cpsr := rfl
@[simp] theorem State.cpAnswer_spsrFiq (s : State) : (s.cpAnswer.2).spsrFiq = s.spsrFiq := rfl
@[simp] theorem State.cpAnswer_spsrSvc (s : State) : (s.cpAnswer.2).spsrSvc = s.spsrSvc := rfl
@[simp] theorem State.cpAnswer_spsrAbt (s : State) : (s.cpAnswer.2).spsrAbt = s.spsrAbt := rfl
@[simp] theorem State.cpAnswer_spsrIrq (s : State) : (s.cpAnswer.2).spsrIrq = s.spsrIrq := rfl
@[simp] theorem State.cpAnswer_spsrUnd (s : State) : (s.cpAnswer.2).spsrUnd = s.spsrUnd := rfl
@[simp] theorem State.cpAnswer_mem (s : State) : (s.cpAnswer.2).mem = s.mem := rfl
@[simp] theorem State.cpAnswer_imem (s : State) : (s.cpAnswer.2).imem = s.imem := rfl
@[simp] theorem State.cpAnswer_fetchQ (s : State) : (s.cpAnswer.2).fetchQ = s.fetchQ := rfl
@[simp] theorem State.cpAnswer_fiqReg (s : State) : (s.cpAnswer.2).fiqReg = s.fiqReg := rfl
@[simp] theorem State.cpAnswer_irqReg (s : State) : (s.cpAnswer.2).irqReg = s.irqReg := rfl
@[simp] theorem State.cpAnswer_resetReg (s : State) : (s.cpAnswer.2).resetReg = s.resetReg := rfl
@[simp] theorem State.cpAnswer_bankHazard (s : State) : (s.cpAnswer.2).bankHazard = s.bankHazard := rfl
@[simp] theorem State.cpAnswer_bus (s : State) : (s.cpAnswer.2).bus = s.bus := rfl
@[simp] theorem State.cpAnswer_ibus (s : State) : (s.cpAnswer.2).ibus = s.ibus := rfl
@[simp] theorem State.cpAnswer_cfg (s : State) : (s.cpAnswer.2).cfg = s.cfg := rfl
@[simp] theorem State.cpAnswer_pins (s : State) : (s.cpAnswer.2).pins = s.pins := rfl
@[simp] theorem State.cpAnswer_pinStream (s : State) : (s.cpAnswer.2).pinStream = s.pinStream := rfl
@[simp] theorem State.cpAnswer_cpEvents (s : State) : (s.cpAnswer.2).cpEvents = s.cpEvents := rfl
@[simp] theorem State.cpAnswer_ice (s : State) : (s.cpAnswer.2).ice = s.ice := rfl
@[simp] theorem State.cpAnswer_tap (s : State) : (s.cpAnswer.2).tap = s.tap := rfl
@[simp] theorem State.cpAnswer_dbg (s : State) : (s.cpAnswer.2).dbg = s.dbg := rfl
@[simp] theorem State.cpAnswer_freeIx (s : State) : (s.cpAnswer.2).freeIx = s.freeIx := rfl

/-! ### cpOffer -/

@[simp] theorem State.cpOffer_regs (s : State) (w : Word) : (s.cpOffer w).regs = s.regs := rfl
@[simp] theorem State.cpOffer_pc (s : State) (w : Word) : (s.cpOffer w).pc = s.pc := rfl
@[simp] theorem State.cpOffer_cpsr (s : State) (w : Word) : (s.cpOffer w).cpsr = s.cpsr := rfl
@[simp] theorem State.cpOffer_spsrFiq (s : State) (w : Word) : (s.cpOffer w).spsrFiq = s.spsrFiq := rfl
@[simp] theorem State.cpOffer_spsrSvc (s : State) (w : Word) : (s.cpOffer w).spsrSvc = s.spsrSvc := rfl
@[simp] theorem State.cpOffer_spsrAbt (s : State) (w : Word) : (s.cpOffer w).spsrAbt = s.spsrAbt := rfl
@[simp] theorem State.cpOffer_spsrIrq (s : State) (w : Word) : (s.cpOffer w).spsrIrq = s.spsrIrq := rfl
@[simp] theorem State.cpOffer_spsrUnd (s : State) (w : Word) : (s.cpOffer w).spsrUnd = s.spsrUnd := rfl
@[simp] theorem State.cpOffer_mem (s : State) (w : Word) : (s.cpOffer w).mem = s.mem := rfl
@[simp] theorem State.cpOffer_imem (s : State) (w : Word) : (s.cpOffer w).imem = s.imem := rfl
@[simp] theorem State.cpOffer_fetchQ (s : State) (w : Word) : (s.cpOffer w).fetchQ = s.fetchQ := rfl
@[simp] theorem State.cpOffer_fiqReg (s : State) (w : Word) : (s.cpOffer w).fiqReg = s.fiqReg := rfl
@[simp] theorem State.cpOffer_irqReg (s : State) (w : Word) : (s.cpOffer w).irqReg = s.irqReg := rfl
@[simp] theorem State.cpOffer_resetReg (s : State) (w : Word) : (s.cpOffer w).resetReg = s.resetReg := rfl
@[simp] theorem State.cpOffer_bankHazard (s : State) (w : Word) : (s.cpOffer w).bankHazard = s.bankHazard := rfl
@[simp] theorem State.cpOffer_bus (s : State) (w : Word) : (s.cpOffer w).bus = s.bus := rfl
@[simp] theorem State.cpOffer_ibus (s : State) (w : Word) : (s.cpOffer w).ibus = s.ibus := rfl
@[simp] theorem State.cpOffer_cfg (s : State) (w : Word) : (s.cpOffer w).cfg = s.cfg := rfl
@[simp] theorem State.cpOffer_pins (s : State) (w : Word) : (s.cpOffer w).pins = s.pins := rfl
@[simp] theorem State.cpOffer_pinStream (s : State) (w : Word) : (s.cpOffer w).pinStream = s.pinStream := rfl
@[simp] theorem State.cpOffer_cpScript (s : State) (w : Word) : (s.cpOffer w).cpScript = s.cpScript := rfl
@[simp] theorem State.cpOffer_ice (s : State) (w : Word) : (s.cpOffer w).ice = s.ice := rfl
@[simp] theorem State.cpOffer_tap (s : State) (w : Word) : (s.cpOffer w).tap = s.tap := rfl
@[simp] theorem State.cpOffer_dbg (s : State) (w : Word) : (s.cpOffer w).dbg = s.dbg := rfl
@[simp] theorem State.cpOffer_freeIx (s : State) (w : Word) : (s.cpOffer w).freeIx = s.freeIx := rfl

/-! ### cpSend -/

@[simp] theorem State.cpSend_regs (s : State) (w : Word) : (s.cpSend w).regs = s.regs := rfl
@[simp] theorem State.cpSend_pc (s : State) (w : Word) : (s.cpSend w).pc = s.pc := rfl
@[simp] theorem State.cpSend_cpsr (s : State) (w : Word) : (s.cpSend w).cpsr = s.cpsr := rfl
@[simp] theorem State.cpSend_spsrFiq (s : State) (w : Word) : (s.cpSend w).spsrFiq = s.spsrFiq := rfl
@[simp] theorem State.cpSend_spsrSvc (s : State) (w : Word) : (s.cpSend w).spsrSvc = s.spsrSvc := rfl
@[simp] theorem State.cpSend_spsrAbt (s : State) (w : Word) : (s.cpSend w).spsrAbt = s.spsrAbt := rfl
@[simp] theorem State.cpSend_spsrIrq (s : State) (w : Word) : (s.cpSend w).spsrIrq = s.spsrIrq := rfl
@[simp] theorem State.cpSend_spsrUnd (s : State) (w : Word) : (s.cpSend w).spsrUnd = s.spsrUnd := rfl
@[simp] theorem State.cpSend_mem (s : State) (w : Word) : (s.cpSend w).mem = s.mem := rfl
@[simp] theorem State.cpSend_imem (s : State) (w : Word) : (s.cpSend w).imem = s.imem := rfl
@[simp] theorem State.cpSend_fetchQ (s : State) (w : Word) : (s.cpSend w).fetchQ = s.fetchQ := rfl
@[simp] theorem State.cpSend_fiqReg (s : State) (w : Word) : (s.cpSend w).fiqReg = s.fiqReg := rfl
@[simp] theorem State.cpSend_irqReg (s : State) (w : Word) : (s.cpSend w).irqReg = s.irqReg := rfl
@[simp] theorem State.cpSend_resetReg (s : State) (w : Word) : (s.cpSend w).resetReg = s.resetReg := rfl
@[simp] theorem State.cpSend_bankHazard (s : State) (w : Word) : (s.cpSend w).bankHazard = s.bankHazard := rfl
@[simp] theorem State.cpSend_bus (s : State) (w : Word) : (s.cpSend w).bus = s.bus := rfl
@[simp] theorem State.cpSend_ibus (s : State) (w : Word) : (s.cpSend w).ibus = s.ibus := rfl
@[simp] theorem State.cpSend_cfg (s : State) (w : Word) : (s.cpSend w).cfg = s.cfg := rfl
@[simp] theorem State.cpSend_pins (s : State) (w : Word) : (s.cpSend w).pins = s.pins := rfl
@[simp] theorem State.cpSend_pinStream (s : State) (w : Word) : (s.cpSend w).pinStream = s.pinStream := rfl
@[simp] theorem State.cpSend_cpScript (s : State) (w : Word) : (s.cpSend w).cpScript = s.cpScript := rfl
@[simp] theorem State.cpSend_ice (s : State) (w : Word) : (s.cpSend w).ice = s.ice := rfl
@[simp] theorem State.cpSend_tap (s : State) (w : Word) : (s.cpSend w).tap = s.tap := rfl
@[simp] theorem State.cpSend_dbg (s : State) (w : Word) : (s.cpSend w).dbg = s.dbg := rfl
@[simp] theorem State.cpSend_freeIx (s : State) (w : Word) : (s.cpSend w).freeIx = s.freeIx := rfl

/-! ### cpTransfer -/

@[simp] theorem State.cpTransfer_regs (s : State) (d : Bool) (w : Word) : (s.cpTransfer d w).regs = s.regs := rfl
@[simp] theorem State.cpTransfer_pc (s : State) (d : Bool) (w : Word) : (s.cpTransfer d w).pc = s.pc := rfl
@[simp] theorem State.cpTransfer_cpsr (s : State) (d : Bool) (w : Word) : (s.cpTransfer d w).cpsr = s.cpsr := rfl
@[simp] theorem State.cpTransfer_spsrFiq (s : State) (d : Bool) (w : Word) : (s.cpTransfer d w).spsrFiq = s.spsrFiq := rfl
@[simp] theorem State.cpTransfer_spsrSvc (s : State) (d : Bool) (w : Word) : (s.cpTransfer d w).spsrSvc = s.spsrSvc := rfl
@[simp] theorem State.cpTransfer_spsrAbt (s : State) (d : Bool) (w : Word) : (s.cpTransfer d w).spsrAbt = s.spsrAbt := rfl
@[simp] theorem State.cpTransfer_spsrIrq (s : State) (d : Bool) (w : Word) : (s.cpTransfer d w).spsrIrq = s.spsrIrq := rfl
@[simp] theorem State.cpTransfer_spsrUnd (s : State) (d : Bool) (w : Word) : (s.cpTransfer d w).spsrUnd = s.spsrUnd := rfl
@[simp] theorem State.cpTransfer_mem (s : State) (d : Bool) (w : Word) : (s.cpTransfer d w).mem = s.mem := rfl
@[simp] theorem State.cpTransfer_imem (s : State) (d : Bool) (w : Word) : (s.cpTransfer d w).imem = s.imem := rfl
@[simp] theorem State.cpTransfer_fetchQ (s : State) (d : Bool) (w : Word) : (s.cpTransfer d w).fetchQ = s.fetchQ := rfl
@[simp] theorem State.cpTransfer_fiqReg (s : State) (d : Bool) (w : Word) : (s.cpTransfer d w).fiqReg = s.fiqReg := rfl
@[simp] theorem State.cpTransfer_irqReg (s : State) (d : Bool) (w : Word) : (s.cpTransfer d w).irqReg = s.irqReg := rfl
@[simp] theorem State.cpTransfer_resetReg (s : State) (d : Bool) (w : Word) : (s.cpTransfer d w).resetReg = s.resetReg := rfl
@[simp] theorem State.cpTransfer_bankHazard (s : State) (d : Bool) (w : Word) : (s.cpTransfer d w).bankHazard = s.bankHazard := rfl
@[simp] theorem State.cpTransfer_ibus (s : State) (d : Bool) (w : Word) : (s.cpTransfer d w).ibus = s.ibus := rfl
@[simp] theorem State.cpTransfer_cfg (s : State) (d : Bool) (w : Word) : (s.cpTransfer d w).cfg = s.cfg := rfl
@[simp] theorem State.cpTransfer_pins (s : State) (d : Bool) (w : Word) : (s.cpTransfer d w).pins = s.pins := rfl
@[simp] theorem State.cpTransfer_pinStream (s : State) (d : Bool) (w : Word) : (s.cpTransfer d w).pinStream = s.pinStream := rfl
@[simp] theorem State.cpTransfer_cpScript (s : State) (d : Bool) (w : Word) : (s.cpTransfer d w).cpScript = s.cpScript := rfl
@[simp] theorem State.cpTransfer_cpEvents (s : State) (d : Bool) (w : Word) : (s.cpTransfer d w).cpEvents = s.cpEvents := rfl
@[simp] theorem State.cpTransfer_ice (s : State) (d : Bool) (w : Word) : (s.cpTransfer d w).ice = s.ice := rfl
@[simp] theorem State.cpTransfer_tap (s : State) (d : Bool) (w : Word) : (s.cpTransfer d w).tap = s.tap := rfl
@[simp] theorem State.cpTransfer_dbg (s : State) (d : Bool) (w : Word) : (s.cpTransfer d w).dbg = s.dbg := rfl
@[simp] theorem State.cpTransfer_freeIx (s : State) (d : Bool) (w : Word) : (s.cpTransfer d w).freeIx = s.freeIx := rfl

/-! ### cpDrive -/

@[simp] theorem State.cpDrive_regs (s : State) (c : BitVec 4) (n : Nat) (w : Word) : (s.cpDrive c n w).regs = s.regs := by unfold State.cpDrive; split <;> rfl
@[simp] theorem State.cpDrive_pc (s : State) (c : BitVec 4) (n : Nat) (w : Word) : (s.cpDrive c n w).pc = s.pc := by unfold State.cpDrive; split <;> rfl
@[simp] theorem State.cpDrive_cpsr (s : State) (c : BitVec 4) (n : Nat) (w : Word) : (s.cpDrive c n w).cpsr = s.cpsr := by unfold State.cpDrive; split <;> rfl
@[simp] theorem State.cpDrive_spsrFiq (s : State) (c : BitVec 4) (n : Nat) (w : Word) : (s.cpDrive c n w).spsrFiq = s.spsrFiq := by unfold State.cpDrive; split <;> rfl
@[simp] theorem State.cpDrive_spsrSvc (s : State) (c : BitVec 4) (n : Nat) (w : Word) : (s.cpDrive c n w).spsrSvc = s.spsrSvc := by unfold State.cpDrive; split <;> rfl
@[simp] theorem State.cpDrive_spsrAbt (s : State) (c : BitVec 4) (n : Nat) (w : Word) : (s.cpDrive c n w).spsrAbt = s.spsrAbt := by unfold State.cpDrive; split <;> rfl
@[simp] theorem State.cpDrive_spsrIrq (s : State) (c : BitVec 4) (n : Nat) (w : Word) : (s.cpDrive c n w).spsrIrq = s.spsrIrq := by unfold State.cpDrive; split <;> rfl
@[simp] theorem State.cpDrive_spsrUnd (s : State) (c : BitVec 4) (n : Nat) (w : Word) : (s.cpDrive c n w).spsrUnd = s.spsrUnd := by unfold State.cpDrive; split <;> rfl
@[simp] theorem State.cpDrive_mem (s : State) (c : BitVec 4) (n : Nat) (w : Word) : (s.cpDrive c n w).mem = s.mem := by unfold State.cpDrive; split <;> rfl
@[simp] theorem State.cpDrive_imem (s : State) (c : BitVec 4) (n : Nat) (w : Word) : (s.cpDrive c n w).imem = s.imem := by unfold State.cpDrive; split <;> rfl
@[simp] theorem State.cpDrive_fetchQ (s : State) (c : BitVec 4) (n : Nat) (w : Word) : (s.cpDrive c n w).fetchQ = s.fetchQ := by unfold State.cpDrive; split <;> rfl
@[simp] theorem State.cpDrive_fiqReg (s : State) (c : BitVec 4) (n : Nat) (w : Word) : (s.cpDrive c n w).fiqReg = s.fiqReg := by unfold State.cpDrive; split <;> rfl
@[simp] theorem State.cpDrive_irqReg (s : State) (c : BitVec 4) (n : Nat) (w : Word) : (s.cpDrive c n w).irqReg = s.irqReg := by unfold State.cpDrive; split <;> rfl
@[simp] theorem State.cpDrive_resetReg (s : State) (c : BitVec 4) (n : Nat) (w : Word) : (s.cpDrive c n w).resetReg = s.resetReg := by unfold State.cpDrive; split <;> rfl
@[simp] theorem State.cpDrive_bankHazard (s : State) (c : BitVec 4) (n : Nat) (w : Word) : (s.cpDrive c n w).bankHazard = s.bankHazard := by unfold State.cpDrive; split <;> rfl
@[simp] theorem State.cpDrive_bus (s : State) (c : BitVec 4) (n : Nat) (w : Word) : (s.cpDrive c n w).bus = s.bus := by unfold State.cpDrive; split <;> rfl
@[simp] theorem State.cpDrive_ibus (s : State) (c : BitVec 4) (n : Nat) (w : Word) : (s.cpDrive c n w).ibus = s.ibus := by unfold State.cpDrive; split <;> rfl
@[simp] theorem State.cpDrive_cfg (s : State) (c : BitVec 4) (n : Nat) (w : Word) : (s.cpDrive c n w).cfg = s.cfg := by unfold State.cpDrive; split <;> rfl
@[simp] theorem State.cpDrive_pins (s : State) (c : BitVec 4) (n : Nat) (w : Word) : (s.cpDrive c n w).pins = s.pins := by unfold State.cpDrive; split <;> rfl
@[simp] theorem State.cpDrive_pinStream (s : State) (c : BitVec 4) (n : Nat) (w : Word) : (s.cpDrive c n w).pinStream = s.pinStream := by unfold State.cpDrive; split <;> rfl
@[simp] theorem State.cpDrive_cpScript (s : State) (c : BitVec 4) (n : Nat) (w : Word) : (s.cpDrive c n w).cpScript = s.cpScript := by unfold State.cpDrive; split <;> rfl
@[simp] theorem State.cpDrive_ice (s : State) (c : BitVec 4) (n : Nat) (w : Word) : (s.cpDrive c n w).ice = s.ice := by unfold State.cpDrive; split <;> rfl
@[simp] theorem State.cpDrive_tap (s : State) (c : BitVec 4) (n : Nat) (w : Word) : (s.cpDrive c n w).tap = s.tap := by unfold State.cpDrive; split <;> rfl
@[simp] theorem State.cpDrive_dbg (s : State) (c : BitVec 4) (n : Nat) (w : Word) : (s.cpDrive c n w).dbg = s.dbg := by unfold State.cpDrive; split <;> rfl
@[simp] theorem State.cpDrive_freeIx (s : State) (c : BitVec 4) (n : Nat) (w : Word) : (s.cpDrive c n w).freeIx = s.freeIx := by unfold State.cpDrive; split <;> rfl

/-! ### busyWait -/

@[simp] theorem State.busyWait_regs (s : State) : (s.busyWait).regs = s.regs := rfl
@[simp] theorem State.busyWait_pc (s : State) : (s.busyWait).pc = s.pc := rfl
@[simp] theorem State.busyWait_cpsr (s : State) : (s.busyWait).cpsr = s.cpsr := rfl
@[simp] theorem State.busyWait_spsrFiq (s : State) : (s.busyWait).spsrFiq = s.spsrFiq := rfl
@[simp] theorem State.busyWait_spsrSvc (s : State) : (s.busyWait).spsrSvc = s.spsrSvc := rfl
@[simp] theorem State.busyWait_spsrAbt (s : State) : (s.busyWait).spsrAbt = s.spsrAbt := rfl
@[simp] theorem State.busyWait_spsrIrq (s : State) : (s.busyWait).spsrIrq = s.spsrIrq := rfl
@[simp] theorem State.busyWait_spsrUnd (s : State) : (s.busyWait).spsrUnd = s.spsrUnd := rfl
@[simp] theorem State.busyWait_mem (s : State) : (s.busyWait).mem = s.mem := rfl
@[simp] theorem State.busyWait_imem (s : State) : (s.busyWait).imem = s.imem := rfl
@[simp] theorem State.busyWait_fetchQ (s : State) : (s.busyWait).fetchQ = s.fetchQ := rfl
@[simp] theorem State.busyWait_fiqReg (s : State) : (s.busyWait).fiqReg = s.fiqReg := rfl
@[simp] theorem State.busyWait_irqReg (s : State) : (s.busyWait).irqReg = s.irqReg := rfl
@[simp] theorem State.busyWait_resetReg (s : State) : (s.busyWait).resetReg = s.resetReg := rfl
@[simp] theorem State.busyWait_bankHazard (s : State) : (s.busyWait).bankHazard = s.bankHazard := rfl
@[simp] theorem State.busyWait_bus (s : State) : (s.busyWait).bus = s.bus := rfl
@[simp] theorem State.busyWait_ibus (s : State) : (s.busyWait).ibus = s.ibus := rfl
@[simp] theorem State.busyWait_cfg (s : State) : (s.busyWait).cfg = s.cfg := rfl
@[simp] theorem State.busyWait_pins (s : State) : (s.busyWait).pins = s.pins := rfl
@[simp] theorem State.busyWait_pinStream (s : State) : (s.busyWait).pinStream = s.pinStream := rfl
@[simp] theorem State.busyWait_cpScript (s : State) : (s.busyWait).cpScript = s.cpScript := rfl
@[simp] theorem State.busyWait_cpEvents (s : State) : (s.busyWait).cpEvents = s.cpEvents := rfl
@[simp] theorem State.busyWait_ice (s : State) : (s.busyWait).ice = s.ice := rfl
@[simp] theorem State.busyWait_tap (s : State) : (s.busyWait).tap = s.tap := rfl
@[simp] theorem State.busyWait_freeIx (s : State) : (s.busyWait).freeIx = s.freeIx := rfl

/-! ### withMemoryOf -/

@[simp] theorem State.withMemoryOf_regs (s b : State) : (s.withMemoryOf b).regs = s.regs := rfl
@[simp] theorem State.withMemoryOf_pc (s b : State) : (s.withMemoryOf b).pc = s.pc := rfl
@[simp] theorem State.withMemoryOf_cpsr (s b : State) : (s.withMemoryOf b).cpsr = s.cpsr := rfl
@[simp] theorem State.withMemoryOf_spsrFiq (s b : State) : (s.withMemoryOf b).spsrFiq = s.spsrFiq := rfl
@[simp] theorem State.withMemoryOf_spsrSvc (s b : State) : (s.withMemoryOf b).spsrSvc = s.spsrSvc := rfl
@[simp] theorem State.withMemoryOf_spsrAbt (s b : State) : (s.withMemoryOf b).spsrAbt = s.spsrAbt := rfl
@[simp] theorem State.withMemoryOf_spsrIrq (s b : State) : (s.withMemoryOf b).spsrIrq = s.spsrIrq := rfl
@[simp] theorem State.withMemoryOf_spsrUnd (s b : State) : (s.withMemoryOf b).spsrUnd = s.spsrUnd := rfl
@[simp] theorem State.withMemoryOf_fetchQ (s b : State) : (s.withMemoryOf b).fetchQ = s.fetchQ := rfl
@[simp] theorem State.withMemoryOf_fiqReg (s b : State) : (s.withMemoryOf b).fiqReg = s.fiqReg := rfl
@[simp] theorem State.withMemoryOf_irqReg (s b : State) : (s.withMemoryOf b).irqReg = s.irqReg := rfl
@[simp] theorem State.withMemoryOf_resetReg (s b : State) : (s.withMemoryOf b).resetReg = s.resetReg := rfl
@[simp] theorem State.withMemoryOf_bankHazard (s b : State) : (s.withMemoryOf b).bankHazard = s.bankHazard := rfl
@[simp] theorem State.withMemoryOf_bus (s b : State) : (s.withMemoryOf b).bus = s.bus := rfl
@[simp] theorem State.withMemoryOf_ibus (s b : State) : (s.withMemoryOf b).ibus = s.ibus := rfl
@[simp] theorem State.withMemoryOf_cfg (s b : State) : (s.withMemoryOf b).cfg = s.cfg := rfl
@[simp] theorem State.withMemoryOf_pins (s b : State) : (s.withMemoryOf b).pins = s.pins := rfl
@[simp] theorem State.withMemoryOf_pinStream (s b : State) : (s.withMemoryOf b).pinStream = s.pinStream := rfl
@[simp] theorem State.withMemoryOf_cpScript (s b : State) : (s.withMemoryOf b).cpScript = s.cpScript := rfl
@[simp] theorem State.withMemoryOf_cpEvents (s b : State) : (s.withMemoryOf b).cpEvents = s.cpEvents := rfl
@[simp] theorem State.withMemoryOf_ice (s b : State) : (s.withMemoryOf b).ice = s.ice := rfl
@[simp] theorem State.withMemoryOf_tap (s b : State) : (s.withMemoryOf b).tap = s.tap := rfl
@[simp] theorem State.withMemoryOf_dbg (s b : State) : (s.withMemoryOf b).dbg = s.dbg := rfl
@[simp] theorem State.withMemoryOf_freeIx (s b : State) : (s.withMemoryOf b).freeIx = s.freeIx := rfl

/-! ### settleIce -/

@[simp] theorem State.settleIce_regs (s : State) : (s.settleIce).regs = s.regs := rfl
@[simp] theorem State.settleIce_pc (s : State) : (s.settleIce).pc = s.pc := rfl
@[simp] theorem State.settleIce_cpsr (s : State) : (s.settleIce).cpsr = s.cpsr := rfl
@[simp] theorem State.settleIce_spsrFiq (s : State) : (s.settleIce).spsrFiq = s.spsrFiq := rfl
@[simp] theorem State.settleIce_spsrSvc (s : State) : (s.settleIce).spsrSvc = s.spsrSvc := rfl
@[simp] theorem State.settleIce_spsrAbt (s : State) : (s.settleIce).spsrAbt = s.spsrAbt := rfl
@[simp] theorem State.settleIce_spsrIrq (s : State) : (s.settleIce).spsrIrq = s.spsrIrq := rfl
@[simp] theorem State.settleIce_spsrUnd (s : State) : (s.settleIce).spsrUnd = s.spsrUnd := rfl
@[simp] theorem State.settleIce_mem (s : State) : (s.settleIce).mem = s.mem := rfl
@[simp] theorem State.settleIce_imem (s : State) : (s.settleIce).imem = s.imem := rfl
@[simp] theorem State.settleIce_fetchQ (s : State) : (s.settleIce).fetchQ = s.fetchQ := rfl
@[simp] theorem State.settleIce_fiqReg (s : State) : (s.settleIce).fiqReg = s.fiqReg := rfl
@[simp] theorem State.settleIce_irqReg (s : State) : (s.settleIce).irqReg = s.irqReg := rfl
@[simp] theorem State.settleIce_resetReg (s : State) : (s.settleIce).resetReg = s.resetReg := rfl
@[simp] theorem State.settleIce_bankHazard (s : State) : (s.settleIce).bankHazard = s.bankHazard := rfl
@[simp] theorem State.settleIce_bus (s : State) : (s.settleIce).bus = s.bus := rfl
@[simp] theorem State.settleIce_ibus (s : State) : (s.settleIce).ibus = s.ibus := rfl
@[simp] theorem State.settleIce_cfg (s : State) : (s.settleIce).cfg = s.cfg := rfl
@[simp] theorem State.settleIce_pins (s : State) : (s.settleIce).pins = s.pins := rfl
@[simp] theorem State.settleIce_pinStream (s : State) : (s.settleIce).pinStream = s.pinStream := rfl
@[simp] theorem State.settleIce_cpScript (s : State) : (s.settleIce).cpScript = s.cpScript := rfl
@[simp] theorem State.settleIce_cpEvents (s : State) : (s.settleIce).cpEvents = s.cpEvents := rfl
@[simp] theorem State.settleIce_tap (s : State) : (s.settleIce).tap = s.tap := rfl
@[simp] theorem State.settleIce_dbg (s : State) : (s.settleIce).dbg = s.dbg := rfl
@[simp] theorem State.settleIce_freeIx (s : State) : (s.settleIce).freeIx = s.freeIx := rfl

/-! ### noteUserBank -/

@[simp] theorem State.noteUserBank_regs (s : State) : (s.noteUserBank).regs = s.regs := rfl
@[simp] theorem State.noteUserBank_pc (s : State) : (s.noteUserBank).pc = s.pc := rfl
@[simp] theorem State.noteUserBank_cpsr (s : State) : (s.noteUserBank).cpsr = s.cpsr := rfl
@[simp] theorem State.noteUserBank_spsrFiq (s : State) : (s.noteUserBank).spsrFiq = s.spsrFiq := rfl
@[simp] theorem State.noteUserBank_spsrSvc (s : State) : (s.noteUserBank).spsrSvc = s.spsrSvc := rfl
@[simp] theorem State.noteUserBank_spsrAbt (s : State) : (s.noteUserBank).spsrAbt = s.spsrAbt := rfl
@[simp] theorem State.noteUserBank_spsrIrq (s : State) : (s.noteUserBank).spsrIrq = s.spsrIrq := rfl
@[simp] theorem State.noteUserBank_spsrUnd (s : State) : (s.noteUserBank).spsrUnd = s.spsrUnd := rfl
@[simp] theorem State.noteUserBank_mem (s : State) : (s.noteUserBank).mem = s.mem := rfl
@[simp] theorem State.noteUserBank_imem (s : State) : (s.noteUserBank).imem = s.imem := rfl
@[simp] theorem State.noteUserBank_fetchQ (s : State) : (s.noteUserBank).fetchQ = s.fetchQ := rfl
@[simp] theorem State.noteUserBank_fiqReg (s : State) : (s.noteUserBank).fiqReg = s.fiqReg := rfl
@[simp] theorem State.noteUserBank_irqReg (s : State) : (s.noteUserBank).irqReg = s.irqReg := rfl
@[simp] theorem State.noteUserBank_resetReg (s : State) : (s.noteUserBank).resetReg = s.resetReg := rfl
@[simp] theorem State.noteUserBank_bus (s : State) : (s.noteUserBank).bus = s.bus := rfl
@[simp] theorem State.noteUserBank_ibus (s : State) : (s.noteUserBank).ibus = s.ibus := rfl
@[simp] theorem State.noteUserBank_cfg (s : State) : (s.noteUserBank).cfg = s.cfg := rfl
@[simp] theorem State.noteUserBank_pins (s : State) : (s.noteUserBank).pins = s.pins := rfl
@[simp] theorem State.noteUserBank_pinStream (s : State) : (s.noteUserBank).pinStream = s.pinStream := rfl
@[simp] theorem State.noteUserBank_cpScript (s : State) : (s.noteUserBank).cpScript = s.cpScript := rfl
@[simp] theorem State.noteUserBank_cpEvents (s : State) : (s.noteUserBank).cpEvents = s.cpEvents := rfl
@[simp] theorem State.noteUserBank_ice (s : State) : (s.noteUserBank).ice = s.ice := rfl
@[simp] theorem State.noteUserBank_tap (s : State) : (s.noteUserBank).tap = s.tap := rfl
@[simp] theorem State.noteUserBank_dbg (s : State) : (s.noteUserBank).dbg = s.dbg := rfl
@[simp] theorem State.noteUserBank_freeIx (s : State) : (s.noteUserBank).freeIx = s.freeIx := rfl

/-! ### writeBack -/

@[simp] theorem State.writeBack_pc (s : State) (n : Reg) (a : Addressed) : (s.writeBack n a).pc = s.pc := by unfold State.writeBack; split <;> simp
@[simp] theorem State.writeBack_cpsr (s : State) (n : Reg) (a : Addressed) : (s.writeBack n a).cpsr = s.cpsr := by unfold State.writeBack; split <;> simp
@[simp] theorem State.writeBack_spsrFiq (s : State) (n : Reg) (a : Addressed) : (s.writeBack n a).spsrFiq = s.spsrFiq := by unfold State.writeBack; split <;> simp
@[simp] theorem State.writeBack_spsrSvc (s : State) (n : Reg) (a : Addressed) : (s.writeBack n a).spsrSvc = s.spsrSvc := by unfold State.writeBack; split <;> simp
@[simp] theorem State.writeBack_spsrAbt (s : State) (n : Reg) (a : Addressed) : (s.writeBack n a).spsrAbt = s.spsrAbt := by unfold State.writeBack; split <;> simp
@[simp] theorem State.writeBack_spsrIrq (s : State) (n : Reg) (a : Addressed) : (s.writeBack n a).spsrIrq = s.spsrIrq := by unfold State.writeBack; split <;> simp
@[simp] theorem State.writeBack_spsrUnd (s : State) (n : Reg) (a : Addressed) : (s.writeBack n a).spsrUnd = s.spsrUnd := by unfold State.writeBack; split <;> simp
@[simp] theorem State.writeBack_mem (s : State) (n : Reg) (a : Addressed) : (s.writeBack n a).mem = s.mem := by unfold State.writeBack; split <;> simp
@[simp] theorem State.writeBack_imem (s : State) (n : Reg) (a : Addressed) : (s.writeBack n a).imem = s.imem := by unfold State.writeBack; split <;> simp
@[simp] theorem State.writeBack_fetchQ (s : State) (n : Reg) (a : Addressed) : (s.writeBack n a).fetchQ = s.fetchQ := by unfold State.writeBack; split <;> simp
@[simp] theorem State.writeBack_fiqReg (s : State) (n : Reg) (a : Addressed) : (s.writeBack n a).fiqReg = s.fiqReg := by unfold State.writeBack; split <;> simp
@[simp] theorem State.writeBack_irqReg (s : State) (n : Reg) (a : Addressed) : (s.writeBack n a).irqReg = s.irqReg := by unfold State.writeBack; split <;> simp
@[simp] theorem State.writeBack_resetReg (s : State) (n : Reg) (a : Addressed) : (s.writeBack n a).resetReg = s.resetReg := by unfold State.writeBack; split <;> simp
@[simp] theorem State.writeBack_bankHazard (s : State) (n : Reg) (a : Addressed) : (s.writeBack n a).bankHazard = s.bankHazard := by unfold State.writeBack; split <;> simp
@[simp] theorem State.writeBack_bus (s : State) (n : Reg) (a : Addressed) : (s.writeBack n a).bus = s.bus := by unfold State.writeBack; split <;> simp
@[simp] theorem State.writeBack_ibus (s : State) (n : Reg) (a : Addressed) : (s.writeBack n a).ibus = s.ibus := by unfold State.writeBack; split <;> simp
@[simp] theorem State.writeBack_cfg (s : State) (n : Reg) (a : Addressed) : (s.writeBack n a).cfg = s.cfg := by unfold State.writeBack; split <;> simp
@[simp] theorem State.writeBack_pins (s : State) (n : Reg) (a : Addressed) : (s.writeBack n a).pins = s.pins := by unfold State.writeBack; split <;> simp
@[simp] theorem State.writeBack_pinStream (s : State) (n : Reg) (a : Addressed) : (s.writeBack n a).pinStream = s.pinStream := by unfold State.writeBack; split <;> simp
@[simp] theorem State.writeBack_cpScript (s : State) (n : Reg) (a : Addressed) : (s.writeBack n a).cpScript = s.cpScript := by unfold State.writeBack; split <;> simp
@[simp] theorem State.writeBack_cpEvents (s : State) (n : Reg) (a : Addressed) : (s.writeBack n a).cpEvents = s.cpEvents := by unfold State.writeBack; split <;> simp
@[simp] theorem State.writeBack_ice (s : State) (n : Reg) (a : Addressed) : (s.writeBack n a).ice = s.ice := by unfold State.writeBack; split <;> simp
@[simp] theorem State.writeBack_tap (s : State) (n : Reg) (a : Addressed) : (s.writeBack n a).tap = s.tap := by unfold State.writeBack; split <;> simp
@[simp] theorem State.writeBack_dbg (s : State) (n : Reg) (a : Addressed) : (s.writeBack n a).dbg = s.dbg := by unfold State.writeBack; split <;> simp
@[simp] theorem State.writeBack_freeIx (s : State) (n : Reg) (a : Addressed) : (s.writeBack n a).freeIx = s.freeIx := by unfold State.writeBack; split <;> simp

/-! ### fetch -/

@[simp] theorem State.fetch_regs (s : State) (a : Word) : (s.fetch a).regs = s.regs := rfl
@[simp] theorem State.fetch_pc (s : State) (a : Word) : (s.fetch a).pc = s.pc := rfl
@[simp] theorem State.fetch_cpsr (s : State) (a : Word) : (s.fetch a).cpsr = s.cpsr := rfl
@[simp] theorem State.fetch_spsrFiq (s : State) (a : Word) : (s.fetch a).spsrFiq = s.spsrFiq := rfl
@[simp] theorem State.fetch_spsrSvc (s : State) (a : Word) : (s.fetch a).spsrSvc = s.spsrSvc := rfl
@[simp] theorem State.fetch_spsrAbt (s : State) (a : Word) : (s.fetch a).spsrAbt = s.spsrAbt := rfl
@[simp] theorem State.fetch_spsrIrq (s : State) (a : Word) : (s.fetch a).spsrIrq = s.spsrIrq := rfl
@[simp] theorem State.fetch_spsrUnd (s : State) (a : Word) : (s.fetch a).spsrUnd = s.spsrUnd := rfl
@[simp] theorem State.fetch_mem (s : State) (a : Word) : (s.fetch a).mem = s.mem := rfl
@[simp] theorem State.fetch_imem (s : State) (a : Word) : (s.fetch a).imem = s.imem := rfl
@[simp] theorem State.fetch_fiqReg (s : State) (a : Word) : (s.fetch a).fiqReg = s.fiqReg := rfl
@[simp] theorem State.fetch_irqReg (s : State) (a : Word) : (s.fetch a).irqReg = s.irqReg := rfl
@[simp] theorem State.fetch_resetReg (s : State) (a : Word) : (s.fetch a).resetReg = s.resetReg := rfl
@[simp] theorem State.fetch_bankHazard (s : State) (a : Word) : (s.fetch a).bankHazard = s.bankHazard := rfl
@[simp] theorem State.fetch_bus (s : State) (a : Word) : (s.fetch a).bus = s.bus := rfl
@[simp] theorem State.fetch_cfg (s : State) (a : Word) : (s.fetch a).cfg = s.cfg := rfl
@[simp] theorem State.fetch_pins (s : State) (a : Word) : (s.fetch a).pins = s.pins := rfl
@[simp] theorem State.fetch_pinStream (s : State) (a : Word) : (s.fetch a).pinStream = s.pinStream := rfl
@[simp] theorem State.fetch_cpScript (s : State) (a : Word) : (s.fetch a).cpScript = s.cpScript := rfl
@[simp] theorem State.fetch_cpEvents (s : State) (a : Word) : (s.fetch a).cpEvents = s.cpEvents := rfl
@[simp] theorem State.fetch_tap (s : State) (a : Word) : (s.fetch a).tap = s.tap := rfl

/-! ### preload -/

@[simp] theorem State.preload_regs (s : State) (a : Word) : (s.preload a).regs = s.regs := rfl
@[simp] theorem State.preload_pc (s : State) (a : Word) : (s.preload a).pc = s.pc := rfl
@[simp] theorem State.preload_cpsr (s : State) (a : Word) : (s.preload a).cpsr = s.cpsr := rfl
@[simp] theorem State.preload_spsrFiq (s : State) (a : Word) : (s.preload a).spsrFiq = s.spsrFiq := rfl
@[simp] theorem State.preload_spsrSvc (s : State) (a : Word) : (s.preload a).spsrSvc = s.spsrSvc := rfl
@[simp] theorem State.preload_spsrAbt (s : State) (a : Word) : (s.preload a).spsrAbt = s.spsrAbt := rfl
@[simp] theorem State.preload_spsrIrq (s : State) (a : Word) : (s.preload a).spsrIrq = s.spsrIrq := rfl
@[simp] theorem State.preload_spsrUnd (s : State) (a : Word) : (s.preload a).spsrUnd = s.spsrUnd := rfl
@[simp] theorem State.preload_mem (s : State) (a : Word) : (s.preload a).mem = s.mem := rfl
@[simp] theorem State.preload_imem (s : State) (a : Word) : (s.preload a).imem = s.imem := rfl
@[simp] theorem State.preload_fetchQ (s : State) (a : Word) : (s.preload a).fetchQ = s.fetchQ := rfl
@[simp] theorem State.preload_fiqReg (s : State) (a : Word) : (s.preload a).fiqReg = s.fiqReg := rfl
@[simp] theorem State.preload_irqReg (s : State) (a : Word) : (s.preload a).irqReg = s.irqReg := rfl
@[simp] theorem State.preload_resetReg (s : State) (a : Word) : (s.preload a).resetReg = s.resetReg := rfl
@[simp] theorem State.preload_bankHazard (s : State) (a : Word) : (s.preload a).bankHazard = s.bankHazard := rfl
@[simp] theorem State.preload_ibus (s : State) (a : Word) : (s.preload a).ibus = s.ibus := rfl
@[simp] theorem State.preload_cfg (s : State) (a : Word) : (s.preload a).cfg = s.cfg := rfl
@[simp] theorem State.preload_pins (s : State) (a : Word) : (s.preload a).pins = s.pins := rfl
@[simp] theorem State.preload_pinStream (s : State) (a : Word) : (s.preload a).pinStream = s.pinStream := rfl
@[simp] theorem State.preload_cpScript (s : State) (a : Word) : (s.preload a).cpScript = s.cpScript := rfl
@[simp] theorem State.preload_cpEvents (s : State) (a : Word) : (s.preload a).cpEvents = s.cpEvents := rfl
@[simp] theorem State.preload_ice (s : State) (a : Word) : (s.preload a).ice = s.ice := rfl
@[simp] theorem State.preload_tap (s : State) (a : Word) : (s.preload a).tap = s.tap := rfl
@[simp] theorem State.preload_dbg (s : State) (a : Word) : (s.preload a).dbg = s.dbg := rfl
@[simp] theorem State.preload_freeIx (s : State) (a : Word) : (s.preload a).freeIx = s.freeIx := rfl

/-! ### What the plain updates write -/

@[simp] theorem State.advance_pc (s : State) : s.advance.pc = s.pc + s.instrSize := rfl
@[simp] theorem State.setCpsr_cpsr (s : State) (v : Word) : (s.setCpsr v).cpsr = v := rfl
@[simp] theorem State.branchTo_pc (s : State) (a : Word) : (s.branchTo a).pc = a := rfl
@[simp] theorem State.branchTo_fetchQ (s : State) (a : Word) : (s.branchTo a).fetchQ = [] := rfl
@[simp] theorem State.writePc_pc (s : State) (a : Word) : (s.writePc a).pc = alignPc s.thumb a := rfl
@[simp] theorem State.writePc_fetchQ (s : State) (a : Word) : (s.writePc a).fetchQ = [] := rfl
@[simp] theorem State.setBankReg_regs (s : State) (m : Mode) (n : Reg) (v : Word) :
    (s.setBankReg m n v).regs = s.regs.set (physIx m n) v := rfl

theorem State.setReg_regs (s : State) (n : Reg) (v : Word) (h : n ≠ 15#4) :
    (s.setReg n v).regs = s.regs.set (physIx s.mode n) v := by simp [State.setReg, h]

theorem State.setReg_pcReg (s : State) (v : Word) : s.setReg 15#4 v = s := by simp [State.setReg]

/-- With DBGEN LOW nothing is compared, and no free value drawn for the other bus. -/
@[simp] theorem State.freeAfterCompare_off (s : State) (d : Bool) (h : s.cfg.dbgen = false) :
    s.freeAfterCompare d = s.freeIx := by simp [State.freeAfterCompare, h]
@[simp] theorem State.observe_freeIx (s : State) (c : BusCycle) (d : Word) (a : Bool) (h : s.cfg.dbgen = false) :
    (s.observe c d a).freeIx = s.freeIx := s.freeAfterCompare_off true h
@[simp] theorem State.fetch_freeIx (s : State) (a : Word) (h : s.cfg.dbgen = false) :
    (s.fetch a).freeIx = s.freeIx := s.freeAfterCompare_off false h
@[simp] theorem State.dataRead_freeIx (s : State) (q : Req) (h : s.cfg.dbgen = false) :
    (s.dataRead q).2.freeIx = s.freeIx := by
  unfold State.dataRead; split <;> simp [h]
@[simp] theorem State.dataWrite_freeIx (s : State) (q : Req) (v : Word) (h : s.cfg.dbgen = false) :
    (s.dataWrite q v).2.freeIx = s.freeIx := by
  unfold State.dataWrite; dsimp only; split <;> [rfl; (split <;> simp [h])]

/-- A C cycle is added to the record, and its type is C by R86's table. -/
theorem State.cpTransfer_bus (s : State) (d : Bool) (w : Word) :
    ∃ c : BusCycle, (s.cpTransfer d w).bus = s.bus ++ [c] ∧ c.kind = .coprocessor ∧ c.write = d ∧ c.data = w :=
  ⟨_, rfl, rfl, rfl, rfl⟩

/-- A requested cycle is an N or an S cycle (R86). -/
theorem State.cycle_kind (s : State) (q : Req) (write : Bool) (data : Word) :
    (s.cycle q write data).kind = if q.seq then .sequential else .nonsequential := by
  unfold BusCycle.kind State.cycle
  cases q.seq <;> rfl

@[simp] theorem State.busyWait_watch (s : State) : s.busyWait.dbg.watch = s.dbg.watch.busy := rfl

/-- A busy-wait changes nothing unless it is the instruction after a watchpointed access that waits. -/
theorem State.busyWait_of_not_armed (s : State) (h : ∀ m, s.dbg.watch ≠ .armed m) : s.busyWait = s := by
  have hw : s.dbg.watch.busy = s.dbg.watch := by
    cases h' : s.dbg.watch with
    | armed m => exact absurd h' (h m)
    | _ => rfl
  unfold State.busyWait
  rw [hw]

/-- With no exception or reset vector to be fetched, vector catch marks nothing. -/
@[simp] theorem State.vectorCaught_of_clear (s : State) (h : s.dbg.catchNext = false) : s.vectorCaught = false := by
  simp [State.vectorCaught, h]

/-- With no watchpointed access in progress the mark of the fetch is the mark. -/
theorem State.headMark_of_idle (s : State) (f : Fetched) (h : s.dbg.watch = .idle) : s.headMark f = f.mark := by
  unfold State.headMark
  rw [h]
  cases f.mark <;> rfl

/-- While reset is held nothing is in flight. -/
theorem State.inFlight_of_held (s : State) (h : s.resetReg = true) : s.inFlight = [] := by
  simp [State.inFlight, h]

/-! ### Computed fields -/

@[simp] theorem State.advance_mode (s : State) : (s.advance).mode = s.mode := by simp [State.mode]
@[simp] theorem State.advance_thumb (s : State) : (s.advance).thumb = s.thumb := by simp [State.thumb]
@[simp] theorem State.advance_instrSize (s : State) : (s.advance).instrSize = s.instrSize := by simp [State.instrSize]
@[simp] theorem State.setBankReg_mode (s : State) (m : Mode) (n : Reg) (v : Word) : (s.setBankReg m n v).mode = s.mode := by simp [State.mode]
@[simp] theorem State.setBankReg_thumb (s : State) (m : Mode) (n : Reg) (v : Word) : (s.setBankReg m n v).thumb = s.thumb := by simp [State.thumb]
@[simp] theorem State.setBankReg_instrSize (s : State) (m : Mode) (n : Reg) (v : Word) : (s.setBankReg m n v).instrSize = s.instrSize := by simp [State.instrSize]
@[simp] theorem State.setReg_mode (s : State) (n : Reg) (v : Word) : (s.setReg n v).mode = s.mode := by simp [State.mode]
@[simp] theorem State.setReg_thumb (s : State) (n : Reg) (v : Word) : (s.setReg n v).thumb = s.thumb := by simp [State.thumb]
@[simp] theorem State.setReg_instrSize (s : State) (n : Reg) (v : Word) : (s.setReg n v).instrSize = s.instrSize := by simp [State.instrSize]
@[simp] theorem State.setSpsrOf_mode (s : State) (m : Mode) (v : Word) : (s.setSpsrOf m v).mode = s.mode := by simp [State.mode]
@[simp] theorem State.setSpsrOf_thumb (s : State) (m : Mode) (v : Word) : (s.setSpsrOf m v).thumb = s.thumb := by simp [State.thumb]
@[simp] theorem State.setSpsrOf_instrSize (s : State) (m : Mode) (v : Word) : (s.setSpsrOf m v).instrSize = s.instrSize := by simp [State.instrSize]
@[simp] theorem State.branchTo_mode (s : State) (a : Word) : (s.branchTo a).mode = s.mode := by simp [State.mode]
@[simp] theorem State.branchTo_thumb (s : State) (a : Word) : (s.branchTo a).thumb = s.thumb := by simp [State.thumb]
@[simp] theorem State.branchTo_instrSize (s : State) (a : Word) : (s.branchTo a).instrSize = s.instrSize := by simp [State.instrSize]
@[simp] theorem State.writePc_mode (s : State) (a : Word) : (s.writePc a).mode = s.mode := by simp [State.mode]
@[simp] theorem State.writePc_thumb (s : State) (a : Word) : (s.writePc a).thumb = s.thumb := by simp [State.thumb]
@[simp] theorem State.writePc_instrSize (s : State) (a : Word) : (s.writePc a).instrSize = s.instrSize := by simp [State.instrSize]
@[simp] theorem State.draw_mode (s : State) : (s.draw.2).mode = s.mode := by simp [State.mode]
@[simp] theorem State.draw_thumb (s : State) : (s.draw.2).thumb = s.thumb := by simp [State.thumb]
@[simp] theorem State.draw_instrSize (s : State) : (s.draw.2).instrSize = s.instrSize := by simp [State.instrSize]
@[simp] theorem State.enterDebug_mode (s : State) (m : BitVec 4) : (s.enterDebug m).mode = s.mode := by simp [State.mode]
@[simp] theorem State.enterDebug_thumb (s : State) (m : BitVec 4) : (s.enterDebug m).thumb = s.thumb := by simp [State.thumb]
@[simp] theorem State.enterDebug_instrSize (s : State) (m : BitVec 4) : (s.enterDebug m).instrSize = s.instrSize := by simp [State.instrSize]
@[simp] theorem State.store_mode (s : State) (z : Size) (a v : Word) : (s.store z a v).mode = s.mode := by simp [State.mode]
@[simp] theorem State.store_thumb (s : State) (z : Size) (a v : Word) : (s.store z a v).thumb = s.thumb := by simp [State.thumb]
@[simp] theorem State.store_instrSize (s : State) (z : Size) (a v : Word) : (s.store z a v).instrSize = s.instrSize := by simp [State.instrSize]
@[simp] theorem State.observe_mode (s : State) (c : BusCycle) (d : Word) (a : Bool) : (s.observe c d a).mode = s.mode := by simp [State.mode]
@[simp] theorem State.observe_thumb (s : State) (c : BusCycle) (d : Word) (a : Bool) : (s.observe c d a).thumb = s.thumb := by simp [State.thumb]
@[simp] theorem State.observe_instrSize (s : State) (c : BusCycle) (d : Word) (a : Bool) : (s.observe c d a).instrSize = s.instrSize := by simp [State.instrSize]
@[simp] theorem State.takeScanned_mode (s : State) : (s.takeScanned.2).mode = s.mode := by simp [State.mode]
@[simp] theorem State.takeScanned_thumb (s : State) : (s.takeScanned.2).thumb = s.thumb := by simp [State.thumb]
@[simp] theorem State.takeScanned_instrSize (s : State) : (s.takeScanned.2).instrSize = s.instrSize := by simp [State.instrSize]
@[simp] theorem State.dataRead_mode (s : State) (q : Req) : ((s.dataRead q).2).mode = s.mode := by simp [State.mode]
@[simp] theorem State.dataRead_thumb (s : State) (q : Req) : ((s.dataRead q).2).thumb = s.thumb := by simp [State.thumb]
@[simp] theorem State.dataRead_instrSize (s : State) (q : Req) : ((s.dataRead q).2).instrSize = s.instrSize := by simp [State.instrSize]
@[simp] theorem State.dataWrite_mode (s : State) (q : Req) (v : Word) : ((s.dataWrite q v).2).mode = s.mode := by simp [State.mode]
@[simp] theorem State.dataWrite_thumb (s : State) (q : Req) (v : Word) : ((s.dataWrite q v).2).thumb = s.thumb := by simp [State.thumb]
@[simp] theorem State.dataWrite_instrSize (s : State) (q : Req) (v : Word) : ((s.dataWrite q v).2).instrSize = s.instrSize := by simp [State.instrSize]
@[simp] theorem State.cpAnswer_mode (s : State) : (s.cpAnswer.2).mode = s.mode := by simp [State.mode]
@[simp] theorem State.cpAnswer_thumb (s : State) : (s.cpAnswer.2).thumb = s.thumb := by simp [State.thumb]
@[simp] theorem State.cpAnswer_instrSize (s : State) : (s.cpAnswer.2).instrSize = s.instrSize := by simp [State.instrSize]
@[simp] theorem State.cpOffer_mode (s : State) (w : Word) : (s.cpOffer w).mode = s.mode := by simp [State.mode]
@[simp] theorem State.cpOffer_thumb (s : State) (w : Word) : (s.cpOffer w).thumb = s.thumb := by simp [State.thumb]
@[simp] theorem State.cpOffer_instrSize (s : State) (w : Word) : (s.cpOffer w).instrSize = s.instrSize := by simp [State.instrSize]
@[simp] theorem State.cpSend_mode (s : State) (w : Word) : (s.cpSend w).mode = s.mode := by simp [State.mode]
@[simp] theorem State.cpSend_thumb (s : State) (w : Word) : (s.cpSend w).thumb = s.thumb := by simp [State.thumb]
@[simp] theorem State.cpSend_instrSize (s : State) (w : Word) : (s.cpSend w).instrSize = s.instrSize := by simp [State.instrSize]
@[simp] theorem State.cpTransfer_mode (s : State) (d : Bool) (w : Word) : (s.cpTransfer d w).mode = s.mode := by simp [State.mode]
@[simp] theorem State.cpTransfer_thumb (s : State) (d : Bool) (w : Word) : (s.cpTransfer d w).thumb = s.thumb := by simp [State.thumb]
@[simp] theorem State.cpTransfer_instrSize (s : State) (d : Bool) (w : Word) : (s.cpTransfer d w).instrSize = s.instrSize := by simp [State.instrSize]
@[simp] theorem State.cpDrive_mode (s : State) (c : BitVec 4) (n : Nat) (w : Word) : (s.cpDrive c n w).mode = s.mode := by simp [State.mode]
@[simp] theorem State.cpDrive_thumb (s : State) (c : BitVec 4) (n : Nat) (w : Word) : (s.cpDrive c n w).thumb = s.thumb := by simp [State.thumb]
@[simp] theorem State.cpDrive_instrSize (s : State) (c : BitVec 4) (n : Nat) (w : Word) : (s.cpDrive c n w).instrSize = s.instrSize := by simp [State.instrSize]
@[simp] theorem State.busyWait_mode (s : State) : (s.busyWait).mode = s.mode := by simp [State.mode]
@[simp] theorem State.busyWait_thumb (s : State) : (s.busyWait).thumb = s.thumb := by simp [State.thumb]
@[simp] theorem State.busyWait_instrSize (s : State) : (s.busyWait).instrSize = s.instrSize := by simp [State.instrSize]
@[simp] theorem State.withMemoryOf_mode (s b : State) : (s.withMemoryOf b).mode = s.mode := by simp [State.mode]
@[simp] theorem State.withMemoryOf_thumb (s b : State) : (s.withMemoryOf b).thumb = s.thumb := by simp [State.thumb]
@[simp] theorem State.withMemoryOf_instrSize (s b : State) : (s.withMemoryOf b).instrSize = s.instrSize := by simp [State.instrSize]
@[simp] theorem State.settleIce_mode (s : State) : (s.settleIce).mode = s.mode := by simp [State.mode]
@[simp] theorem State.settleIce_thumb (s : State) : (s.settleIce).thumb = s.thumb := by simp [State.thumb]
@[simp] theorem State.settleIce_instrSize (s : State) : (s.settleIce).instrSize = s.instrSize := by simp [State.instrSize]
@[simp] theorem State.noteUserBank_mode (s : State) : (s.noteUserBank).mode = s.mode := by simp [State.mode]
@[simp] theorem State.noteUserBank_thumb (s : State) : (s.noteUserBank).thumb = s.thumb := by simp [State.thumb]
@[simp] theorem State.noteUserBank_instrSize (s : State) : (s.noteUserBank).instrSize = s.instrSize := by simp [State.instrSize]
@[simp] theorem State.writeBack_mode (s : State) (n : Reg) (a : Addressed) : (s.writeBack n a).mode = s.mode := by simp [State.mode]
@[simp] theorem State.writeBack_thumb (s : State) (n : Reg) (a : Addressed) : (s.writeBack n a).thumb = s.thumb := by simp [State.thumb]
@[simp] theorem State.writeBack_instrSize (s : State) (n : Reg) (a : Addressed) : (s.writeBack n a).instrSize = s.instrSize := by simp [State.instrSize]
@[simp] theorem State.fetch_mode (s : State) (a : Word) : (s.fetch a).mode = s.mode := by simp [State.mode]
@[simp] theorem State.fetch_thumb (s : State) (a : Word) : (s.fetch a).thumb = s.thumb := by simp [State.thumb]
@[simp] theorem State.fetch_instrSize (s : State) (a : Word) : (s.fetch a).instrSize = s.instrSize := by simp [State.instrSize]
@[simp] theorem State.preload_mode (s : State) (a : Word) : (s.preload a).mode = s.mode := by simp [State.mode]
@[simp] theorem State.preload_thumb (s : State) (a : Word) : (s.preload a).thumb = s.thumb := by simp [State.thumb]
@[simp] theorem State.preload_instrSize (s : State) (a : Word) : (s.preload a).instrSize = s.instrSize := by simp [State.instrSize]

end Sys2Proof.Machine
end

