-- ==== Sys2Proof/Laws/Dispatch.lean ====
section
/-! SUPPORT. Dispatch, arm by arm: the equation to rewrite `exec` with. -/

namespace Sys2Proof.Machine

theorem exec_mrs (o : MrsOps) (s : State) : exec (.mrs o) s = execMrs o s := rfl
theorem exec_msrReg (o : MsrRegOps) (s : State) : exec (.msrReg o) s = execMsrReg o s := rfl
theorem exec_msrImm (o : MsrImmOps) (s : State) : exec (.msrImm o) s = execMsrImm o s := rfl
theorem exec_bx (o : BxOps) (s : State) : exec (.bx o) s = execBx o s := rfl
theorem exec_blxReg (o : BxOps) (s : State) : exec (.blxReg o) s = execBlxReg o s := rfl
theorem exec_clz (o : ClzOps) (s : State) : exec (.clz o) s = execClz o s := rfl
theorem exec_qadd (o : QOps) (s : State) : exec (.qadd o) s = execQadd o s := rfl
theorem exec_qsub (o : QOps) (s : State) : exec (.qsub o) s = execQsub o s := rfl
theorem exec_qdadd (o : QOps) (s : State) : exec (.qdadd o) s = execQdadd o s := rfl
theorem exec_qdsub (o : QOps) (s : State) : exec (.qdsub o) s = execQdsub o s := rfl
theorem exec_bkpt (o : BkptOps) (s : State) : exec (.bkpt o) s = execBkpt o s := rfl
theorem exec_smlaXy (o : SmlaXyOps) (s : State) : exec (.smlaXy o) s = execSmlaXy o s := rfl
theorem exec_smlaW (o : SmlaWOps) (s : State) : exec (.smlaW o) s = execSmlaW o s := rfl
theorem exec_smulW (o : SmulWOps) (s : State) : exec (.smulW o) s = execSmulW o s := rfl
theorem exec_smlalXy (o : SmlalXyOps) (s : State) : exec (.smlalXy o) s = execSmlalXy o s := rfl
theorem exec_smulXy (o : SmulXyOps) (s : State) : exec (.smulXy o) s = execSmulXy o s := rfl
theorem exec_mul (o : MulOps) (s : State) : exec (.mul o) s = execMul o s := rfl
theorem exec_mla (o : MlaOps) (s : State) : exec (.mla o) s = execMla o s := rfl
theorem exec_umull (o : MullOps) (s : State) : exec (.umull o) s = execUmull o s := rfl
theorem exec_umlal (o : MullOps) (s : State) : exec (.umlal o) s = execUmlal o s := rfl
theorem exec_smull (o : MullOps) (s : State) : exec (.smull o) s = execSmull o s := rfl
theorem exec_smlal (o : MullOps) (s : State) : exec (.smlal o) s = execSmlal o s := rfl
theorem exec_swp (o : SwpOps) (s : State) : exec (.swp o) s = execSwp o s := rfl
theorem exec_swpb (o : SwpOps) (s : State) : exec (.swpb o) s = execSwpb o s := rfl
theorem exec_strhImm (o : ExtImmOps) (s : State) : exec (.strhImm o) s = execStrhImm o s := rfl
theorem exec_strhReg (o : ExtRegOps) (s : State) : exec (.strhReg o) s = execStrhReg o s := rfl
theorem exec_ldrhImm (o : ExtImmOps) (s : State) : exec (.ldrhImm o) s = execLdrhImm o s := rfl
theorem exec_ldrhReg (o : ExtRegOps) (s : State) : exec (.ldrhReg o) s = execLdrhReg o s := rfl
theorem exec_ldrsbImm (o : ExtImmOps) (s : State) : exec (.ldrsbImm o) s = execLdrsbImm o s := rfl
theorem exec_ldrsbReg (o : ExtRegOps) (s : State) : exec (.ldrsbReg o) s = execLdrsbReg o s := rfl
theorem exec_ldrshImm (o : ExtImmOps) (s : State) : exec (.ldrshImm o) s = execLdrshImm o s := rfl
theorem exec_ldrshReg (o : ExtRegOps) (s : State) : exec (.ldrshReg o) s = execLdrshReg o s := rfl
theorem exec_ldrdImm (o : ExtImmOps) (s : State) : exec (.ldrdImm o) s = execLdrdImm o s := rfl
theorem exec_ldrdReg (o : ExtRegOps) (s : State) : exec (.ldrdReg o) s = execLdrdReg o s := rfl
theorem exec_strdImm (o : ExtImmOps) (s : State) : exec (.strdImm o) s = execStrdImm o s := rfl
theorem exec_strdReg (o : ExtRegOps) (s : State) : exec (.strdReg o) s = execStrdReg o s := rfl
theorem exec_andImm (o : AluImmOps) (s : State) : exec (.andImm o) s = execAndImm o s := rfl
theorem exec_andShift (o : AluShiftOps) (s : State) : exec (.andShift o) s = execAndShift o s := rfl
theorem exec_andReg (o : AluRegOps) (s : State) : exec (.andReg o) s = execAndReg o s := rfl
theorem exec_eorImm (o : AluImmOps) (s : State) : exec (.eorImm o) s = execEorImm o s := rfl
theorem exec_eorShift (o : AluShiftOps) (s : State) : exec (.eorShift o) s = execEorShift o s := rfl
theorem exec_eorReg (o : AluRegOps) (s : State) : exec (.eorReg o) s = execEorReg o s := rfl
theorem exec_subImm (o : AluImmOps) (s : State) : exec (.subImm o) s = execSubImm o s := rfl
theorem exec_subShift (o : AluShiftOps) (s : State) : exec (.subShift o) s = execSubShift o s := rfl
theorem exec_subReg (o : AluRegOps) (s : State) : exec (.subReg o) s = execSubReg o s := rfl
theorem exec_rsbImm (o : AluImmOps) (s : State) : exec (.rsbImm o) s = execRsbImm o s := rfl
theorem exec_rsbShift (o : AluShiftOps) (s : State) : exec (.rsbShift o) s = execRsbShift o s := rfl
theorem exec_rsbReg (o : AluRegOps) (s : State) : exec (.rsbReg o) s = execRsbReg o s := rfl
theorem exec_addImm (o : AluImmOps) (s : State) : exec (.addImm o) s = execAddImm o s := rfl
theorem exec_addShift (o : AluShiftOps) (s : State) : exec (.addShift o) s = execAddShift o s := rfl
theorem exec_addReg (o : AluRegOps) (s : State) : exec (.addReg o) s = execAddReg o s := rfl
theorem exec_adcImm (o : AluImmOps) (s : State) : exec (.adcImm o) s = execAdcImm o s := rfl
theorem exec_adcShift (o : AluShiftOps) (s : State) : exec (.adcShift o) s = execAdcShift o s := rfl
theorem exec_adcReg (o : AluRegOps) (s : State) : exec (.adcReg o) s = execAdcReg o s := rfl
theorem exec_sbcImm (o : AluImmOps) (s : State) : exec (.sbcImm o) s = execSbcImm o s := rfl
theorem exec_sbcShift (o : AluShiftOps) (s : State) : exec (.sbcShift o) s = execSbcShift o s := rfl
theorem exec_sbcReg (o : AluRegOps) (s : State) : exec (.sbcReg o) s = execSbcReg o s := rfl
theorem exec_rscImm (o : AluImmOps) (s : State) : exec (.rscImm o) s = execRscImm o s := rfl
theorem exec_rscShift (o : AluShiftOps) (s : State) : exec (.rscShift o) s = execRscShift o s := rfl
theorem exec_rscReg (o : AluRegOps) (s : State) : exec (.rscReg o) s = execRscReg o s := rfl
theorem exec_tstImm (o : CmpImmOps) (s : State) : exec (.tstImm o) s = execTstImm o s := rfl
theorem exec_tstShift (o : CmpShiftOps) (s : State) : exec (.tstShift o) s = execTstShift o s := rfl
theorem exec_tstReg (o : CmpRegOps) (s : State) : exec (.tstReg o) s = execTstReg o s := rfl
theorem exec_teqImm (o : CmpImmOps) (s : State) : exec (.teqImm o) s = execTeqImm o s := rfl
theorem exec_teqShift (o : CmpShiftOps) (s : State) : exec (.teqShift o) s = execTeqShift o s := rfl
theorem exec_teqReg (o : CmpRegOps) (s : State) : exec (.teqReg o) s = execTeqReg o s := rfl
theorem exec_cmpImm (o : CmpImmOps) (s : State) : exec (.cmpImm o) s = execCmpImm o s := rfl
theorem exec_cmpShift (o : CmpShiftOps) (s : State) : exec (.cmpShift o) s = execCmpShift o s := rfl
theorem exec_cmpReg (o : CmpRegOps) (s : State) : exec (.cmpReg o) s = execCmpReg o s := rfl
theorem exec_cmnImm (o : CmpImmOps) (s : State) : exec (.cmnImm o) s = execCmnImm o s := rfl
theorem exec_cmnShift (o : CmpShiftOps) (s : State) : exec (.cmnShift o) s = execCmnShift o s := rfl
theorem exec_cmnReg (o : CmpRegOps) (s : State) : exec (.cmnReg o) s = execCmnReg o s := rfl
theorem exec_orrImm (o : AluImmOps) (s : State) : exec (.orrImm o) s = execOrrImm o s := rfl
theorem exec_orrShift (o : AluShiftOps) (s : State) : exec (.orrShift o) s = execOrrShift o s := rfl
theorem exec_orrReg (o : AluRegOps) (s : State) : exec (.orrReg o) s = execOrrReg o s := rfl
theorem exec_movImm (o : MovImmOps) (s : State) : exec (.movImm o) s = execMovImm o s := rfl
theorem exec_movShift (o : MovShiftOps) (s : State) : exec (.movShift o) s = execMovShift o s := rfl
theorem exec_movReg (o : MovRegOps) (s : State) : exec (.movReg o) s = execMovReg o s := rfl
theorem exec_bicImm (o : AluImmOps) (s : State) : exec (.bicImm o) s = execBicImm o s := rfl
theorem exec_bicShift (o : AluShiftOps) (s : State) : exec (.bicShift o) s = execBicShift o s := rfl
theorem exec_bicReg (o : AluRegOps) (s : State) : exec (.bicReg o) s = execBicReg o s := rfl
theorem exec_mvnImm (o : MovImmOps) (s : State) : exec (.mvnImm o) s = execMvnImm o s := rfl
theorem exec_mvnShift (o : MovShiftOps) (s : State) : exec (.mvnShift o) s = execMvnShift o s := rfl
theorem exec_mvnReg (o : MovRegOps) (s : State) : exec (.mvnReg o) s = execMvnReg o s := rfl
theorem exec_ldrImmPre (o : MemImmPreOps) (s : State) : exec (.ldrImmPre o) s = execLdrImmPre o s := rfl
theorem exec_ldrImmPost (o : MemImmPostOps) (s : State) : exec (.ldrImmPost o) s = execLdrImmPost o s := rfl
theorem exec_ldrtImm (o : MemImmPostOps) (s : State) : exec (.ldrtImm o) s = execLdrtImm o s := rfl
theorem exec_ldrRegPre (o : MemRegPreOps) (s : State) : exec (.ldrRegPre o) s = execLdrRegPre o s := rfl
theorem exec_ldrRegPost (o : MemRegPostOps) (s : State) : exec (.ldrRegPost o) s = execLdrRegPost o s := rfl
theorem exec_ldrtReg (o : MemRegPostOps) (s : State) : exec (.ldrtReg o) s = execLdrtReg o s := rfl
theorem exec_ldrbImmPre (o : MemImmPreOps) (s : State) : exec (.ldrbImmPre o) s = execLdrbImmPre o s := rfl
theorem exec_ldrbImmPost (o : MemImmPostOps) (s : State) : exec (.ldrbImmPost o) s = execLdrbImmPost o s := rfl
theorem exec_ldrbtImm (o : MemImmPostOps) (s : State) : exec (.ldrbtImm o) s = execLdrbtImm o s := rfl
theorem exec_ldrbRegPre (o : MemRegPreOps) (s : State) : exec (.ldrbRegPre o) s = execLdrbRegPre o s := rfl
theorem exec_ldrbRegPost (o : MemRegPostOps) (s : State) : exec (.ldrbRegPost o) s = execLdrbRegPost o s := rfl
theorem exec_ldrbtReg (o : MemRegPostOps) (s : State) : exec (.ldrbtReg o) s = execLdrbtReg o s := rfl
theorem exec_strImmPre (o : MemImmPreOps) (s : State) : exec (.strImmPre o) s = execStrImmPre o s := rfl
theorem exec_strImmPost (o : MemImmPostOps) (s : State) : exec (.strImmPost o) s = execStrImmPost o s := rfl
theorem exec_strtImm (o : MemImmPostOps) (s : State) : exec (.strtImm o) s = execStrtImm o s := rfl
theorem exec_strRegPre (o : MemRegPreOps) (s : State) : exec (.strRegPre o) s = execStrRegPre o s := rfl
theorem exec_strRegPost (o : MemRegPostOps) (s : State) : exec (.strRegPost o) s = execStrRegPost o s := rfl
theorem exec_strtReg (o : MemRegPostOps) (s : State) : exec (.strtReg o) s = execStrtReg o s := rfl
theorem exec_strbImmPre (o : MemImmPreOps) (s : State) : exec (.strbImmPre o) s = execStrbImmPre o s := rfl
theorem exec_strbImmPost (o : MemImmPostOps) (s : State) : exec (.strbImmPost o) s = execStrbImmPost o s := rfl
theorem exec_strbtImm (o : MemImmPostOps) (s : State) : exec (.strbtImm o) s = execStrbtImm o s := rfl
theorem exec_strbRegPre (o : MemRegPreOps) (s : State) : exec (.strbRegPre o) s = execStrbRegPre o s := rfl
theorem exec_strbRegPost (o : MemRegPostOps) (s : State) : exec (.strbRegPost o) s = execStrbRegPost o s := rfl
theorem exec_strbtReg (o : MemRegPostOps) (s : State) : exec (.strbtReg o) s = execStrbtReg o s := rfl
theorem exec_pldImm (o : PldImmOps) (s : State) : exec (.pldImm o) s = execPldImm o s := rfl
theorem exec_pldReg (o : PldRegOps) (s : State) : exec (.pldReg o) s = execPldReg o s := rfl
theorem exec_ldm1 (o : LdmOps) (s : State) : exec (.ldm1 o) s = execLdm1 o s := rfl
theorem exec_ldm2 (o : Ldm15Ops) (s : State) : exec (.ldm2 o) s = execLdm2 o s := rfl
theorem exec_ldm3 (o : Ldm15Ops) (s : State) : exec (.ldm3 o) s = execLdm3 o s := rfl
theorem exec_stm1 (o : LdmOps) (s : State) : exec (.stm1 o) s = execStm1 o s := rfl
theorem exec_stm2 (o : LdmOps) (s : State) : exec (.stm2 o) s = execStm2 o s := rfl
theorem exec_b (o : BranchOps) (s : State) : exec (.b o) s = execB o s := rfl
theorem exec_bl (o : BranchOps) (s : State) : exec (.bl o) s = execBl o s := rfl
theorem exec_blxImm (o : BlxImmOps) (s : State) : exec (.blxImm o) s = execBlxImm o s := rfl
theorem exec_cdp (o : CdpOps) (s : State) : exec (.cdp o) s = execCdp o s := rfl
theorem exec_mcr (o : McrOps) (s : State) : exec (.mcr o) s = execMcr o s := rfl
theorem exec_mrc (o : McrOps) (s : State) : exec (.mrc o) s = execMrc o s := rfl
theorem exec_ldc (o : LdcOps) (s : State) : exec (.ldc o) s = execLdc o s := rfl
theorem exec_stc (o : LdcOps) (s : State) : exec (.stc o) s = execStc o s := rfl
theorem exec_cdp2 (o : Cdp2Ops) (s : State) : exec (.cdp2 o) s = execCdp2 o s := rfl
theorem exec_mcr2 (o : Mcr2Ops) (s : State) : exec (.mcr2 o) s = execMcr2 o s := rfl
theorem exec_mrc2 (o : Mcr2Ops) (s : State) : exec (.mrc2 o) s = execMrc2 o s := rfl
theorem exec_ldc2 (o : Ldc2Ops) (s : State) : exec (.ldc2 o) s = execLdc2 o s := rfl
theorem exec_stc2 (o : Ldc2Ops) (s : State) : exec (.stc2 o) s = execStc2 o s := rfl
theorem exec_mcrr (o : McrrOps) (s : State) : exec (.mcrr o) s = execMcrr o s := rfl
theorem exec_mrrc (o : McrrOps) (s : State) : exec (.mrrc o) s = execMrrc o s := rfl
theorem exec_swi (o : SwiOps) (s : State) : exec (.swi o) s = execSwi o s := rfl
theorem exec_tLslImm (o : TShiftImmOps) (s : State) : exec (.tLslImm o) s = execTLslImm o s := rfl
theorem exec_tLsrImm (o : TShiftImmOps) (s : State) : exec (.tLsrImm o) s = execTLsrImm o s := rfl
theorem exec_tAsrImm (o : TShiftImmOps) (s : State) : exec (.tAsrImm o) s = execTAsrImm o s := rfl
theorem exec_tAddReg (o : TAdd3Ops) (s : State) : exec (.tAddReg o) s = execTAddReg o s := rfl
theorem exec_tSubReg (o : TAdd3Ops) (s : State) : exec (.tSubReg o) s = execTSubReg o s := rfl
theorem exec_tAddImm3 (o : TAddImm3Ops) (s : State) : exec (.tAddImm3 o) s = execTAddImm3 o s := rfl
theorem exec_tSubImm3 (o : TAddImm3Ops) (s : State) : exec (.tSubImm3 o) s = execTSubImm3 o s := rfl
theorem exec_tMovImm (o : TRdImm8Ops) (s : State) : exec (.tMovImm o) s = execTMovImm o s := rfl
theorem exec_tCmpImm (o : TRdImm8Ops) (s : State) : exec (.tCmpImm o) s = execTCmpImm o s := rfl
theorem exec_tAddImm8 (o : TRdImm8Ops) (s : State) : exec (.tAddImm8 o) s = execTAddImm8 o s := rfl
theorem exec_tSubImm8 (o : TRdImm8Ops) (s : State) : exec (.tSubImm8 o) s = execTSubImm8 o s := rfl
theorem exec_tAnd (o : TAluOps) (s : State) : exec (.tAnd o) s = execTAnd o s := rfl
theorem exec_tEor (o : TAluOps) (s : State) : exec (.tEor o) s = execTEor o s := rfl
theorem exec_tLslReg (o : TAluOps) (s : State) : exec (.tLslReg o) s = execTLslReg o s := rfl
theorem exec_tLsrReg (o : TAluOps) (s : State) : exec (.tLsrReg o) s = execTLsrReg o s := rfl
theorem exec_tAsrReg (o : TAluOps) (s : State) : exec (.tAsrReg o) s = execTAsrReg o s := rfl
theorem exec_tAdc (o : TAluOps) (s : State) : exec (.tAdc o) s = execTAdc o s := rfl
theorem exec_tSbc (o : TAluOps) (s : State) : exec (.tSbc o) s = execTSbc o s := rfl
theorem exec_tRor (o : TAluOps) (s : State) : exec (.tRor o) s = execTRor o s := rfl
theorem exec_tTst (o : TAluOps) (s : State) : exec (.tTst o) s = execTTst o s := rfl
theorem exec_tNeg (o : TAluOps) (s : State) : exec (.tNeg o) s = execTNeg o s := rfl
theorem exec_tCmpLow (o : TAluOps) (s : State) : exec (.tCmpLow o) s = execTCmpLow o s := rfl
theorem exec_tCmn (o : TAluOps) (s : State) : exec (.tCmn o) s = execTCmn o s := rfl
theorem exec_tOrr (o : TAluOps) (s : State) : exec (.tOrr o) s = execTOrr o s := rfl
theorem exec_tMul (o : TAluOps) (s : State) : exec (.tMul o) s = execTMul o s := rfl
theorem exec_tBic (o : TAluOps) (s : State) : exec (.tBic o) s = execTBic o s := rfl
theorem exec_tMvn (o : TAluOps) (s : State) : exec (.tMvn o) s = execTMvn o s := rfl
theorem exec_tAddHi (o : THiOps) (s : State) : exec (.tAddHi o) s = execTAddHi o s := rfl
theorem exec_tCmpHi (o : THiOps) (s : State) : exec (.tCmpHi o) s = execTCmpHi o s := rfl
theorem exec_tMovHi (o : THiOps) (s : State) : exec (.tMovHi o) s = execTMovHi o s := rfl
theorem exec_tBx (o : TBxOps) (s : State) : exec (.tBx o) s = execTBx o s := rfl
theorem exec_tBlxReg (o : TBxOps) (s : State) : exec (.tBlxReg o) s = execTBlxReg o s := rfl
theorem exec_tLdrPc (o : TRdImm8Ops) (s : State) : exec (.tLdrPc o) s = execTLdrPc o s := rfl
theorem exec_tStrReg (o : TMemRegOps) (s : State) : exec (.tStrReg o) s = execTStrReg o s := rfl
theorem exec_tStrhReg (o : TMemRegOps) (s : State) : exec (.tStrhReg o) s = execTStrhReg o s := rfl
theorem exec_tStrbReg (o : TMemRegOps) (s : State) : exec (.tStrbReg o) s = execTStrbReg o s := rfl
theorem exec_tLdrsbReg (o : TMemRegOps) (s : State) : exec (.tLdrsbReg o) s = execTLdrsbReg o s := rfl
theorem exec_tLdrReg (o : TMemRegOps) (s : State) : exec (.tLdrReg o) s = execTLdrReg o s := rfl
theorem exec_tLdrhReg (o : TMemRegOps) (s : State) : exec (.tLdrhReg o) s = execTLdrhReg o s := rfl
theorem exec_tLdrbReg (o : TMemRegOps) (s : State) : exec (.tLdrbReg o) s = execTLdrbReg o s := rfl
theorem exec_tLdrshReg (o : TMemRegOps) (s : State) : exec (.tLdrshReg o) s = execTLdrshReg o s := rfl
theorem exec_tStrImm (o : TMemImmOps) (s : State) : exec (.tStrImm o) s = execTStrImm o s := rfl
theorem exec_tLdrImm (o : TMemImmOps) (s : State) : exec (.tLdrImm o) s = execTLdrImm o s := rfl
theorem exec_tStrbImm (o : TMemImmOps) (s : State) : exec (.tStrbImm o) s = execTStrbImm o s := rfl
theorem exec_tLdrbImm (o : TMemImmOps) (s : State) : exec (.tLdrbImm o) s = execTLdrbImm o s := rfl
theorem exec_tStrhImm (o : TMemImmOps) (s : State) : exec (.tStrhImm o) s = execTStrhImm o s := rfl
theorem exec_tLdrhImm (o : TMemImmOps) (s : State) : exec (.tLdrhImm o) s = execTLdrhImm o s := rfl
theorem exec_tStrSp (o : TRdImm8Ops) (s : State) : exec (.tStrSp o) s = execTStrSp o s := rfl
theorem exec_tLdrSp (o : TRdImm8Ops) (s : State) : exec (.tLdrSp o) s = execTLdrSp o s := rfl
theorem exec_tAddPc (o : TRdImm8Ops) (s : State) : exec (.tAddPc o) s = execTAddPc o s := rfl
theorem exec_tAddSp (o : TRdImm8Ops) (s : State) : exec (.tAddSp o) s = execTAddSp o s := rfl
theorem exec_tIncSp (o : TSpImmOps) (s : State) : exec (.tIncSp o) s = execTIncSp o s := rfl
theorem exec_tDecSp (o : TSpImmOps) (s : State) : exec (.tDecSp o) s = execTDecSp o s := rfl
theorem exec_tPush (o : TStackOps) (s : State) : exec (.tPush o) s = execTPush o s := rfl
theorem exec_tPop (o : TStackOps) (s : State) : exec (.tPop o) s = execTPop o s := rfl
theorem exec_tBkpt (o : TCommentOps) (s : State) : exec (.tBkpt o) s = execTBkpt o s := rfl
theorem exec_tStmia (o : TMultiOps) (s : State) : exec (.tStmia o) s = execTStmia o s := rfl
theorem exec_tLdmia (o : TMultiOps) (s : State) : exec (.tLdmia o) s = execTLdmia o s := rfl
theorem exec_tBCond (o : TCondBranchOps) (s : State) : exec (.tBCond o) s = execTBCond o s := rfl
theorem exec_tSwi (o : TCommentOps) (s : State) : exec (.tSwi o) s = execTSwi o s := rfl
theorem exec_tB (o : TBranchOps) (s : State) : exec (.tB o) s = execTB o s := rfl
theorem exec_tBlPrefix (o : TBranchOps) (s : State) : exec (.tBlPrefix o) s = execTBlPrefix o s := rfl
theorem exec_tBlSuffix (o : TBranchOps) (s : State) : exec (.tBlSuffix o) s = execTBlSuffix o s := rfl
theorem exec_tBlxSuffix (o : TBlxSuffixOps) (s : State) : exec (.tBlxSuffix o) s = execTBlxSuffix o s := rfl

end Sys2Proof.Machine
end

