-- ==== Sys2Proof/Laws/Memory.lean ====
section
/-! SUPPORT. Memory: read after write, and the canonical form (R60 to R62); what the step's own operations do. -/

namespace Sys2Proof.Machine

theorem Memory.wfFrom_mono {m : Memory} {lo lo' : Nat} (h : lo' ≤ lo) (w : m.wfFrom lo = true) :
    m.wfFrom lo' = true := by
  cases m with
  | nil => rfl
  | cons c t =>
    obtain ⟨k, v⟩ := c
    simp only [Memory.wfFrom, Bool.and_eq_true, decide_eq_true_eq] at w ⊢
    exact ⟨⟨⟨by omega, w.1.1.2⟩, w.1.2⟩, w.2⟩

/-- Below the first listed address everything reads 0. -/
theorem Memory.get_below {m : Memory} : ∀ {lo a : Nat}, m.wfFrom lo = true → a < lo → m.get a = 0 := by
  intro lo a w h
  cases m with
  | nil => rfl
  | cons c t =>
    obtain ⟨k, v⟩ := c
    simp only [Memory.wfFrom, Bool.and_eq_true, decide_eq_true_eq] at w
    have h1 : ¬ a = k := by omega
    have h2 : a < k := by omega
    simp [Memory.get, h1, h2]

/-- A write keeps the canonical form. -/
theorem Memory.put_wfFrom (m : Memory) : ∀ {lo a : Nat} {b : Byte}, m.wfFrom lo = true → lo ≤ a → a < 2 ^ 32 →
    (m.put a b).wfFrom lo = true := by
  induction m with
  | nil =>
    intro lo a b _ h1 h2
    simp only [Memory.put]
    split
    · rfl
    · rename_i hb
      simp only [Memory.wfFrom, Bool.and_eq_true, decide_eq_true_eq]
      exact ⟨⟨⟨h1, h2⟩, by simpa using hb⟩, trivial⟩
  | cons c t ih =>
    intro lo a b w h1 h2
    obtain ⟨k, v⟩ := c
    have w' := w
    simp only [Memory.wfFrom, Bool.and_eq_true, decide_eq_true_eq] at w'
    obtain ⟨⟨⟨w1, w2⟩, w3⟩, w4⟩ := w'
    simp only [Memory.put]
    split
    · split
      · exact w
      · rename_i hak hb
        simp only [Memory.wfFrom, Bool.and_eq_true, decide_eq_true_eq]
        refine ⟨⟨⟨h1, h2⟩, by simpa using hb⟩, ⟨⟨by omega, w2⟩, w3⟩, w4⟩
    · split
      · split
        · exact Memory.wfFrom_mono (by omega) w4
        · rename_i hak hb
          simp only [Memory.wfFrom, Bool.and_eq_true, decide_eq_true_eq]
          exact ⟨⟨⟨h1, h2⟩, by simpa using hb⟩, by subst_vars; exact w4⟩
      · simp only [Memory.wfFrom, Bool.and_eq_true, decide_eq_true_eq]
        exact ⟨⟨⟨w1, w2⟩, w3⟩, ih w4 (by omega) h2⟩

/-- Read after write, the same address. -/
theorem Memory.get_put_same (m : Memory) : ∀ {lo a : Nat} {b : Byte}, m.wfFrom lo = true → (m.put a b).get a = b := by
  induction m with
  | nil =>
    intro lo a b _
    simp only [Memory.put]
    split
    · rename_i hb; rw [hb]; rfl
    · simp [Memory.get]
  | cons c t ih =>
    intro lo a b w
    obtain ⟨k, v⟩ := c
    simp only [Memory.wfFrom, Bool.and_eq_true, decide_eq_true_eq] at w
    simp only [Memory.put]
    split
    · rename_i hak
      have hne : ¬ a = k := by omega
      split
      · rename_i hb; simp [Memory.get, hne, hak, hb]
      · simp [Memory.get]
    · split
      · rename_i hak
        split
        · rename_i hb; subst hak; rw [hb]; exact Memory.get_below w.2 (by omega)
        · simp [Memory.get]
      · rename_i h1 h2
        simp [Memory.get, h1, h2, ih w.2]

/-- A write leaves every other address alone. -/
theorem Memory.get_put_other (m : Memory) : ∀ {lo a a' : Nat} {b : Byte}, m.wfFrom lo = true → a' ≠ a →
    (m.put a b).get a' = m.get a' := by
  induction m with
  | nil =>
    intro lo a a' b _ h
    simp only [Memory.put]
    split
    · rfl
    · simp only [Memory.get, if_neg h, ite_self]
  | cons c t ih =>
    intro lo a a' b w h
    obtain ⟨k, v⟩ := c
    simp only [Memory.wfFrom, Bool.and_eq_true, decide_eq_true_eq] at w
    simp only [Memory.put]
    split
    · rename_i hak
      split
      · rfl
      · rw [Memory.get]
        rw [if_neg h]
        split
        · rename_i hlt
          have : ¬ a' = k := by omega
          have h3 : a' < k := by omega
          simp [Memory.get, this, h3]
        · rfl
    · split
      · rename_i hak
        subst hak
        split
        · simp only [Memory.get, if_neg h]
          split
          · exact Memory.get_below w.2 (by omega)
          · rfl
        · simp only [Memory.get, if_neg h]
      · simp only [Memory.get]
        rw [ih w.2 h]

theorem Memory.putByte_wf {m : Memory} (h : m.wf = true) (a : Word) (b : Byte) : (m.putByte a b).wf = true :=
  Memory.put_wfFrom m h (Nat.zero_le _) a.isLt

theorem Memory.putHalf_wf {m : Memory} (h : m.wf = true) (big : Bool) (a : Word) (v : Half) :
    (m.putHalf big a v).wf = true := by
  unfold Memory.putHalf
  split <;> exact putByte_wf (putByte_wf h _ _) _ _

theorem Memory.putWord_wf {m : Memory} (h : m.wf = true) (big : Bool) (a v : Word) :
    (m.putWord big a v).wf = true := by
  unfold Memory.putWord
  split <;> exact putByte_wf (putByte_wf (putByte_wf (putByte_wf h _ _) _ _) _ _) _ _

theorem Memory.write_wf {m : Memory} (h : m.wf = true) (big : Bool) (z : Size) (a v : Word) :
    (m.write big z a v).wf = true := by
  cases z
  · exact Memory.putByte_wf h _ _
  · exact Memory.putHalf_wf h _ _ _
  · exact Memory.putWord_wf h _ _ _

/-- One byte after one byte is stored. -/
theorem Memory.byte_putByte {m : Memory} (h : m.wf = true) (a x : Word) (b : Byte) :
    (m.putByte a b).byte x = if x = a then b else m.byte x := by
  unfold Memory.byte Memory.putByte
  split
  · subst_vars; exact Memory.get_put_same m h
  · rename_i hne
    exact Memory.get_put_other m h (fun e => hne (BitVec.eq_of_toNat_eq e))

/-- A store to the data interface keeps the canonical form, whatever happens to it. -/
theorem State.dataWrite_memWf {s : State} (h : s.mem.wf = true) (q : Req) (v : Word) :
    (s.dataWrite q v).2.mem.wf = true := by
  unfold State.dataWrite
  dsimp only
  split
  · exact h
  · split
    · exact h
    · exact Memory.write_wf h _ _ _ _

theorem reset_memWf : State.reset.mem.wf = true := rfl
theorem reset_imemWf : State.reset.imem.wf = true := rfl

/-- A store keeps the canonical form of both memories. -/
theorem State.store_memWf {s : State} (h : s.mem.wf = true) (z : Size) (a v : Word) : (s.store z a v).mem.wf = true :=
  Memory.write_wf h _ _ _ _
theorem State.store_imemWf {s : State} (h : s.imem.wf = true) (z : Size) (a v : Word) :
    (s.store z a v).imem.wf = true := by
  unfold State.store
  dsimp only
  split
  · exact Memory.write_wf h _ _ _ _
  · exact h

/-- A data write keeps the canonical form of the instruction array. -/
theorem State.dataWrite_imemWf {s : State} (h : s.imem.wf = true) (q : Req) (v : Word) :
    (s.dataWrite q v).2.imem.wf = true := by
  unfold State.dataWrite
  split
  · exact h
  · dsimp only
    split
    · exact h
    · exact State.store_imemWf h _ _ _

/-! ### What a step can do, said once -/

/-- An instruction that the step lets run is `exec` of it with the user-bank note used up. -/
theorem execNext_next {i : Instr} {s t : State} (h : execNext i s = .next t) :
    s.bankConflict i = false ∧ exec i { s with bankHazard := false } = .next t := by
  unfold execNext at h
  split at h
  · cases h
  · rename_i hc
    exact ⟨by simpa using hc, h⟩

/-- Without the note there is no conflict. -/
theorem execNext_of_clear {i : Instr} {s : State} (h : s.bankHazard = false) :
    execNext i s = exec i { s with bankHazard := false } := by
  simp [execNext, State.bankConflict, h]

/-- A store cut short by reset touches memory and the free-value counter only, and keeps the canonical form. -/
theorem cutStores_frame (cs : List BusCycle) (s : State) : cutStores cs s =
    { s with mem := (cutStores cs s).mem, imem := (cutStores cs s).imem, freeIx := (cutStores cs s).freeIx } := by
  induction cs generalizing s with
  | nil => rfl
  | cons c cs ih => rw [cutStores, ih]; rfl
theorem cutStores_memWf (cs : List BusCycle) {s : State} (h : s.mem.wf = true) : (cutStores cs s).mem.wf = true := by
  induction cs generalizing s with
  | nil => exact h
  | cons c cs ih => exact ih (State.store_memWf h _ _ _)
theorem cutStores_imemWf (cs : List BusCycle) {s : State} (h : s.imem.wf = true) :
    (cutStores cs s).imem.wf = true := by
  induction cs generalizing s with
  | nil => exact h
  | cons c cs ih => exact ih (State.store_imemWf h _ _ _)

end Sys2Proof.Machine
end

