-- ==== Sys2Proof/Laws/Ops.lean ====
section
/-! SUPPORT. What the compound operations leave alone, field by field: bursts of words, block transfers, single
transfers, coprocessor transfers, result writes. -/

namespace Sys2Proof.Machine

/-! ### readWords -/

@[simp] theorem readWords_regs (n : Nat) (s : State) (a : Word) (q : Bool) (b : BitVec 4) :
    ((readWords n s a q b).2).regs = s.regs := by
  induction n generalizing s a q with
  | zero => rfl
  | succ n ih => simp [readWords, ih]
@[simp] theorem readWords_pc (n : Nat) (s : State) (a : Word) (q : Bool) (b : BitVec 4) :
    ((readWords n s a q b).2).pc = s.pc := by
  induction n generalizing s a q with
  | zero => rfl
  | succ n ih => simp [readWords, ih]
@[simp] theorem readWords_cpsr (n : Nat) (s : State) (a : Word) (q : Bool) (b : BitVec 4) :
    ((readWords n s a q b).2).cpsr = s.cpsr := by
  induction n generalizing s a q with
  | zero => rfl
  | succ n ih => simp [readWords, ih]
@[simp] theorem readWords_spsrFiq (n : Nat) (s : State) (a : Word) (q : Bool) (b : BitVec 4) :
    ((readWords n s a q b).2).spsrFiq = s.spsrFiq := by
  induction n generalizing s a q with
  | zero => rfl
  | succ n ih => simp [readWords, ih]
@[simp] theorem readWords_spsrSvc (n : Nat) (s : State) (a : Word) (q : Bool) (b : BitVec 4) :
    ((readWords n s a q b).2).spsrSvc = s.spsrSvc := by
  induction n generalizing s a q with
  | zero => rfl
  | succ n ih => simp [readWords, ih]
@[simp] theorem readWords_spsrAbt (n : Nat) (s : State) (a : Word) (q : Bool) (b : BitVec 4) :
    ((readWords n s a q b).2).spsrAbt = s.spsrAbt := by
  induction n generalizing s a q with
  | zero => rfl
  | succ n ih => simp [readWords, ih]
@[simp] theorem readWords_spsrIrq (n : Nat) (s : State) (a : Word) (q : Bool) (b : BitVec 4) :
    ((readWords n s a q b).2).spsrIrq = s.spsrIrq := by
  induction n generalizing s a q with
  | zero => rfl
  | succ n ih => simp [readWords, ih]
@[simp] theorem readWords_spsrUnd (n : Nat) (s : State) (a : Word) (q : Bool) (b : BitVec 4) :
    ((readWords n s a q b).2).spsrUnd = s.spsrUnd := by
  induction n generalizing s a q with
  | zero => rfl
  | succ n ih => simp [readWords, ih]
@[simp] theorem readWords_mem (n : Nat) (s : State) (a : Word) (q : Bool) (b : BitVec 4) :
    ((readWords n s a q b).2).mem = s.mem := by
  induction n generalizing s a q with
  | zero => rfl
  | succ n ih => simp [readWords, ih]
@[simp] theorem readWords_imem (n : Nat) (s : State) (a : Word) (q : Bool) (b : BitVec 4) :
    ((readWords n s a q b).2).imem = s.imem := by
  induction n generalizing s a q with
  | zero => rfl
  | succ n ih => simp [readWords, ih]
@[simp] theorem readWords_fetchQ (n : Nat) (s : State) (a : Word) (q : Bool) (b : BitVec 4) :
    ((readWords n s a q b).2).fetchQ = s.fetchQ := by
  induction n generalizing s a q with
  | zero => rfl
  | succ n ih => simp [readWords, ih]
@[simp] theorem readWords_fiqReg (n : Nat) (s : State) (a : Word) (q : Bool) (b : BitVec 4) :
    ((readWords n s a q b).2).fiqReg = s.fiqReg := by
  induction n generalizing s a q with
  | zero => rfl
  | succ n ih => simp [readWords, ih]
@[simp] theorem readWords_irqReg (n : Nat) (s : State) (a : Word) (q : Bool) (b : BitVec 4) :
    ((readWords n s a q b).2).irqReg = s.irqReg := by
  induction n generalizing s a q with
  | zero => rfl
  | succ n ih => simp [readWords, ih]
@[simp] theorem readWords_bankHazard (n : Nat) (s : State) (a : Word) (q : Bool) (b : BitVec 4) :
    ((readWords n s a q b).2).bankHazard = s.bankHazard := by
  induction n generalizing s a q with
  | zero => rfl
  | succ n ih => simp [readWords, ih]
@[simp] theorem readWords_ibus (n : Nat) (s : State) (a : Word) (q : Bool) (b : BitVec 4) :
    ((readWords n s a q b).2).ibus = s.ibus := by
  induction n generalizing s a q with
  | zero => rfl
  | succ n ih => simp [readWords, ih]
@[simp] theorem readWords_cfg (n : Nat) (s : State) (a : Word) (q : Bool) (b : BitVec 4) :
    ((readWords n s a q b).2).cfg = s.cfg := by
  induction n generalizing s a q with
  | zero => rfl
  | succ n ih => simp [readWords, ih]
@[simp] theorem readWords_pins (n : Nat) (s : State) (a : Word) (q : Bool) (b : BitVec 4) :
    ((readWords n s a q b).2).pins = s.pins := by
  induction n generalizing s a q with
  | zero => rfl
  | succ n ih => simp [readWords, ih]
@[simp] theorem readWords_pinStream (n : Nat) (s : State) (a : Word) (q : Bool) (b : BitVec 4) :
    ((readWords n s a q b).2).pinStream = s.pinStream := by
  induction n generalizing s a q with
  | zero => rfl
  | succ n ih => simp [readWords, ih]
@[simp] theorem readWords_cpScript (n : Nat) (s : State) (a : Word) (q : Bool) (b : BitVec 4) :
    ((readWords n s a q b).2).cpScript = s.cpScript := by
  induction n generalizing s a q with
  | zero => rfl
  | succ n ih => simp [readWords, ih]
@[simp] theorem readWords_cpEvents (n : Nat) (s : State) (a : Word) (q : Bool) (b : BitVec 4) :
    ((readWords n s a q b).2).cpEvents = s.cpEvents := by
  induction n generalizing s a q with
  | zero => rfl
  | succ n ih => simp [readWords, ih]
@[simp] theorem readWords_tap (n : Nat) (s : State) (a : Word) (q : Bool) (b : BitVec 4) :
    ((readWords n s a q b).2).tap = s.tap := by
  induction n generalizing s a q with
  | zero => rfl
  | succ n ih => simp [readWords, ih]
@[simp] theorem readWords_freeIx (n : Nat) (s : State) (a : Word) (q : Bool) (b : BitVec 4) (h : s.cfg.dbgen = false) :
    ((readWords n s a q b).2).freeIx = s.freeIx := by
  induction n generalizing s a q with
  | zero => rfl
  | succ n ih => simp [h, readWords, ih]
@[simp] theorem readWords_mode (n : Nat) (s : State) (a : Word) (q : Bool) (b : BitVec 4) :
    ((readWords n s a q b).2).mode = s.mode := by simp [State.mode]
@[simp] theorem readWords_thumb (n : Nat) (s : State) (a : Word) (q : Bool) (b : BitVec 4) :
    ((readWords n s a q b).2).thumb = s.thumb := by simp [State.thumb]

/-! ### writeWords -/

@[simp] theorem writeWords_regs (vs : List Word) (s : State) (a : Word) (q : Bool) (b : BitVec 4) :
    ((writeWords vs s a q b).2).regs = s.regs := by
  induction vs generalizing s a q with
  | nil => rfl
  | cons v vs ih => simp [writeWords, ih]
@[simp] theorem writeWords_pc (vs : List Word) (s : State) (a : Word) (q : Bool) (b : BitVec 4) :
    ((writeWords vs s a q b).2).pc = s.pc := by
  induction vs generalizing s a q with
  | nil => rfl
  | cons v vs ih => simp [writeWords, ih]
@[simp] theorem writeWords_cpsr (vs : List Word) (s : State) (a : Word) (q : Bool) (b : BitVec 4) :
    ((writeWords vs s a q b).2).cpsr = s.cpsr := by
  induction vs generalizing s a q with
  | nil => rfl
  | cons v vs ih => simp [writeWords, ih]
@[simp] theorem writeWords_spsrFiq (vs : List Word) (s : State) (a : Word) (q : Bool) (b : BitVec 4) :
    ((writeWords vs s a q b).2).spsrFiq = s.spsrFiq := by
  induction vs generalizing s a q with
  | nil => rfl
  | cons v vs ih => simp [writeWords, ih]
@[simp] theorem writeWords_spsrSvc (vs : List Word) (s : State) (a : Word) (q : Bool) (b : BitVec 4) :
    ((writeWords vs s a q b).2).spsrSvc = s.spsrSvc := by
  induction vs generalizing s a q with
  | nil => rfl
  | cons v vs ih => simp [writeWords, ih]
@[simp] theorem writeWords_spsrAbt (vs : List Word) (s : State) (a : Word) (q : Bool) (b : BitVec 4) :
    ((writeWords vs s a q b).2).spsrAbt = s.spsrAbt := by
  induction vs generalizing s a q with
  | nil => rfl
  | cons v vs ih => simp [writeWords, ih]
@[simp] theorem writeWords_spsrIrq (vs : List Word) (s : State) (a : Word) (q : Bool) (b : BitVec 4) :
    ((writeWords vs s a q b).2).spsrIrq = s.spsrIrq := by
  induction vs generalizing s a q with
  | nil => rfl
  | cons v vs ih => simp [writeWords, ih]
@[simp] theorem writeWords_spsrUnd (vs : List Word) (s : State) (a : Word) (q : Bool) (b : BitVec 4) :
    ((writeWords vs s a q b).2).spsrUnd = s.spsrUnd := by
  induction vs generalizing s a q with
  | nil => rfl
  | cons v vs ih => simp [writeWords, ih]
@[simp] theorem writeWords_fetchQ (vs : List Word) (s : State) (a : Word) (q : Bool) (b : BitVec 4) :
    ((writeWords vs s a q b).2).fetchQ = s.fetchQ := by
  induction vs generalizing s a q with
  | nil => rfl
  | cons v vs ih => simp [writeWords, ih]
@[simp] theorem writeWords_fiqReg (vs : List Word) (s : State) (a : Word) (q : Bool) (b : BitVec 4) :
    ((writeWords vs s a q b).2).fiqReg = s.fiqReg := by
  induction vs generalizing s a q with
  | nil => rfl
  | cons v vs ih => simp [writeWords, ih]
@[simp] theorem writeWords_irqReg (vs : List Word) (s : State) (a : Word) (q : Bool) (b : BitVec 4) :
    ((writeWords vs s a q b).2).irqReg = s.irqReg := by
  induction vs generalizing s a q with
  | nil => rfl
  | cons v vs ih => simp [writeWords, ih]
@[simp] theorem writeWords_bankHazard (vs : List Word) (s : State) (a : Word) (q : Bool) (b : BitVec 4) :
    ((writeWords vs s a q b).2).bankHazard = s.bankHazard := by
  induction vs generalizing s a q with
  | nil => rfl
  | cons v vs ih => simp [writeWords, ih]
@[simp] theorem writeWords_ibus (vs : List Word) (s : State) (a : Word) (q : Bool) (b : BitVec 4) :
    ((writeWords vs s a q b).2).ibus = s.ibus := by
  induction vs generalizing s a q with
  | nil => rfl
  | cons v vs ih => simp [writeWords, ih]
@[simp] theorem writeWords_cfg (vs : List Word) (s : State) (a : Word) (q : Bool) (b : BitVec 4) :
    ((writeWords vs s a q b).2).cfg = s.cfg := by
  induction vs generalizing s a q with
  | nil => rfl
  | cons v vs ih => simp [writeWords, ih]
@[simp] theorem writeWords_pins (vs : List Word) (s : State) (a : Word) (q : Bool) (b : BitVec 4) :
    ((writeWords vs s a q b).2).pins = s.pins := by
  induction vs generalizing s a q with
  | nil => rfl
  | cons v vs ih => simp [writeWords, ih]
@[simp] theorem writeWords_pinStream (vs : List Word) (s : State) (a : Word) (q : Bool) (b : BitVec 4) :
    ((writeWords vs s a q b).2).pinStream = s.pinStream := by
  induction vs generalizing s a q with
  | nil => rfl
  | cons v vs ih => simp [writeWords, ih]
@[simp] theorem writeWords_cpScript (vs : List Word) (s : State) (a : Word) (q : Bool) (b : BitVec 4) :
    ((writeWords vs s a q b).2).cpScript = s.cpScript := by
  induction vs generalizing s a q with
  | nil => rfl
  | cons v vs ih => simp [writeWords, ih]
@[simp] theorem writeWords_cpEvents (vs : List Word) (s : State) (a : Word) (q : Bool) (b : BitVec 4) :
    ((writeWords vs s a q b).2).cpEvents = s.cpEvents := by
  induction vs generalizing s a q with
  | nil => rfl
  | cons v vs ih => simp [writeWords, ih]
@[simp] theorem writeWords_tap (vs : List Word) (s : State) (a : Word) (q : Bool) (b : BitVec 4) :
    ((writeWords vs s a q b).2).tap = s.tap := by
  induction vs generalizing s a q with
  | nil => rfl
  | cons v vs ih => simp [writeWords, ih]
@[simp] theorem writeWords_freeIx (vs : List Word) (s : State) (a : Word) (q : Bool) (b : BitVec 4) (h : s.cfg.dbgen = false) :
    ((writeWords vs s a q b).2).freeIx = s.freeIx := by
  induction vs generalizing s a q with
  | nil => rfl
  | cons v vs ih => simp [h, writeWords, ih]
@[simp] theorem writeWords_mode (vs : List Word) (s : State) (a : Word) (q : Bool) (b : BitVec 4) :
    ((writeWords vs s a q b).2).mode = s.mode := by simp [State.mode]
@[simp] theorem writeWords_thumb (vs : List Word) (s : State) (a : Word) (q : Bool) (b : BitVec 4) :
    ((writeWords vs s a q b).2).thumb = s.thumb := by simp [State.thumb]

/-! ### loadRegs -/

@[simp] theorem loadRegs_pc (m : Mode) (ns : List Reg) (ws : List (Option Word)) (s : State) :
    (loadRegs m ns ws s).pc = s.pc := by
  induction ns generalizing ws s with
  | nil => rfl
  | cons n ns ih =>
    cases ws with
    | nil => rfl
    | cons w ws =>
      cases w with
      | none => rfl
      | some w => simp only [loadRegs, ih]; split <;> rfl
@[simp] theorem loadRegs_cpsr (m : Mode) (ns : List Reg) (ws : List (Option Word)) (s : State) :
    (loadRegs m ns ws s).cpsr = s.cpsr := by
  induction ns generalizing ws s with
  | nil => rfl
  | cons n ns ih =>
    cases ws with
    | nil => rfl
    | cons w ws =>
      cases w with
      | none => rfl
      | some w => simp only [loadRegs, ih]; split <;> rfl
@[simp] theorem loadRegs_spsrFiq (m : Mode) (ns : List Reg) (ws : List (Option Word)) (s : State) :
    (loadRegs m ns ws s).spsrFiq = s.spsrFiq := by
  induction ns generalizing ws s with
  | nil => rfl
  | cons n ns ih =>
    cases ws with
    | nil => rfl
    | cons w ws =>
      cases w with
      | none => rfl
      | some w => simp only [loadRegs, ih]; split <;> rfl
@[simp] theorem loadRegs_spsrSvc (m : Mode) (ns : List Reg) (ws : List (Option Word)) (s : State) :
    (loadRegs m ns ws s).spsrSvc = s.spsrSvc := by
  induction ns generalizing ws s with
  | nil => rfl
  | cons n ns ih =>
    cases ws with
    | nil => rfl
    | cons w ws =>
      cases w with
      | none => rfl
      | some w => simp only [loadRegs, ih]; split <;> rfl
@[simp] theorem loadRegs_spsrAbt (m : Mode) (ns : List Reg) (ws : List (Option Word)) (s : State) :
    (loadRegs m ns ws s).spsrAbt = s.spsrAbt := by
  induction ns generalizing ws s with
  | nil => rfl
  | cons n ns ih =>
    cases ws with
    | nil => rfl
    | cons w ws =>
      cases w with
      | none => rfl
      | some w => simp only [loadRegs, ih]; split <;> rfl
@[simp] theorem loadRegs_spsrIrq (m : Mode) (ns : List Reg) (ws : List (Option Word)) (s : State) :
    (loadRegs m ns ws s).spsrIrq = s.spsrIrq := by
  induction ns generalizing ws s with
  | nil => rfl
  | cons n ns ih =>
    cases ws with
    | nil => rfl
    | cons w ws =>
      cases w with
      | none => rfl
      | some w => simp only [loadRegs, ih]; split <;> rfl
@[simp] theorem loadRegs_spsrUnd (m : Mode) (ns : List Reg) (ws : List (Option Word)) (s : State) :
    (loadRegs m ns ws s).spsrUnd = s.spsrUnd := by
  induction ns generalizing ws s with
  | nil => rfl
  | cons n ns ih =>
    cases ws with
    | nil => rfl
    | cons w ws =>
      cases w with
      | none => rfl
      | some w => simp only [loadRegs, ih]; split <;> rfl
@[simp] theorem loadRegs_mem (m : Mode) (ns : List Reg) (ws : List (Option Word)) (s : State) :
    (loadRegs m ns ws s).mem = s.mem := by
  induction ns generalizing ws s with
  | nil => rfl
  | cons n ns ih =>
    cases ws with
    | nil => rfl
    | cons w ws =>
      cases w with
      | none => rfl
      | some w => simp only [loadRegs, ih]; split <;> rfl
@[simp] theorem loadRegs_imem (m : Mode) (ns : List Reg) (ws : List (Option Word)) (s : State) :
    (loadRegs m ns ws s).imem = s.imem := by
  induction ns generalizing ws s with
  | nil => rfl
  | cons n ns ih =>
    cases ws with
    | nil => rfl
    | cons w ws =>
      cases w with
      | none => rfl
      | some w => simp only [loadRegs, ih]; split <;> rfl
@[simp] theorem loadRegs_fetchQ (m : Mode) (ns : List Reg) (ws : List (Option Word)) (s : State) :
    (loadRegs m ns ws s).fetchQ = s.fetchQ := by
  induction ns generalizing ws s with
  | nil => rfl
  | cons n ns ih =>
    cases ws with
    | nil => rfl
    | cons w ws =>
      cases w with
      | none => rfl
      | some w => simp only [loadRegs, ih]; split <;> rfl
@[simp] theorem loadRegs_fiqReg (m : Mode) (ns : List Reg) (ws : List (Option Word)) (s : State) :
    (loadRegs m ns ws s).fiqReg = s.fiqReg := by
  induction ns generalizing ws s with
  | nil => rfl
  | cons n ns ih =>
    cases ws with
    | nil => rfl
    | cons w ws =>
      cases w with
      | none => rfl
      | some w => simp only [loadRegs, ih]; split <;> rfl
@[simp] theorem loadRegs_irqReg (m : Mode) (ns : List Reg) (ws : List (Option Word)) (s : State) :
    (loadRegs m ns ws s).irqReg = s.irqReg := by
  induction ns generalizing ws s with
  | nil => rfl
  | cons n ns ih =>
    cases ws with
    | nil => rfl
    | cons w ws =>
      cases w with
      | none => rfl
      | some w => simp only [loadRegs, ih]; split <;> rfl
@[simp] theorem loadRegs_bankHazard (m : Mode) (ns : List Reg) (ws : List (Option Word)) (s : State) :
    (loadRegs m ns ws s).bankHazard = s.bankHazard := by
  induction ns generalizing ws s with
  | nil => rfl
  | cons n ns ih =>
    cases ws with
    | nil => rfl
    | cons w ws =>
      cases w with
      | none => rfl
      | some w => simp only [loadRegs, ih]; split <;> rfl
@[simp] theorem loadRegs_bus (m : Mode) (ns : List Reg) (ws : List (Option Word)) (s : State) :
    (loadRegs m ns ws s).bus = s.bus := by
  induction ns generalizing ws s with
  | nil => rfl
  | cons n ns ih =>
    cases ws with
    | nil => rfl
    | cons w ws =>
      cases w with
      | none => rfl
      | some w => simp only [loadRegs, ih]; split <;> rfl
@[simp] theorem loadRegs_ibus (m : Mode) (ns : List Reg) (ws : List (Option Word)) (s : State) :
    (loadRegs m ns ws s).ibus = s.ibus := by
  induction ns generalizing ws s with
  | nil => rfl
  | cons n ns ih =>
    cases ws with
    | nil => rfl
    | cons w ws =>
      cases w with
      | none => rfl
      | some w => simp only [loadRegs, ih]; split <;> rfl
@[simp] theorem loadRegs_cfg (m : Mode) (ns : List Reg) (ws : List (Option Word)) (s : State) :
    (loadRegs m ns ws s).cfg = s.cfg := by
  induction ns generalizing ws s with
  | nil => rfl
  | cons n ns ih =>
    cases ws with
    | nil => rfl
    | cons w ws =>
      cases w with
      | none => rfl
      | some w => simp only [loadRegs, ih]; split <;> rfl
@[simp] theorem loadRegs_pins (m : Mode) (ns : List Reg) (ws : List (Option Word)) (s : State) :
    (loadRegs m ns ws s).pins = s.pins := by
  induction ns generalizing ws s with
  | nil => rfl
  | cons n ns ih =>
    cases ws with
    | nil => rfl
    | cons w ws =>
      cases w with
      | none => rfl
      | some w => simp only [loadRegs, ih]; split <;> rfl
@[simp] theorem loadRegs_pinStream (m : Mode) (ns : List Reg) (ws : List (Option Word)) (s : State) :
    (loadRegs m ns ws s).pinStream = s.pinStream := by
  induction ns generalizing ws s with
  | nil => rfl
  | cons n ns ih =>
    cases ws with
    | nil => rfl
    | cons w ws =>
      cases w with
      | none => rfl
      | some w => simp only [loadRegs, ih]; split <;> rfl
@[simp] theorem loadRegs_cpScript (m : Mode) (ns : List Reg) (ws : List (Option Word)) (s : State) :
    (loadRegs m ns ws s).cpScript = s.cpScript := by
  induction ns generalizing ws s with
  | nil => rfl
  | cons n ns ih =>
    cases ws with
    | nil => rfl
    | cons w ws =>
      cases w with
      | none => rfl
      | some w => simp only [loadRegs, ih]; split <;> rfl
@[simp] theorem loadRegs_cpEvents (m : Mode) (ns : List Reg) (ws : List (Option Word)) (s : State) :
    (loadRegs m ns ws s).cpEvents = s.cpEvents := by
  induction ns generalizing ws s with
  | nil => rfl
  | cons n ns ih =>
    cases ws with
    | nil => rfl
    | cons w ws =>
      cases w with
      | none => rfl
      | some w => simp only [loadRegs, ih]; split <;> rfl
@[simp] theorem loadRegs_ice (m : Mode) (ns : List Reg) (ws : List (Option Word)) (s : State) :
    (loadRegs m ns ws s).ice = s.ice := by
  induction ns generalizing ws s with
  | nil => rfl
  | cons n ns ih =>
    cases ws with
    | nil => rfl
    | cons w ws =>
      cases w with
      | none => rfl
      | some w => simp only [loadRegs, ih]; split <;> rfl
@[simp] theorem loadRegs_tap (m : Mode) (ns : List Reg) (ws : List (Option Word)) (s : State) :
    (loadRegs m ns ws s).tap = s.tap := by
  induction ns generalizing ws s with
  | nil => rfl
  | cons n ns ih =>
    cases ws with
    | nil => rfl
    | cons w ws =>
      cases w with
      | none => rfl
      | some w => simp only [loadRegs, ih]; split <;> rfl
@[simp] theorem loadRegs_dbg (m : Mode) (ns : List Reg) (ws : List (Option Word)) (s : State) :
    (loadRegs m ns ws s).dbg = s.dbg := by
  induction ns generalizing ws s with
  | nil => rfl
  | cons n ns ih =>
    cases ws with
    | nil => rfl
    | cons w ws =>
      cases w with
      | none => rfl
      | some w => simp only [loadRegs, ih]; split <;> rfl
@[simp] theorem loadRegs_freeIx (m : Mode) (ns : List Reg) (ws : List (Option Word)) (s : State) :
    (loadRegs m ns ws s).freeIx = s.freeIx := by
  induction ns generalizing ws s with
  | nil => rfl
  | cons n ns ih =>
    cases ws with
    | nil => rfl
    | cons w ws =>
      cases w with
      | none => rfl
      | some w => simp only [loadRegs, ih]; split <;> rfl
@[simp] theorem loadRegs_mode (m : Mode) (ns : List Reg) (ws : List (Option Word)) (s : State) :
    (loadRegs m ns ws s).mode = s.mode := by simp [State.mode]
@[simp] theorem loadRegs_thumb (m : Mode) (ns : List Reg) (ws : List (Option Word)) (s : State) :
    (loadRegs m ns ws s).thumb = s.thumb := by simp [State.thumb]

/-! ### sendWords -/

@[simp] theorem sendWords_regs (ws : List (Option Word)) (s : State) :
    (sendWords ws s).regs = s.regs := by
  induction ws generalizing s with
  | nil => rfl
  | cons w ws ih =>
    cases w with
    | none => rfl
    | some w => simp [sendWords, ih]
@[simp] theorem sendWords_pc (ws : List (Option Word)) (s : State) :
    (sendWords ws s).pc = s.pc := by
  induction ws generalizing s with
  | nil => rfl
  | cons w ws ih =>
    cases w with
    | none => rfl
    | some w => simp [sendWords, ih]
@[simp] theorem sendWords_cpsr (ws : List (Option Word)) (s : State) :
    (sendWords ws s).cpsr = s.cpsr := by
  induction ws generalizing s with
  | nil => rfl
  | cons w ws ih =>
    cases w with
    | none => rfl
    | some w => simp [sendWords, ih]
@[simp] theorem sendWords_spsrFiq (ws : List (Option Word)) (s : State) :
    (sendWords ws s).spsrFiq = s.spsrFiq := by
  induction ws generalizing s with
  | nil => rfl
  | cons w ws ih =>
    cases w with
    | none => rfl
    | some w => simp [sendWords, ih]
@[simp] theorem sendWords_spsrSvc (ws : List (Option Word)) (s : State) :
    (sendWords ws s).spsrSvc = s.spsrSvc := by
  induction ws generalizing s with
  | nil => rfl
  | cons w ws ih =>
    cases w with
    | none => rfl
    | some w => simp [sendWords, ih]
@[simp] theorem sendWords_spsrAbt (ws : List (Option Word)) (s : State) :
    (sendWords ws s).spsrAbt = s.spsrAbt := by
  induction ws generalizing s with
  | nil => rfl
  | cons w ws ih =>
    cases w with
    | none => rfl
    | some w => simp [sendWords, ih]
@[simp] theorem sendWords_spsrIrq (ws : List (Option Word)) (s : State) :
    (sendWords ws s).spsrIrq = s.spsrIrq := by
  induction ws generalizing s with
  | nil => rfl
  | cons w ws ih =>
    cases w with
    | none => rfl
    | some w => simp [sendWords, ih]
@[simp] theorem sendWords_spsrUnd (ws : List (Option Word)) (s : State) :
    (sendWords ws s).spsrUnd = s.spsrUnd := by
  induction ws generalizing s with
  | nil => rfl
  | cons w ws ih =>
    cases w with
    | none => rfl
    | some w => simp [sendWords, ih]
@[simp] theorem sendWords_mem (ws : List (Option Word)) (s : State) :
    (sendWords ws s).mem = s.mem := by
  induction ws generalizing s with
  | nil => rfl
  | cons w ws ih =>
    cases w with
    | none => rfl
    | some w => simp [sendWords, ih]
@[simp] theorem sendWords_imem (ws : List (Option Word)) (s : State) :
    (sendWords ws s).imem = s.imem := by
  induction ws generalizing s with
  | nil => rfl
  | cons w ws ih =>
    cases w with
    | none => rfl
    | some w => simp [sendWords, ih]
@[simp] theorem sendWords_fetchQ (ws : List (Option Word)) (s : State) :
    (sendWords ws s).fetchQ = s.fetchQ := by
  induction ws generalizing s with
  | nil => rfl
  | cons w ws ih =>
    cases w with
    | none => rfl
    | some w => simp [sendWords, ih]
@[simp] theorem sendWords_fiqReg (ws : List (Option Word)) (s : State) :
    (sendWords ws s).fiqReg = s.fiqReg := by
  induction ws generalizing s with
  | nil => rfl
  | cons w ws ih =>
    cases w with
    | none => rfl
    | some w => simp [sendWords, ih]
@[simp] theorem sendWords_irqReg (ws : List (Option Word)) (s : State) :
    (sendWords ws s).irqReg = s.irqReg := by
  induction ws generalizing s with
  | nil => rfl
  | cons w ws ih =>
    cases w with
    | none => rfl
    | some w => simp [sendWords, ih]
@[simp] theorem sendWords_bankHazard (ws : List (Option Word)) (s : State) :
    (sendWords ws s).bankHazard = s.bankHazard := by
  induction ws generalizing s with
  | nil => rfl
  | cons w ws ih =>
    cases w with
    | none => rfl
    | some w => simp [sendWords, ih]
@[simp] theorem sendWords_bus (ws : List (Option Word)) (s : State) :
    (sendWords ws s).bus = s.bus := by
  induction ws generalizing s with
  | nil => rfl
  | cons w ws ih =>
    cases w with
    | none => rfl
    | some w => simp [sendWords, ih]
@[simp] theorem sendWords_ibus (ws : List (Option Word)) (s : State) :
    (sendWords ws s).ibus = s.ibus := by
  induction ws generalizing s with
  | nil => rfl
  | cons w ws ih =>
    cases w with
    | none => rfl
    | some w => simp [sendWords, ih]
@[simp] theorem sendWords_cfg (ws : List (Option Word)) (s : State) :
    (sendWords ws s).cfg = s.cfg := by
  induction ws generalizing s with
  | nil => rfl
  | cons w ws ih =>
    cases w with
    | none => rfl
    | some w => simp [sendWords, ih]
@[simp] theorem sendWords_pins (ws : List (Option Word)) (s : State) :
    (sendWords ws s).pins = s.pins := by
  induction ws generalizing s with
  | nil => rfl
  | cons w ws ih =>
    cases w with
    | none => rfl
    | some w => simp [sendWords, ih]
@[simp] theorem sendWords_pinStream (ws : List (Option Word)) (s : State) :
    (sendWords ws s).pinStream = s.pinStream := by
  induction ws generalizing s with
  | nil => rfl
  | cons w ws ih =>
    cases w with
    | none => rfl
    | some w => simp [sendWords, ih]
@[simp] theorem sendWords_cpScript (ws : List (Option Word)) (s : State) :
    (sendWords ws s).cpScript = s.cpScript := by
  induction ws generalizing s with
  | nil => rfl
  | cons w ws ih =>
    cases w with
    | none => rfl
    | some w => simp [sendWords, ih]
@[simp] theorem sendWords_ice (ws : List (Option Word)) (s : State) :
    (sendWords ws s).ice = s.ice := by
  induction ws generalizing s with
  | nil => rfl
  | cons w ws ih =>
    cases w with
    | none => rfl
    | some w => simp [sendWords, ih]
@[simp] theorem sendWords_tap (ws : List (Option Word)) (s : State) :
    (sendWords ws s).tap = s.tap := by
  induction ws generalizing s with
  | nil => rfl
  | cons w ws ih =>
    cases w with
    | none => rfl
    | some w => simp [sendWords, ih]
@[simp] theorem sendWords_dbg (ws : List (Option Word)) (s : State) :
    (sendWords ws s).dbg = s.dbg := by
  induction ws generalizing s with
  | nil => rfl
  | cons w ws ih =>
    cases w with
    | none => rfl
    | some w => simp [sendWords, ih]
@[simp] theorem sendWords_freeIx (ws : List (Option Word)) (s : State) :
    (sendWords ws s).freeIx = s.freeIx := by
  induction ws generalizing s with
  | nil => rfl
  | cons w ws ih =>
    cases w with
    | none => rfl
    | some w => simp [sendWords, ih]
@[simp] theorem sendWords_mode (ws : List (Option Word)) (s : State) :
    (sendWords ws s).mode = s.mode := by simp [State.mode]
@[simp] theorem sendWords_thumb (ws : List (Option Word)) (s : State) :
    (sendWords ws s).thumb = s.thumb := by simp [State.thumb]

/-! ### supplied -/

@[simp] theorem State.supplied_regs (s : State) (ws : List Word) :
    ((s.supplied ws).2).regs = s.regs := by
  cases ws <;> rfl
@[simp] theorem State.supplied_pc (s : State) (ws : List Word) :
    ((s.supplied ws).2).pc = s.pc := by
  cases ws <;> rfl
@[simp] theorem State.supplied_cpsr (s : State) (ws : List Word) :
    ((s.supplied ws).2).cpsr = s.cpsr := by
  cases ws <;> rfl
@[simp] theorem State.supplied_spsrFiq (s : State) (ws : List Word) :
    ((s.supplied ws).2).spsrFiq = s.spsrFiq := by
  cases ws <;> rfl
@[simp] theorem State.supplied_spsrSvc (s : State) (ws : List Word) :
    ((s.supplied ws).2).spsrSvc = s.spsrSvc := by
  cases ws <;> rfl
@[simp] theorem State.supplied_spsrAbt (s : State) (ws : List Word) :
    ((s.supplied ws).2).spsrAbt = s.spsrAbt := by
  cases ws <;> rfl
@[simp] theorem State.supplied_spsrIrq (s : State) (ws : List Word) :
    ((s.supplied ws).2).spsrIrq = s.spsrIrq := by
  cases ws <;> rfl
@[simp] theorem State.supplied_spsrUnd (s : State) (ws : List Word) :
    ((s.supplied ws).2).spsrUnd = s.spsrUnd := by
  cases ws <;> rfl
@[simp] theorem State.supplied_mem (s : State) (ws : List Word) :
    ((s.supplied ws).2).mem = s.mem := by
  cases ws <;> rfl
@[simp] theorem State.supplied_imem (s : State) (ws : List Word) :
    ((s.supplied ws).2).imem = s.imem := by
  cases ws <;> rfl
@[simp] theorem State.supplied_fetchQ (s : State) (ws : List Word) :
    ((s.supplied ws).2).fetchQ = s.fetchQ := by
  cases ws <;> rfl
@[simp] theorem State.supplied_fiqReg (s : State) (ws : List Word) :
    ((s.supplied ws).2).fiqReg = s.fiqReg := by
  cases ws <;> rfl
@[simp] theorem State.supplied_irqReg (s : State) (ws : List Word) :
    ((s.supplied ws).2).irqReg = s.irqReg := by
  cases ws <;> rfl
@[simp] theorem State.supplied_bankHazard (s : State) (ws : List Word) :
    ((s.supplied ws).2).bankHazard = s.bankHazard := by
  cases ws <;> rfl
@[simp] theorem State.supplied_bus (s : State) (ws : List Word) :
    ((s.supplied ws).2).bus = s.bus := by
  cases ws <;> rfl
@[simp] theorem State.supplied_ibus (s : State) (ws : List Word) :
    ((s.supplied ws).2).ibus = s.ibus := by
  cases ws <;> rfl
@[simp] theorem State.supplied_cfg (s : State) (ws : List Word) :
    ((s.supplied ws).2).cfg = s.cfg := by
  cases ws <;> rfl
@[simp] theorem State.supplied_pins (s : State) (ws : List Word) :
    ((s.supplied ws).2).pins = s.pins := by
  cases ws <;> rfl
@[simp] theorem State.supplied_pinStream (s : State) (ws : List Word) :
    ((s.supplied ws).2).pinStream = s.pinStream := by
  cases ws <;> rfl
@[simp] theorem State.supplied_cpScript (s : State) (ws : List Word) :
    ((s.supplied ws).2).cpScript = s.cpScript := by
  cases ws <;> rfl
@[simp] theorem State.supplied_cpEvents (s : State) (ws : List Word) :
    ((s.supplied ws).2).cpEvents = s.cpEvents := by
  cases ws <;> rfl
@[simp] theorem State.supplied_ice (s : State) (ws : List Word) :
    ((s.supplied ws).2).ice = s.ice := by
  cases ws <;> rfl
@[simp] theorem State.supplied_tap (s : State) (ws : List Word) :
    ((s.supplied ws).2).tap = s.tap := by
  cases ws <;> rfl
@[simp] theorem State.supplied_dbg (s : State) (ws : List Word) :
    ((s.supplied ws).2).dbg = s.dbg := by
  cases ws <;> rfl
@[simp] theorem State.supplied_mode (s : State) (ws : List Word) :
    ((s.supplied ws).2).mode = s.mode := by simp [State.mode]
@[simp] theorem State.supplied_thumb (s : State) (ws : List Word) :
    ((s.supplied ws).2).thumb = s.thumb := by simp [State.thumb]

/-! ### suppliedWords -/

@[simp] theorem suppliedWords_regs (n : Nat) (ws : List Word) (s : State) :
    ((suppliedWords n ws s).2).regs = s.regs := by
  induction n generalizing ws s with
  | zero => rfl
  | succ n ih => simp [suppliedWords, ih]
@[simp] theorem suppliedWords_pc (n : Nat) (ws : List Word) (s : State) :
    ((suppliedWords n ws s).2).pc = s.pc := by
  induction n generalizing ws s with
  | zero => rfl
  | succ n ih => simp [suppliedWords, ih]
@[simp] theorem suppliedWords_cpsr (n : Nat) (ws : List Word) (s : State) :
    ((suppliedWords n ws s).2).cpsr = s.cpsr := by
  induction n generalizing ws s with
  | zero => rfl
  | succ n ih => simp [suppliedWords, ih]
@[simp] theorem suppliedWords_spsrFiq (n : Nat) (ws : List Word) (s : State) :
    ((suppliedWords n ws s).2).spsrFiq = s.spsrFiq := by
  induction n generalizing ws s with
  | zero => rfl
  | succ n ih => simp [suppliedWords, ih]
@[simp] theorem suppliedWords_spsrSvc (n : Nat) (ws : List Word) (s : State) :
    ((suppliedWords n ws s).2).spsrSvc = s.spsrSvc := by
  induction n generalizing ws s with
  | zero => rfl
  | succ n ih => simp [suppliedWords, ih]
@[simp] theorem suppliedWords_spsrAbt (n : Nat) (ws : List Word) (s : State) :
    ((suppliedWords n ws s).2).spsrAbt = s.spsrAbt := by
  induction n generalizing ws s with
  | zero => rfl
  | succ n ih => simp [suppliedWords, ih]
@[simp] theorem suppliedWords_spsrIrq (n : Nat) (ws : List Word) (s : State) :
    ((suppliedWords n ws s).2).spsrIrq = s.spsrIrq := by
  induction n generalizing ws s with
  | zero => rfl
  | succ n ih => simp [suppliedWords, ih]
@[simp] theorem suppliedWords_spsrUnd (n : Nat) (ws : List Word) (s : State) :
    ((suppliedWords n ws s).2).spsrUnd = s.spsrUnd := by
  induction n generalizing ws s with
  | zero => rfl
  | succ n ih => simp [suppliedWords, ih]
@[simp] theorem suppliedWords_mem (n : Nat) (ws : List Word) (s : State) :
    ((suppliedWords n ws s).2).mem = s.mem := by
  induction n generalizing ws s with
  | zero => rfl
  | succ n ih => simp [suppliedWords, ih]
@[simp] theorem suppliedWords_imem (n : Nat) (ws : List Word) (s : State) :
    ((suppliedWords n ws s).2).imem = s.imem := by
  induction n generalizing ws s with
  | zero => rfl
  | succ n ih => simp [suppliedWords, ih]
@[simp] theorem suppliedWords_fetchQ (n : Nat) (ws : List Word) (s : State) :
    ((suppliedWords n ws s).2).fetchQ = s.fetchQ := by
  induction n generalizing ws s with
  | zero => rfl
  | succ n ih => simp [suppliedWords, ih]
@[simp] theorem suppliedWords_fiqReg (n : Nat) (ws : List Word) (s : State) :
    ((suppliedWords n ws s).2).fiqReg = s.fiqReg := by
  induction n generalizing ws s with
  | zero => rfl
  | succ n ih => simp [suppliedWords, ih]
@[simp] theorem suppliedWords_irqReg (n : Nat) (ws : List Word) (s : State) :
    ((suppliedWords n ws s).2).irqReg = s.irqReg := by
  induction n generalizing ws s with
  | zero => rfl
  | succ n ih => simp [suppliedWords, ih]
@[simp] theorem suppliedWords_bankHazard (n : Nat) (ws : List Word) (s : State) :
    ((suppliedWords n ws s).2).bankHazard = s.bankHazard := by
  induction n generalizing ws s with
  | zero => rfl
  | succ n ih => simp [suppliedWords, ih]
@[simp] theorem suppliedWords_bus (n : Nat) (ws : List Word) (s : State) :
    ((suppliedWords n ws s).2).bus = s.bus := by
  induction n generalizing ws s with
  | zero => rfl
  | succ n ih => simp [suppliedWords, ih]
@[simp] theorem suppliedWords_ibus (n : Nat) (ws : List Word) (s : State) :
    ((suppliedWords n ws s).2).ibus = s.ibus := by
  induction n generalizing ws s with
  | zero => rfl
  | succ n ih => simp [suppliedWords, ih]
@[simp] theorem suppliedWords_cfg (n : Nat) (ws : List Word) (s : State) :
    ((suppliedWords n ws s).2).cfg = s.cfg := by
  induction n generalizing ws s with
  | zero => rfl
  | succ n ih => simp [suppliedWords, ih]
@[simp] theorem suppliedWords_pins (n : Nat) (ws : List Word) (s : State) :
    ((suppliedWords n ws s).2).pins = s.pins := by
  induction n generalizing ws s with
  | zero => rfl
  | succ n ih => simp [suppliedWords, ih]
@[simp] theorem suppliedWords_pinStream (n : Nat) (ws : List Word) (s : State) :
    ((suppliedWords n ws s).2).pinStream = s.pinStream := by
  induction n generalizing ws s with
  | zero => rfl
  | succ n ih => simp [suppliedWords, ih]
@[simp] theorem suppliedWords_cpScript (n : Nat) (ws : List Word) (s : State) :
    ((suppliedWords n ws s).2).cpScript = s.cpScript := by
  induction n generalizing ws s with
  | zero => rfl
  | succ n ih => simp [suppliedWords, ih]
@[simp] theorem suppliedWords_cpEvents (n : Nat) (ws : List Word) (s : State) :
    ((suppliedWords n ws s).2).cpEvents = s.cpEvents := by
  induction n generalizing ws s with
  | zero => rfl
  | succ n ih => simp [suppliedWords, ih]
@[simp] theorem suppliedWords_ice (n : Nat) (ws : List Word) (s : State) :
    ((suppliedWords n ws s).2).ice = s.ice := by
  induction n generalizing ws s with
  | zero => rfl
  | succ n ih => simp [suppliedWords, ih]
@[simp] theorem suppliedWords_tap (n : Nat) (ws : List Word) (s : State) :
    ((suppliedWords n ws s).2).tap = s.tap := by
  induction n generalizing ws s with
  | zero => rfl
  | succ n ih => simp [suppliedWords, ih]
@[simp] theorem suppliedWords_dbg (n : Nat) (ws : List Word) (s : State) :
    ((suppliedWords n ws s).2).dbg = s.dbg := by
  induction n generalizing ws s with
  | zero => rfl
  | succ n ih => simp [suppliedWords, ih]
@[simp] theorem suppliedWords_mode (n : Nat) (ws : List Word) (s : State) :
    ((suppliedWords n ws s).2).mode = s.mode := by simp [State.mode]
@[simp] theorem suppliedWords_thumb (n : Nat) (ws : List Word) (s : State) :
    ((suppliedWords n ws s).2).thumb = s.thumb := by simp [State.thumb]

/-! ### mcrWord -/

@[simp] theorem State.mcrWord_regs (s : State) (rd : Reg) :
    ((s.mcrWord rd).2).regs = s.regs := by
  unfold State.mcrWord; split <;> rfl
@[simp] theorem State.mcrWord_pc (s : State) (rd : Reg) :
    ((s.mcrWord rd).2).pc = s.pc := by
  unfold State.mcrWord; split <;> rfl
@[simp] theorem State.mcrWord_cpsr (s : State) (rd : Reg) :
    ((s.mcrWord rd).2).cpsr = s.cpsr := by
  unfold State.mcrWord; split <;> rfl
@[simp] theorem State.mcrWord_spsrFiq (s : State) (rd : Reg) :
    ((s.mcrWord rd).2).spsrFiq = s.spsrFiq := by
  unfold State.mcrWord; split <;> rfl
@[simp] theorem State.mcrWord_spsrSvc (s : State) (rd : Reg) :
    ((s.mcrWord rd).2).spsrSvc = s.spsrSvc := by
  unfold State.mcrWord; split <;> rfl
@[simp] theorem State.mcrWord_spsrAbt (s : State) (rd : Reg) :
    ((s.mcrWord rd).2).spsrAbt = s.spsrAbt := by
  unfold State.mcrWord; split <;> rfl
@[simp] theorem State.mcrWord_spsrIrq (s : State) (rd : Reg) :
    ((s.mcrWord rd).2).spsrIrq = s.spsrIrq := by
  unfold State.mcrWord; split <;> rfl
@[simp] theorem State.mcrWord_spsrUnd (s : State) (rd : Reg) :
    ((s.mcrWord rd).2).spsrUnd = s.spsrUnd := by
  unfold State.mcrWord; split <;> rfl
@[simp] theorem State.mcrWord_mem (s : State) (rd : Reg) :
    ((s.mcrWord rd).2).mem = s.mem := by
  unfold State.mcrWord; split <;> rfl
@[simp] theorem State.mcrWord_imem (s : State) (rd : Reg) :
    ((s.mcrWord rd).2).imem = s.imem := by
  unfold State.mcrWord; split <;> rfl
@[simp] theorem State.mcrWord_fetchQ (s : State) (rd : Reg) :
    ((s.mcrWord rd).2).fetchQ = s.fetchQ := by
  unfold State.mcrWord; split <;> rfl
@[simp] theorem State.mcrWord_fiqReg (s : State) (rd : Reg) :
    ((s.mcrWord rd).2).fiqReg = s.fiqReg := by
  unfold State.mcrWord; split <;> rfl
@[simp] theorem State.mcrWord_irqReg (s : State) (rd : Reg) :
    ((s.mcrWord rd).2).irqReg = s.irqReg := by
  unfold State.mcrWord; split <;> rfl
@[simp] theorem State.mcrWord_bankHazard (s : State) (rd : Reg) :
    ((s.mcrWord rd).2).bankHazard = s.bankHazard := by
  unfold State.mcrWord; split <;> rfl
@[simp] theorem State.mcrWord_bus (s : State) (rd : Reg) :
    ((s.mcrWord rd).2).bus = s.bus := by
  unfold State.mcrWord; split <;> rfl
@[simp] theorem State.mcrWord_ibus (s : State) (rd : Reg) :
    ((s.mcrWord rd).2).ibus = s.ibus := by
  unfold State.mcrWord; split <;> rfl
@[simp] theorem State.mcrWord_cfg (s : State) (rd : Reg) :
    ((s.mcrWord rd).2).cfg = s.cfg := by
  unfold State.mcrWord; split <;> rfl
@[simp] theorem State.mcrWord_pins (s : State) (rd : Reg) :
    ((s.mcrWord rd).2).pins = s.pins := by
  unfold State.mcrWord; split <;> rfl
@[simp] theorem State.mcrWord_pinStream (s : State) (rd : Reg) :
    ((s.mcrWord rd).2).pinStream = s.pinStream := by
  unfold State.mcrWord; split <;> rfl
@[simp] theorem State.mcrWord_cpScript (s : State) (rd : Reg) :
    ((s.mcrWord rd).2).cpScript = s.cpScript := by
  unfold State.mcrWord; split <;> rfl
@[simp] theorem State.mcrWord_cpEvents (s : State) (rd : Reg) :
    ((s.mcrWord rd).2).cpEvents = s.cpEvents := by
  unfold State.mcrWord; split <;> rfl
@[simp] theorem State.mcrWord_ice (s : State) (rd : Reg) :
    ((s.mcrWord rd).2).ice = s.ice := by
  unfold State.mcrWord; split <;> rfl
@[simp] theorem State.mcrWord_tap (s : State) (rd : Reg) :
    ((s.mcrWord rd).2).tap = s.tap := by
  unfold State.mcrWord; split <;> rfl
@[simp] theorem State.mcrWord_dbg (s : State) (rd : Reg) :
    ((s.mcrWord rd).2).dbg = s.dbg := by
  unfold State.mcrWord; split <;> rfl
@[simp] theorem State.mcrWord_mode (s : State) (rd : Reg) :
    ((s.mcrWord rd).2).mode = s.mode := by simp [State.mode]
@[simp] theorem State.mcrWord_thumb (s : State) (rd : Reg) :
    ((s.mcrWord rd).2).thumb = s.thumb := by simp [State.thumb]

/-! ### writeMrc -/

@[simp] theorem State.writeMrc_pc (s : State) (rd : Reg) (w : Word) :
    (s.writeMrc rd w).pc = s.pc := by
  unfold State.writeMrc; split <;> simp
@[simp] theorem State.writeMrc_spsrFiq (s : State) (rd : Reg) (w : Word) :
    (s.writeMrc rd w).spsrFiq = s.spsrFiq := by
  unfold State.writeMrc; split <;> simp
@[simp] theorem State.writeMrc_spsrSvc (s : State) (rd : Reg) (w : Word) :
    (s.writeMrc rd w).spsrSvc = s.spsrSvc := by
  unfold State.writeMrc; split <;> simp
@[simp] theorem State.writeMrc_spsrAbt (s : State) (rd : Reg) (w : Word) :
    (s.writeMrc rd w).spsrAbt = s.spsrAbt := by
  unfold State.writeMrc; split <;> simp
@[simp] theorem State.writeMrc_spsrIrq (s : State) (rd : Reg) (w : Word) :
    (s.writeMrc rd w).spsrIrq = s.spsrIrq := by
  unfold State.writeMrc; split <;> simp
@[simp] theorem State.writeMrc_spsrUnd (s : State) (rd : Reg) (w : Word) :
    (s.writeMrc rd w).spsrUnd = s.spsrUnd := by
  unfold State.writeMrc; split <;> simp
@[simp] theorem State.writeMrc_mem (s : State) (rd : Reg) (w : Word) :
    (s.writeMrc rd w).mem = s.mem := by
  unfold State.writeMrc; split <;> simp
@[simp] theorem State.writeMrc_imem (s : State) (rd : Reg) (w : Word) :
    (s.writeMrc rd w).imem = s.imem := by
  unfold State.writeMrc; split <;> simp
@[simp] theorem State.writeMrc_fetchQ (s : State) (rd : Reg) (w : Word) :
    (s.writeMrc rd w).fetchQ = s.fetchQ := by
  unfold State.writeMrc; split <;> simp
@[simp] theorem State.writeMrc_fiqReg (s : State) (rd : Reg) (w : Word) :
    (s.writeMrc rd w).fiqReg = s.fiqReg := by
  unfold State.writeMrc; split <;> simp
@[simp] theorem State.writeMrc_irqReg (s : State) (rd : Reg) (w : Word) :
    (s.writeMrc rd w).irqReg = s.irqReg := by
  unfold State.writeMrc; split <;> simp
@[simp] theorem State.writeMrc_bankHazard (s : State) (rd : Reg) (w : Word) :
    (s.writeMrc rd w).bankHazard = s.bankHazard := by
  unfold State.writeMrc; split <;> simp
@[simp] theorem State.writeMrc_bus (s : State) (rd : Reg) (w : Word) :
    (s.writeMrc rd w).bus = s.bus := by
  unfold State.writeMrc; split <;> simp
@[simp] theorem State.writeMrc_ibus (s : State) (rd : Reg) (w : Word) :
    (s.writeMrc rd w).ibus = s.ibus := by
  unfold State.writeMrc; split <;> simp
@[simp] theorem State.writeMrc_cfg (s : State) (rd : Reg) (w : Word) :
    (s.writeMrc rd w).cfg = s.cfg := by
  unfold State.writeMrc; split <;> simp
@[simp] theorem State.writeMrc_pins (s : State) (rd : Reg) (w : Word) :
    (s.writeMrc rd w).pins = s.pins := by
  unfold State.writeMrc; split <;> simp
@[simp] theorem State.writeMrc_pinStream (s : State) (rd : Reg) (w : Word) :
    (s.writeMrc rd w).pinStream = s.pinStream := by
  unfold State.writeMrc; split <;> simp
@[simp] theorem State.writeMrc_cpScript (s : State) (rd : Reg) (w : Word) :
    (s.writeMrc rd w).cpScript = s.cpScript := by
  unfold State.writeMrc; split <;> simp
@[simp] theorem State.writeMrc_cpEvents (s : State) (rd : Reg) (w : Word) :
    (s.writeMrc rd w).cpEvents = s.cpEvents := by
  unfold State.writeMrc; split <;> simp
@[simp] theorem State.writeMrc_ice (s : State) (rd : Reg) (w : Word) :
    (s.writeMrc rd w).ice = s.ice := by
  unfold State.writeMrc; split <;> simp
@[simp] theorem State.writeMrc_tap (s : State) (rd : Reg) (w : Word) :
    (s.writeMrc rd w).tap = s.tap := by
  unfold State.writeMrc; split <;> simp
@[simp] theorem State.writeMrc_dbg (s : State) (rd : Reg) (w : Word) :
    (s.writeMrc rd w).dbg = s.dbg := by
  unfold State.writeMrc; split <;> simp
@[simp] theorem State.writeMrc_freeIx (s : State) (rd : Reg) (w : Word) :
    (s.writeMrc rd w).freeIx = s.freeIx := by
  unfold State.writeMrc; split <;> simp

/-! ### cp14AfterRead -/

@[simp] theorem State.cp14AfterRead_regs (s : State) (n : BitVec 4) :
    (s.cp14AfterRead n).regs = s.regs := by
  unfold State.cp14AfterRead; split <;> rfl
@[simp] theorem State.cp14AfterRead_pc (s : State) (n : BitVec 4) :
    (s.cp14AfterRead n).pc = s.pc := by
  unfold State.cp14AfterRead; split <;> rfl
@[simp] theorem State.cp14AfterRead_cpsr (s : State) (n : BitVec 4) :
    (s.cp14AfterRead n).cpsr = s.cpsr := by
  unfold State.cp14AfterRead; split <;> rfl
@[simp] theorem State.cp14AfterRead_spsrFiq (s : State) (n : BitVec 4) :
    (s.cp14AfterRead n).spsrFiq = s.spsrFiq := by
  unfold State.cp14AfterRead; split <;> rfl
@[simp] theorem State.cp14AfterRead_spsrSvc (s : State) (n : BitVec 4) :
    (s.cp14AfterRead n).spsrSvc = s.spsrSvc := by
  unfold State.cp14AfterRead; split <;> rfl
@[simp] theorem State.cp14AfterRead_spsrAbt (s : State) (n : BitVec 4) :
    (s.cp14AfterRead n).spsrAbt = s.spsrAbt := by
  unfold State.cp14AfterRead; split <;> rfl
@[simp] theorem State.cp14AfterRead_spsrIrq (s : State) (n : BitVec 4) :
    (s.cp14AfterRead n).spsrIrq = s.spsrIrq := by
  unfold State.cp14AfterRead; split <;> rfl
@[simp] theorem State.cp14AfterRead_spsrUnd (s : State) (n : BitVec 4) :
    (s.cp14AfterRead n).spsrUnd = s.spsrUnd := by
  unfold State.cp14AfterRead; split <;> rfl
@[simp] theorem State.cp14AfterRead_mem (s : State) (n : BitVec 4) :
    (s.cp14AfterRead n).mem = s.mem := by
  unfold State.cp14AfterRead; split <;> rfl
@[simp] theorem State.cp14AfterRead_imem (s : State) (n : BitVec 4) :
    (s.cp14AfterRead n).imem = s.imem := by
  unfold State.cp14AfterRead; split <;> rfl
@[simp] theorem State.cp14AfterRead_fetchQ (s : State) (n : BitVec 4) :
    (s.cp14AfterRead n).fetchQ = s.fetchQ := by
  unfold State.cp14AfterRead; split <;> rfl
@[simp] theorem State.cp14AfterRead_fiqReg (s : State) (n : BitVec 4) :
    (s.cp14AfterRead n).fiqReg = s.fiqReg := by
  unfold State.cp14AfterRead; split <;> rfl
@[simp] theorem State.cp14AfterRead_irqReg (s : State) (n : BitVec 4) :
    (s.cp14AfterRead n).irqReg = s.irqReg := by
  unfold State.cp14AfterRead; split <;> rfl
@[simp] theorem State.cp14AfterRead_bankHazard (s : State) (n : BitVec 4) :
    (s.cp14AfterRead n).bankHazard = s.bankHazard := by
  unfold State.cp14AfterRead; split <;> rfl
@[simp] theorem State.cp14AfterRead_bus (s : State) (n : BitVec 4) :
    (s.cp14AfterRead n).bus = s.bus := by
  unfold State.cp14AfterRead; split <;> rfl
@[simp] theorem State.cp14AfterRead_ibus (s : State) (n : BitVec 4) :
    (s.cp14AfterRead n).ibus = s.ibus := by
  unfold State.cp14AfterRead; split <;> rfl
@[simp] theorem State.cp14AfterRead_cfg (s : State) (n : BitVec 4) :
    (s.cp14AfterRead n).cfg = s.cfg := by
  unfold State.cp14AfterRead; split <;> rfl
@[simp] theorem State.cp14AfterRead_pins (s : State) (n : BitVec 4) :
    (s.cp14AfterRead n).pins = s.pins := by
  unfold State.cp14AfterRead; split <;> rfl
@[simp] theorem State.cp14AfterRead_pinStream (s : State) (n : BitVec 4) :
    (s.cp14AfterRead n).pinStream = s.pinStream := by
  unfold State.cp14AfterRead; split <;> rfl
@[simp] theorem State.cp14AfterRead_cpScript (s : State) (n : BitVec 4) :
    (s.cp14AfterRead n).cpScript = s.cpScript := by
  unfold State.cp14AfterRead; split <;> rfl
@[simp] theorem State.cp14AfterRead_cpEvents (s : State) (n : BitVec 4) :
    (s.cp14AfterRead n).cpEvents = s.cpEvents := by
  unfold State.cp14AfterRead; split <;> rfl
@[simp] theorem State.cp14AfterRead_tap (s : State) (n : BitVec 4) :
    (s.cp14AfterRead n).tap = s.tap := by
  unfold State.cp14AfterRead; split <;> rfl
@[simp] theorem State.cp14AfterRead_dbg (s : State) (n : BitVec 4) :
    (s.cp14AfterRead n).dbg = s.dbg := by
  unfold State.cp14AfterRead; split <;> rfl
@[simp] theorem State.cp14AfterRead_freeIx (s : State) (n : BitVec 4) :
    (s.cp14AfterRead n).freeIx = s.freeIx := by
  unfold State.cp14AfterRead; split <;> rfl
@[simp] theorem State.cp14AfterRead_mode (s : State) (n : BitVec 4) :
    (s.cp14AfterRead n).mode = s.mode := by simp [State.mode]
@[simp] theorem State.cp14AfterRead_thumb (s : State) (n : BitVec 4) :
    (s.cp14AfterRead n).thumb = s.thumb := by simp [State.thumb]

/-! ### cp14Write -/

@[simp] theorem State.cp14Write_regs (s : State) (n : BitVec 4) (v : Word) :
    (s.cp14Write n v).regs = s.regs := by
  unfold State.cp14Write; split <;> [rfl; (split <;> rfl)]
@[simp] theorem State.cp14Write_pc (s : State) (n : BitVec 4) (v : Word) :
    (s.cp14Write n v).pc = s.pc := by
  unfold State.cp14Write; split <;> [rfl; (split <;> rfl)]
@[simp] theorem State.cp14Write_cpsr (s : State) (n : BitVec 4) (v : Word) :
    (s.cp14Write n v).cpsr = s.cpsr := by
  unfold State.cp14Write; split <;> [rfl; (split <;> rfl)]
@[simp] theorem State.cp14Write_spsrFiq (s : State) (n : BitVec 4) (v : Word) :
    (s.cp14Write n v).spsrFiq = s.spsrFiq := by
  unfold State.cp14Write; split <;> [rfl; (split <;> rfl)]
@[simp] theorem State.cp14Write_spsrSvc (s : State) (n : BitVec 4) (v : Word) :
    (s.cp14Write n v).spsrSvc = s.spsrSvc := by
  unfold State.cp14Write; split <;> [rfl; (split <;> rfl)]
@[simp] theorem State.cp14Write_spsrAbt (s : State) (n : BitVec 4) (v : Word) :
    (s.cp14Write n v).spsrAbt = s.spsrAbt := by
  unfold State.cp14Write; split <;> [rfl; (split <;> rfl)]
@[simp] theorem State.cp14Write_spsrIrq (s : State) (n : BitVec 4) (v : Word) :
    (s.cp14Write n v).spsrIrq = s.spsrIrq := by
  unfold State.cp14Write; split <;> [rfl; (split <;> rfl)]
@[simp] theorem State.cp14Write_spsrUnd (s : State) (n : BitVec 4) (v : Word) :
    (s.cp14Write n v).spsrUnd = s.spsrUnd := by
  unfold State.cp14Write; split <;> [rfl; (split <;> rfl)]
@[simp] theorem State.cp14Write_mem (s : State) (n : BitVec 4) (v : Word) :
    (s.cp14Write n v).mem = s.mem := by
  unfold State.cp14Write; split <;> [rfl; (split <;> rfl)]
@[simp] theorem State.cp14Write_imem (s : State) (n : BitVec 4) (v : Word) :
    (s.cp14Write n v).imem = s.imem := by
  unfold State.cp14Write; split <;> [rfl; (split <;> rfl)]
@[simp] theorem State.cp14Write_fetchQ (s : State) (n : BitVec 4) (v : Word) :
    (s.cp14Write n v).fetchQ = s.fetchQ := by
  unfold State.cp14Write; split <;> [rfl; (split <;> rfl)]
@[simp] theorem State.cp14Write_fiqReg (s : State) (n : BitVec 4) (v : Word) :
    (s.cp14Write n v).fiqReg = s.fiqReg := by
  unfold State.cp14Write; split <;> [rfl; (split <;> rfl)]
@[simp] theorem State.cp14Write_irqReg (s : State) (n : BitVec 4) (v : Word) :
    (s.cp14Write n v).irqReg = s.irqReg := by
  unfold State.cp14Write; split <;> [rfl; (split <;> rfl)]
@[simp] theorem State.cp14Write_bankHazard (s : State) (n : BitVec 4) (v : Word) :
    (s.cp14Write n v).bankHazard = s.bankHazard := by
  unfold State.cp14Write; split <;> [rfl; (split <;> rfl)]
@[simp] theorem State.cp14Write_bus (s : State) (n : BitVec 4) (v : Word) :
    (s.cp14Write n v).bus = s.bus := by
  unfold State.cp14Write; split <;> [rfl; (split <;> rfl)]
@[simp] theorem State.cp14Write_ibus (s : State) (n : BitVec 4) (v : Word) :
    (s.cp14Write n v).ibus = s.ibus := by
  unfold State.cp14Write; split <;> [rfl; (split <;> rfl)]
@[simp] theorem State.cp14Write_cfg (s : State) (n : BitVec 4) (v : Word) :
    (s.cp14Write n v).cfg = s.cfg := by
  unfold State.cp14Write; split <;> [rfl; (split <;> rfl)]
@[simp] theorem State.cp14Write_pins (s : State) (n : BitVec 4) (v : Word) :
    (s.cp14Write n v).pins = s.pins := by
  unfold State.cp14Write; split <;> [rfl; (split <;> rfl)]
@[simp] theorem State.cp14Write_pinStream (s : State) (n : BitVec 4) (v : Word) :
    (s.cp14Write n v).pinStream = s.pinStream := by
  unfold State.cp14Write; split <;> [rfl; (split <;> rfl)]
@[simp] theorem State.cp14Write_cpScript (s : State) (n : BitVec 4) (v : Word) :
    (s.cp14Write n v).cpScript = s.cpScript := by
  unfold State.cp14Write; split <;> [rfl; (split <;> rfl)]
@[simp] theorem State.cp14Write_cpEvents (s : State) (n : BitVec 4) (v : Word) :
    (s.cp14Write n v).cpEvents = s.cpEvents := by
  unfold State.cp14Write; split <;> [rfl; (split <;> rfl)]
@[simp] theorem State.cp14Write_tap (s : State) (n : BitVec 4) (v : Word) :
    (s.cp14Write n v).tap = s.tap := by
  unfold State.cp14Write; split <;> [rfl; (split <;> rfl)]
@[simp] theorem State.cp14Write_dbg (s : State) (n : BitVec 4) (v : Word) :
    (s.cp14Write n v).dbg = s.dbg := by
  unfold State.cp14Write; split <;> [rfl; (split <;> rfl)]
@[simp] theorem State.cp14Write_freeIx (s : State) (n : BitVec 4) (v : Word) :
    (s.cp14Write n v).freeIx = s.freeIx := by
  unfold State.cp14Write; split <;> [rfl; (split <;> rfl)]
@[simp] theorem State.cp14Write_mode (s : State) (n : BitVec 4) (v : Word) :
    (s.cp14Write n v).mode = s.mode := by simp [State.mode]
@[simp] theorem State.cp14Write_thumb (s : State) (n : BitVec 4) (v : Word) :
    (s.cp14Write n v).thumb = s.thumb := by simp [State.thumb]

/-! ### writeResult -/

@[simp] theorem State.writeResult_spsrFiq (s : State) (f : Bool) (rd : Reg) (r : Word × Word) :
    (s.writeResult f rd r).spsrFiq = s.spsrFiq := by
  unfold State.writeResult; split <;> split <;> simp
@[simp] theorem State.writeResult_spsrSvc (s : State) (f : Bool) (rd : Reg) (r : Word × Word) :
    (s.writeResult f rd r).spsrSvc = s.spsrSvc := by
  unfold State.writeResult; split <;> split <;> simp
@[simp] theorem State.writeResult_spsrAbt (s : State) (f : Bool) (rd : Reg) (r : Word × Word) :
    (s.writeResult f rd r).spsrAbt = s.spsrAbt := by
  unfold State.writeResult; split <;> split <;> simp
@[simp] theorem State.writeResult_spsrIrq (s : State) (f : Bool) (rd : Reg) (r : Word × Word) :
    (s.writeResult f rd r).spsrIrq = s.spsrIrq := by
  unfold State.writeResult; split <;> split <;> simp
@[simp] theorem State.writeResult_spsrUnd (s : State) (f : Bool) (rd : Reg) (r : Word × Word) :
    (s.writeResult f rd r).spsrUnd = s.spsrUnd := by
  unfold State.writeResult; split <;> split <;> simp
@[simp] theorem State.writeResult_mem (s : State) (f : Bool) (rd : Reg) (r : Word × Word) :
    (s.writeResult f rd r).mem = s.mem := by
  unfold State.writeResult; split <;> split <;> simp
@[simp] theorem State.writeResult_imem (s : State) (f : Bool) (rd : Reg) (r : Word × Word) :
    (s.writeResult f rd r).imem = s.imem := by
  unfold State.writeResult; split <;> split <;> simp
@[simp] theorem State.writeResult_fiqReg (s : State) (f : Bool) (rd : Reg) (r : Word × Word) :
    (s.writeResult f rd r).fiqReg = s.fiqReg := by
  unfold State.writeResult; split <;> split <;> simp
@[simp] theorem State.writeResult_irqReg (s : State) (f : Bool) (rd : Reg) (r : Word × Word) :
    (s.writeResult f rd r).irqReg = s.irqReg := by
  unfold State.writeResult; split <;> split <;> simp
@[simp] theorem State.writeResult_bankHazard (s : State) (f : Bool) (rd : Reg) (r : Word × Word) :
    (s.writeResult f rd r).bankHazard = s.bankHazard := by
  unfold State.writeResult; split <;> split <;> simp
@[simp] theorem State.writeResult_bus (s : State) (f : Bool) (rd : Reg) (r : Word × Word) :
    (s.writeResult f rd r).bus = s.bus := by
  unfold State.writeResult; split <;> split <;> simp
@[simp] theorem State.writeResult_ibus (s : State) (f : Bool) (rd : Reg) (r : Word × Word) :
    (s.writeResult f rd r).ibus = s.ibus := by
  unfold State.writeResult; split <;> split <;> simp
@[simp] theorem State.writeResult_cfg (s : State) (f : Bool) (rd : Reg) (r : Word × Word) :
    (s.writeResult f rd r).cfg = s.cfg := by
  unfold State.writeResult; split <;> split <;> simp
@[simp] theorem State.writeResult_pins (s : State) (f : Bool) (rd : Reg) (r : Word × Word) :
    (s.writeResult f rd r).pins = s.pins := by
  unfold State.writeResult; split <;> split <;> simp
@[simp] theorem State.writeResult_pinStream (s : State) (f : Bool) (rd : Reg) (r : Word × Word) :
    (s.writeResult f rd r).pinStream = s.pinStream := by
  unfold State.writeResult; split <;> split <;> simp
@[simp] theorem State.writeResult_cpScript (s : State) (f : Bool) (rd : Reg) (r : Word × Word) :
    (s.writeResult f rd r).cpScript = s.cpScript := by
  unfold State.writeResult; split <;> split <;> simp
@[simp] theorem State.writeResult_cpEvents (s : State) (f : Bool) (rd : Reg) (r : Word × Word) :
    (s.writeResult f rd r).cpEvents = s.cpEvents := by
  unfold State.writeResult; split <;> split <;> simp
@[simp] theorem State.writeResult_ice (s : State) (f : Bool) (rd : Reg) (r : Word × Word) :
    (s.writeResult f rd r).ice = s.ice := by
  unfold State.writeResult; split <;> split <;> simp
@[simp] theorem State.writeResult_tap (s : State) (f : Bool) (rd : Reg) (r : Word × Word) :
    (s.writeResult f rd r).tap = s.tap := by
  unfold State.writeResult; split <;> split <;> simp
@[simp] theorem State.writeResult_dbg (s : State) (f : Bool) (rd : Reg) (r : Word × Word) :
    (s.writeResult f rd r).dbg = s.dbg := by
  unfold State.writeResult; split <;> split <;> simp
@[simp] theorem State.writeResult_freeIx (s : State) (f : Bool) (rd : Reg) (r : Word × Word) :
    (s.writeResult f rd r).freeIx = s.freeIx := by
  unfold State.writeResult; split <;> split <;> simp

/-! ### writeProduct -/

@[simp] theorem State.writeProduct_pc (s : State) (f : Bool) (rd : Reg) (v : Word) :
    (s.writeProduct f rd v).pc = s.pc := by
  unfold State.writeProduct; dsimp only; split <;> simp
@[simp] theorem State.writeProduct_spsrFiq (s : State) (f : Bool) (rd : Reg) (v : Word) :
    (s.writeProduct f rd v).spsrFiq = s.spsrFiq := by
  unfold State.writeProduct; dsimp only; split <;> simp
@[simp] theorem State.writeProduct_spsrSvc (s : State) (f : Bool) (rd : Reg) (v : Word) :
    (s.writeProduct f rd v).spsrSvc = s.spsrSvc := by
  unfold State.writeProduct; dsimp only; split <;> simp
@[simp] theorem State.writeProduct_spsrAbt (s : State) (f : Bool) (rd : Reg) (v : Word) :
    (s.writeProduct f rd v).spsrAbt = s.spsrAbt := by
  unfold State.writeProduct; dsimp only; split <;> simp
@[simp] theorem State.writeProduct_spsrIrq (s : State) (f : Bool) (rd : Reg) (v : Word) :
    (s.writeProduct f rd v).spsrIrq = s.spsrIrq := by
  unfold State.writeProduct; dsimp only; split <;> simp
@[simp] theorem State.writeProduct_spsrUnd (s : State) (f : Bool) (rd : Reg) (v : Word) :
    (s.writeProduct f rd v).spsrUnd = s.spsrUnd := by
  unfold State.writeProduct; dsimp only; split <;> simp
@[simp] theorem State.writeProduct_mem (s : State) (f : Bool) (rd : Reg) (v : Word) :
    (s.writeProduct f rd v).mem = s.mem := by
  unfold State.writeProduct; dsimp only; split <;> simp
@[simp] theorem State.writeProduct_imem (s : State) (f : Bool) (rd : Reg) (v : Word) :
    (s.writeProduct f rd v).imem = s.imem := by
  unfold State.writeProduct; dsimp only; split <;> simp
@[simp] theorem State.writeProduct_fetchQ (s : State) (f : Bool) (rd : Reg) (v : Word) :
    (s.writeProduct f rd v).fetchQ = s.fetchQ := by
  unfold State.writeProduct; dsimp only; split <;> simp
@[simp] theorem State.writeProduct_fiqReg (s : State) (f : Bool) (rd : Reg) (v : Word) :
    (s.writeProduct f rd v).fiqReg = s.fiqReg := by
  unfold State.writeProduct; dsimp only; split <;> simp
@[simp] theorem State.writeProduct_irqReg (s : State) (f : Bool) (rd : Reg) (v : Word) :
    (s.writeProduct f rd v).irqReg = s.irqReg := by
  unfold State.writeProduct; dsimp only; split <;> simp
@[simp] theorem State.writeProduct_bankHazard (s : State) (f : Bool) (rd : Reg) (v : Word) :
    (s.writeProduct f rd v).bankHazard = s.bankHazard := by
  unfold State.writeProduct; dsimp only; split <;> simp
@[simp] theorem State.writeProduct_bus (s : State) (f : Bool) (rd : Reg) (v : Word) :
    (s.writeProduct f rd v).bus = s.bus := by
  unfold State.writeProduct; dsimp only; split <;> simp
@[simp] theorem State.writeProduct_ibus (s : State) (f : Bool) (rd : Reg) (v : Word) :
    (s.writeProduct f rd v).ibus = s.ibus := by
  unfold State.writeProduct; dsimp only; split <;> simp
@[simp] theorem State.writeProduct_cfg (s : State) (f : Bool) (rd : Reg) (v : Word) :
    (s.writeProduct f rd v).cfg = s.cfg := by
  unfold State.writeProduct; dsimp only; split <;> simp
@[simp] theorem State.writeProduct_pins (s : State) (f : Bool) (rd : Reg) (v : Word) :
    (s.writeProduct f rd v).pins = s.pins := by
  unfold State.writeProduct; dsimp only; split <;> simp
@[simp] theorem State.writeProduct_pinStream (s : State) (f : Bool) (rd : Reg) (v : Word) :
    (s.writeProduct f rd v).pinStream = s.pinStream := by
  unfold State.writeProduct; dsimp only; split <;> simp
@[simp] theorem State.writeProduct_cpScript (s : State) (f : Bool) (rd : Reg) (v : Word) :
    (s.writeProduct f rd v).cpScript = s.cpScript := by
  unfold State.writeProduct; dsimp only; split <;> simp
@[simp] theorem State.writeProduct_cpEvents (s : State) (f : Bool) (rd : Reg) (v : Word) :
    (s.writeProduct f rd v).cpEvents = s.cpEvents := by
  unfold State.writeProduct; dsimp only; split <;> simp
@[simp] theorem State.writeProduct_ice (s : State) (f : Bool) (rd : Reg) (v : Word) :
    (s.writeProduct f rd v).ice = s.ice := by
  unfold State.writeProduct; dsimp only; split <;> simp
@[simp] theorem State.writeProduct_tap (s : State) (f : Bool) (rd : Reg) (v : Word) :
    (s.writeProduct f rd v).tap = s.tap := by
  unfold State.writeProduct; dsimp only; split <;> simp
@[simp] theorem State.writeProduct_dbg (s : State) (f : Bool) (rd : Reg) (v : Word) :
    (s.writeProduct f rd v).dbg = s.dbg := by
  unfold State.writeProduct; dsimp only; split <;> simp
@[simp] theorem State.writeProduct_freeIx (s : State) (f : Bool) (rd : Reg) (v : Word) :
    (s.writeProduct f rd v).freeIx = s.freeIx := by
  unfold State.writeProduct; dsimp only; split <;> simp

/-! ### writeLong -/

@[simp] theorem State.writeLong_pc (s : State) (hi lo : Reg) (p : BitVec 64) :
    (s.writeLong hi lo p).pc = s.pc := by
  simp [State.writeLong]
@[simp] theorem State.writeLong_cpsr (s : State) (hi lo : Reg) (p : BitVec 64) :
    (s.writeLong hi lo p).cpsr = s.cpsr := by
  simp [State.writeLong]
@[simp] theorem State.writeLong_spsrFiq (s : State) (hi lo : Reg) (p : BitVec 64) :
    (s.writeLong hi lo p).spsrFiq = s.spsrFiq := by
  simp [State.writeLong]
@[simp] theorem State.writeLong_spsrSvc (s : State) (hi lo : Reg) (p : BitVec 64) :
    (s.writeLong hi lo p).spsrSvc = s.spsrSvc := by
  simp [State.writeLong]
@[simp] theorem State.writeLong_spsrAbt (s : State) (hi lo : Reg) (p : BitVec 64) :
    (s.writeLong hi lo p).spsrAbt = s.spsrAbt := by
  simp [State.writeLong]
@[simp] theorem State.writeLong_spsrIrq (s : State) (hi lo : Reg) (p : BitVec 64) :
    (s.writeLong hi lo p).spsrIrq = s.spsrIrq := by
  simp [State.writeLong]
@[simp] theorem State.writeLong_spsrUnd (s : State) (hi lo : Reg) (p : BitVec 64) :
    (s.writeLong hi lo p).spsrUnd = s.spsrUnd := by
  simp [State.writeLong]
@[simp] theorem State.writeLong_mem (s : State) (hi lo : Reg) (p : BitVec 64) :
    (s.writeLong hi lo p).mem = s.mem := by
  simp [State.writeLong]
@[simp] theorem State.writeLong_imem (s : State) (hi lo : Reg) (p : BitVec 64) :
    (s.writeLong hi lo p).imem = s.imem := by
  simp [State.writeLong]
@[simp] theorem State.writeLong_fetchQ (s : State) (hi lo : Reg) (p : BitVec 64) :
    (s.writeLong hi lo p).fetchQ = s.fetchQ := by
  simp [State.writeLong]
@[simp] theorem State.writeLong_fiqReg (s : State) (hi lo : Reg) (p : BitVec 64) :
    (s.writeLong hi lo p).fiqReg = s.fiqReg := by
  simp [State.writeLong]
@[simp] theorem State.writeLong_irqReg (s : State) (hi lo : Reg) (p : BitVec 64) :
    (s.writeLong hi lo p).irqReg = s.irqReg := by
  simp [State.writeLong]
@[simp] theorem State.writeLong_bankHazard (s : State) (hi lo : Reg) (p : BitVec 64) :
    (s.writeLong hi lo p).bankHazard = s.bankHazard := by
  simp [State.writeLong]
@[simp] theorem State.writeLong_bus (s : State) (hi lo : Reg) (p : BitVec 64) :
    (s.writeLong hi lo p).bus = s.bus := by
  simp [State.writeLong]
@[simp] theorem State.writeLong_ibus (s : State) (hi lo : Reg) (p : BitVec 64) :
    (s.writeLong hi lo p).ibus = s.ibus := by
  simp [State.writeLong]
@[simp] theorem State.writeLong_cfg (s : State) (hi lo : Reg) (p : BitVec 64) :
    (s.writeLong hi lo p).cfg = s.cfg := by
  simp [State.writeLong]
@[simp] theorem State.writeLong_pins (s : State) (hi lo : Reg) (p : BitVec 64) :
    (s.writeLong hi lo p).pins = s.pins := by
  simp [State.writeLong]
@[simp] theorem State.writeLong_pinStream (s : State) (hi lo : Reg) (p : BitVec 64) :
    (s.writeLong hi lo p).pinStream = s.pinStream := by
  simp [State.writeLong]
@[simp] theorem State.writeLong_cpScript (s : State) (hi lo : Reg) (p : BitVec 64) :
    (s.writeLong hi lo p).cpScript = s.cpScript := by
  simp [State.writeLong]
@[simp] theorem State.writeLong_cpEvents (s : State) (hi lo : Reg) (p : BitVec 64) :
    (s.writeLong hi lo p).cpEvents = s.cpEvents := by
  simp [State.writeLong]
@[simp] theorem State.writeLong_ice (s : State) (hi lo : Reg) (p : BitVec 64) :
    (s.writeLong hi lo p).ice = s.ice := by
  simp [State.writeLong]
@[simp] theorem State.writeLong_tap (s : State) (hi lo : Reg) (p : BitVec 64) :
    (s.writeLong hi lo p).tap = s.tap := by
  simp [State.writeLong]
@[simp] theorem State.writeLong_dbg (s : State) (hi lo : Reg) (p : BitVec 64) :
    (s.writeLong hi lo p).dbg = s.dbg := by
  simp [State.writeLong]
@[simp] theorem State.writeLong_freeIx (s : State) (hi lo : Reg) (p : BitVec 64) :
    (s.writeLong hi lo p).freeIx = s.freeIx := by
  simp [State.writeLong]
@[simp] theorem State.writeLong_mode (s : State) (hi lo : Reg) (p : BitVec 64) :
    (s.writeLong hi lo p).mode = s.mode := by simp [State.mode]
@[simp] theorem State.writeLong_thumb (s : State) (hi lo : Reg) (p : BitVec 64) :
    (s.writeLong hi lo p).thumb = s.thumb := by simp [State.thumb]

/-! ### writeLongFlags -/

@[simp] theorem State.writeLongFlags_pc (s : State) (f : Bool) (hi lo : Reg) (p : BitVec 64) :
    (s.writeLongFlags f hi lo p).pc = s.pc := by
  unfold State.writeLongFlags; dsimp only; split <;> simp
@[simp] theorem State.writeLongFlags_spsrFiq (s : State) (f : Bool) (hi lo : Reg) (p : BitVec 64) :
    (s.writeLongFlags f hi lo p).spsrFiq = s.spsrFiq := by
  unfold State.writeLongFlags; dsimp only; split <;> simp
@[simp] theorem State.writeLongFlags_spsrSvc (s : State) (f : Bool) (hi lo : Reg) (p : BitVec 64) :
    (s.writeLongFlags f hi lo p).spsrSvc = s.spsrSvc := by
  unfold State.writeLongFlags; dsimp only; split <;> simp
@[simp] theorem State.writeLongFlags_spsrAbt (s : State) (f : Bool) (hi lo : Reg) (p : BitVec 64) :
    (s.writeLongFlags f hi lo p).spsrAbt = s.spsrAbt := by
  unfold State.writeLongFlags; dsimp only; split <;> simp
@[simp] theorem State.writeLongFlags_spsrIrq (s : State) (f : Bool) (hi lo : Reg) (p : BitVec 64) :
    (s.writeLongFlags f hi lo p).spsrIrq = s.spsrIrq := by
  unfold State.writeLongFlags; dsimp only; split <;> simp
@[simp] theorem State.writeLongFlags_spsrUnd (s : State) (f : Bool) (hi lo : Reg) (p : BitVec 64) :
    (s.writeLongFlags f hi lo p).spsrUnd = s.spsrUnd := by
  unfold State.writeLongFlags; dsimp only; split <;> simp
@[simp] theorem State.writeLongFlags_mem (s : State) (f : Bool) (hi lo : Reg) (p : BitVec 64) :
    (s.writeLongFlags f hi lo p).mem = s.mem := by
  unfold State.writeLongFlags; dsimp only; split <;> simp
@[simp] theorem State.writeLongFlags_imem (s : State) (f : Bool) (hi lo : Reg) (p : BitVec 64) :
    (s.writeLongFlags f hi lo p).imem = s.imem := by
  unfold State.writeLongFlags; dsimp only; split <;> simp
@[simp] theorem State.writeLongFlags_fetchQ (s : State) (f : Bool) (hi lo : Reg) (p : BitVec 64) :
    (s.writeLongFlags f hi lo p).fetchQ = s.fetchQ := by
  unfold State.writeLongFlags; dsimp only; split <;> simp
@[simp] theorem State.writeLongFlags_fiqReg (s : State) (f : Bool) (hi lo : Reg) (p : BitVec 64) :
    (s.writeLongFlags f hi lo p).fiqReg = s.fiqReg := by
  unfold State.writeLongFlags; dsimp only; split <;> simp
@[simp] theorem State.writeLongFlags_irqReg (s : State) (f : Bool) (hi lo : Reg) (p : BitVec 64) :
    (s.writeLongFlags f hi lo p).irqReg = s.irqReg := by
  unfold State.writeLongFlags; dsimp only; split <;> simp
@[simp] theorem State.writeLongFlags_bankHazard (s : State) (f : Bool) (hi lo : Reg) (p : BitVec 64) :
    (s.writeLongFlags f hi lo p).bankHazard = s.bankHazard := by
  unfold State.writeLongFlags; dsimp only; split <;> simp
@[simp] theorem State.writeLongFlags_bus (s : State) (f : Bool) (hi lo : Reg) (p : BitVec 64) :
    (s.writeLongFlags f hi lo p).bus = s.bus := by
  unfold State.writeLongFlags; dsimp only; split <;> simp
@[simp] theorem State.writeLongFlags_ibus (s : State) (f : Bool) (hi lo : Reg) (p : BitVec 64) :
    (s.writeLongFlags f hi lo p).ibus = s.ibus := by
  unfold State.writeLongFlags; dsimp only; split <;> simp
@[simp] theorem State.writeLongFlags_cfg (s : State) (f : Bool) (hi lo : Reg) (p : BitVec 64) :
    (s.writeLongFlags f hi lo p).cfg = s.cfg := by
  unfold State.writeLongFlags; dsimp only; split <;> simp
@[simp] theorem State.writeLongFlags_pins (s : State) (f : Bool) (hi lo : Reg) (p : BitVec 64) :
    (s.writeLongFlags f hi lo p).pins = s.pins := by
  unfold State.writeLongFlags; dsimp only; split <;> simp
@[simp] theorem State.writeLongFlags_pinStream (s : State) (f : Bool) (hi lo : Reg) (p : BitVec 64) :
    (s.writeLongFlags f hi lo p).pinStream = s.pinStream := by
  unfold State.writeLongFlags; dsimp only; split <;> simp
@[simp] theorem State.writeLongFlags_cpScript (s : State) (f : Bool) (hi lo : Reg) (p : BitVec 64) :
    (s.writeLongFlags f hi lo p).cpScript = s.cpScript := by
  unfold State.writeLongFlags; dsimp only; split <;> simp
@[simp] theorem State.writeLongFlags_cpEvents (s : State) (f : Bool) (hi lo : Reg) (p : BitVec 64) :
    (s.writeLongFlags f hi lo p).cpEvents = s.cpEvents := by
  unfold State.writeLongFlags; dsimp only; split <;> simp
@[simp] theorem State.writeLongFlags_ice (s : State) (f : Bool) (hi lo : Reg) (p : BitVec 64) :
    (s.writeLongFlags f hi lo p).ice = s.ice := by
  unfold State.writeLongFlags; dsimp only; split <;> simp
@[simp] theorem State.writeLongFlags_tap (s : State) (f : Bool) (hi lo : Reg) (p : BitVec 64) :
    (s.writeLongFlags f hi lo p).tap = s.tap := by
  unfold State.writeLongFlags; dsimp only; split <;> simp
@[simp] theorem State.writeLongFlags_dbg (s : State) (f : Bool) (hi lo : Reg) (p : BitVec 64) :
    (s.writeLongFlags f hi lo p).dbg = s.dbg := by
  unfold State.writeLongFlags; dsimp only; split <;> simp
@[simp] theorem State.writeLongFlags_freeIx (s : State) (f : Bool) (hi lo : Reg) (p : BitVec 64) :
    (s.writeLongFlags f hi lo p).freeIx = s.freeIx := by
  unfold State.writeLongFlags; dsimp only; split <;> simp

/-! ### writeSticky -/

@[simp] theorem State.writeSticky_pc (s : State) (rd : Reg) (v : Word) (h : Bool) :
    (s.writeSticky rd v h).pc = s.pc := by
  simp [State.writeSticky]
@[simp] theorem State.writeSticky_spsrFiq (s : State) (rd : Reg) (v : Word) (h : Bool) :
    (s.writeSticky rd v h).spsrFiq = s.spsrFiq := by
  simp [State.writeSticky]
@[simp] theorem State.writeSticky_spsrSvc (s : State) (rd : Reg) (v : Word) (h : Bool) :
    (s.writeSticky rd v h).spsrSvc = s.spsrSvc := by
  simp [State.writeSticky]
@[simp] theorem State.writeSticky_spsrAbt (s : State) (rd : Reg) (v : Word) (h : Bool) :
    (s.writeSticky rd v h).spsrAbt = s.spsrAbt := by
  simp [State.writeSticky]
@[simp] theorem State.writeSticky_spsrIrq (s : State) (rd : Reg) (v : Word) (h : Bool) :
    (s.writeSticky rd v h).spsrIrq = s.spsrIrq := by
  simp [State.writeSticky]
@[simp] theorem State.writeSticky_spsrUnd (s : State) (rd : Reg) (v : Word) (h : Bool) :
    (s.writeSticky rd v h).spsrUnd = s.spsrUnd := by
  simp [State.writeSticky]
@[simp] theorem State.writeSticky_mem (s : State) (rd : Reg) (v : Word) (h : Bool) :
    (s.writeSticky rd v h).mem = s.mem := by
  simp [State.writeSticky]
@[simp] theorem State.writeSticky_imem (s : State) (rd : Reg) (v : Word) (h : Bool) :
    (s.writeSticky rd v h).imem = s.imem := by
  simp [State.writeSticky]
@[simp] theorem State.writeSticky_fetchQ (s : State) (rd : Reg) (v : Word) (h : Bool) :
    (s.writeSticky rd v h).fetchQ = s.fetchQ := by
  simp [State.writeSticky]
@[simp] theorem State.writeSticky_fiqReg (s : State) (rd : Reg) (v : Word) (h : Bool) :
    (s.writeSticky rd v h).fiqReg = s.fiqReg := by
  simp [State.writeSticky]
@[simp] theorem State.writeSticky_irqReg (s : State) (rd : Reg) (v : Word) (h : Bool) :
    (s.writeSticky rd v h).irqReg = s.irqReg := by
  simp [State.writeSticky]
@[simp] theorem State.writeSticky_bankHazard (s : State) (rd : Reg) (v : Word) (h : Bool) :
    (s.writeSticky rd v h).bankHazard = s.bankHazard := by
  simp [State.writeSticky]
@[simp] theorem State.writeSticky_bus (s : State) (rd : Reg) (v : Word) (h : Bool) :
    (s.writeSticky rd v h).bus = s.bus := by
  simp [State.writeSticky]
@[simp] theorem State.writeSticky_ibus (s : State) (rd : Reg) (v : Word) (h : Bool) :
    (s.writeSticky rd v h).ibus = s.ibus := by
  simp [State.writeSticky]
@[simp] theorem State.writeSticky_cfg (s : State) (rd : Reg) (v : Word) (h : Bool) :
    (s.writeSticky rd v h).cfg = s.cfg := by
  simp [State.writeSticky]
@[simp] theorem State.writeSticky_pins (s : State) (rd : Reg) (v : Word) (h : Bool) :
    (s.writeSticky rd v h).pins = s.pins := by
  simp [State.writeSticky]
@[simp] theorem State.writeSticky_pinStream (s : State) (rd : Reg) (v : Word) (h : Bool) :
    (s.writeSticky rd v h).pinStream = s.pinStream := by
  simp [State.writeSticky]
@[simp] theorem State.writeSticky_cpScript (s : State) (rd : Reg) (v : Word) (h : Bool) :
    (s.writeSticky rd v h).cpScript = s.cpScript := by
  simp [State.writeSticky]
@[simp] theorem State.writeSticky_cpEvents (s : State) (rd : Reg) (v : Word) (h : Bool) :
    (s.writeSticky rd v h).cpEvents = s.cpEvents := by
  simp [State.writeSticky]
@[simp] theorem State.writeSticky_ice (s : State) (rd : Reg) (v : Word) (h : Bool) :
    (s.writeSticky rd v h).ice = s.ice := by
  simp [State.writeSticky]
@[simp] theorem State.writeSticky_tap (s : State) (rd : Reg) (v : Word) (h : Bool) :
    (s.writeSticky rd v h).tap = s.tap := by
  simp [State.writeSticky]
@[simp] theorem State.writeSticky_dbg (s : State) (rd : Reg) (v : Word) (h : Bool) :
    (s.writeSticky rd v h).dbg = s.dbg := by
  simp [State.writeSticky]
@[simp] theorem State.writeSticky_freeIx (s : State) (rd : Reg) (v : Word) (h : Bool) :
    (s.writeSticky rd v h).freeIx = s.freeIx := by
  simp [State.writeSticky]

/-! ### writePsr -/

@[simp] theorem State.writePsr_regs (s : State) (p : Bool) (m : BitVec 4) (v : Word) :
    (s.writePsr p m v).regs = s.regs := by
  unfold State.writePsr; split <;> [(split <;> simp); simp]
@[simp] theorem State.writePsr_pc (s : State) (p : Bool) (m : BitVec 4) (v : Word) :
    (s.writePsr p m v).pc = s.pc := by
  unfold State.writePsr; split <;> [(split <;> simp); simp]
@[simp] theorem State.writePsr_mem (s : State) (p : Bool) (m : BitVec 4) (v : Word) :
    (s.writePsr p m v).mem = s.mem := by
  unfold State.writePsr; split <;> [(split <;> simp); simp]
@[simp] theorem State.writePsr_imem (s : State) (p : Bool) (m : BitVec 4) (v : Word) :
    (s.writePsr p m v).imem = s.imem := by
  unfold State.writePsr; split <;> [(split <;> simp); simp]
@[simp] theorem State.writePsr_fetchQ (s : State) (p : Bool) (m : BitVec 4) (v : Word) :
    (s.writePsr p m v).fetchQ = s.fetchQ := by
  unfold State.writePsr; split <;> [(split <;> simp); simp]
@[simp] theorem State.writePsr_fiqReg (s : State) (p : Bool) (m : BitVec 4) (v : Word) :
    (s.writePsr p m v).fiqReg = s.fiqReg := by
  unfold State.writePsr; split <;> [(split <;> simp); simp]
@[simp] theorem State.writePsr_irqReg (s : State) (p : Bool) (m : BitVec 4) (v : Word) :
    (s.writePsr p m v).irqReg = s.irqReg := by
  unfold State.writePsr; split <;> [(split <;> simp); simp]
@[simp] theorem State.writePsr_bankHazard (s : State) (p : Bool) (m : BitVec 4) (v : Word) :
    (s.writePsr p m v).bankHazard = s.bankHazard := by
  unfold State.writePsr; split <;> [(split <;> simp); simp]
@[simp] theorem State.writePsr_bus (s : State) (p : Bool) (m : BitVec 4) (v : Word) :
    (s.writePsr p m v).bus = s.bus := by
  unfold State.writePsr; split <;> [(split <;> simp); simp]
@[simp] theorem State.writePsr_ibus (s : State) (p : Bool) (m : BitVec 4) (v : Word) :
    (s.writePsr p m v).ibus = s.ibus := by
  unfold State.writePsr; split <;> [(split <;> simp); simp]
@[simp] theorem State.writePsr_cfg (s : State) (p : Bool) (m : BitVec 4) (v : Word) :
    (s.writePsr p m v).cfg = s.cfg := by
  unfold State.writePsr; split <;> [(split <;> simp); simp]
@[simp] theorem State.writePsr_pins (s : State) (p : Bool) (m : BitVec 4) (v : Word) :
    (s.writePsr p m v).pins = s.pins := by
  unfold State.writePsr; split <;> [(split <;> simp); simp]
@[simp] theorem State.writePsr_pinStream (s : State) (p : Bool) (m : BitVec 4) (v : Word) :
    (s.writePsr p m v).pinStream = s.pinStream := by
  unfold State.writePsr; split <;> [(split <;> simp); simp]
@[simp] theorem State.writePsr_cpScript (s : State) (p : Bool) (m : BitVec 4) (v : Word) :
    (s.writePsr p m v).cpScript = s.cpScript := by
  unfold State.writePsr; split <;> [(split <;> simp); simp]
@[simp] theorem State.writePsr_cpEvents (s : State) (p : Bool) (m : BitVec 4) (v : Word) :
    (s.writePsr p m v).cpEvents = s.cpEvents := by
  unfold State.writePsr; split <;> [(split <;> simp); simp]
@[simp] theorem State.writePsr_ice (s : State) (p : Bool) (m : BitVec 4) (v : Word) :
    (s.writePsr p m v).ice = s.ice := by
  unfold State.writePsr; split <;> [(split <;> simp); simp]
@[simp] theorem State.writePsr_tap (s : State) (p : Bool) (m : BitVec 4) (v : Word) :
    (s.writePsr p m v).tap = s.tap := by
  unfold State.writePsr; split <;> [(split <;> simp); simp]
@[simp] theorem State.writePsr_dbg (s : State) (p : Bool) (m : BitVec 4) (v : Word) :
    (s.writePsr p m v).dbg = s.dbg := by
  unfold State.writePsr; split <;> [(split <;> simp); simp]
@[simp] theorem State.writePsr_freeIx (s : State) (p : Bool) (m : BitVec 4) (v : Word) :
    (s.writePsr p m v).freeIx = s.freeIx := by
  unfold State.writePsr; split <;> [(split <;> simp); simp]

/-! ### writeHigh -/

@[simp] theorem State.writeHigh_cpsr (s : State) (rd : Reg) (v : Word) :
    (s.writeHigh rd v).cpsr = s.cpsr := by
  unfold State.writeHigh; split <;> simp
@[simp] theorem State.writeHigh_spsrFiq (s : State) (rd : Reg) (v : Word) :
    (s.writeHigh rd v).spsrFiq = s.spsrFiq := by
  unfold State.writeHigh; split <;> simp
@[simp] theorem State.writeHigh_spsrSvc (s : State) (rd : Reg) (v : Word) :
    (s.writeHigh rd v).spsrSvc = s.spsrSvc := by
  unfold State.writeHigh; split <;> simp
@[simp] theorem State.writeHigh_spsrAbt (s : State) (rd : Reg) (v : Word) :
    (s.writeHigh rd v).spsrAbt = s.spsrAbt := by
  unfold State.writeHigh; split <;> simp
@[simp] theorem State.writeHigh_spsrIrq (s : State) (rd : Reg) (v : Word) :
    (s.writeHigh rd v).spsrIrq = s.spsrIrq := by
  unfold State.writeHigh; split <;> simp
@[simp] theorem State.writeHigh_spsrUnd (s : State) (rd : Reg) (v : Word) :
    (s.writeHigh rd v).spsrUnd = s.spsrUnd := by
  unfold State.writeHigh; split <;> simp
@[simp] theorem State.writeHigh_mem (s : State) (rd : Reg) (v : Word) :
    (s.writeHigh rd v).mem = s.mem := by
  unfold State.writeHigh; split <;> simp
@[simp] theorem State.writeHigh_imem (s : State) (rd : Reg) (v : Word) :
    (s.writeHigh rd v).imem = s.imem := by
  unfold State.writeHigh; split <;> simp
@[simp] theorem State.writeHigh_fiqReg (s : State) (rd : Reg) (v : Word) :
    (s.writeHigh rd v).fiqReg = s.fiqReg := by
  unfold State.writeHigh; split <;> simp
@[simp] theorem State.writeHigh_irqReg (s : State) (rd : Reg) (v : Word) :
    (s.writeHigh rd v).irqReg = s.irqReg := by
  unfold State.writeHigh; split <;> simp
@[simp] theorem State.writeHigh_bankHazard (s : State) (rd : Reg) (v : Word) :
    (s.writeHigh rd v).bankHazard = s.bankHazard := by
  unfold State.writeHigh; split <;> simp
@[simp] theorem State.writeHigh_bus (s : State) (rd : Reg) (v : Word) :
    (s.writeHigh rd v).bus = s.bus := by
  unfold State.writeHigh; split <;> simp
@[simp] theorem State.writeHigh_ibus (s : State) (rd : Reg) (v : Word) :
    (s.writeHigh rd v).ibus = s.ibus := by
  unfold State.writeHigh; split <;> simp
@[simp] theorem State.writeHigh_cfg (s : State) (rd : Reg) (v : Word) :
    (s.writeHigh rd v).cfg = s.cfg := by
  unfold State.writeHigh; split <;> simp
@[simp] theorem State.writeHigh_pins (s : State) (rd : Reg) (v : Word) :
    (s.writeHigh rd v).pins = s.pins := by
  unfold State.writeHigh; split <;> simp
@[simp] theorem State.writeHigh_pinStream (s : State) (rd : Reg) (v : Word) :
    (s.writeHigh rd v).pinStream = s.pinStream := by
  unfold State.writeHigh; split <;> simp
@[simp] theorem State.writeHigh_cpScript (s : State) (rd : Reg) (v : Word) :
    (s.writeHigh rd v).cpScript = s.cpScript := by
  unfold State.writeHigh; split <;> simp
@[simp] theorem State.writeHigh_cpEvents (s : State) (rd : Reg) (v : Word) :
    (s.writeHigh rd v).cpEvents = s.cpEvents := by
  unfold State.writeHigh; split <;> simp
@[simp] theorem State.writeHigh_ice (s : State) (rd : Reg) (v : Word) :
    (s.writeHigh rd v).ice = s.ice := by
  unfold State.writeHigh; split <;> simp
@[simp] theorem State.writeHigh_tap (s : State) (rd : Reg) (v : Word) :
    (s.writeHigh rd v).tap = s.tap := by
  unfold State.writeHigh; split <;> simp
@[simp] theorem State.writeHigh_dbg (s : State) (rd : Reg) (v : Word) :
    (s.writeHigh rd v).dbg = s.dbg := by
  unfold State.writeHigh; split <;> simp
@[simp] theorem State.writeHigh_freeIx (s : State) (rd : Reg) (v : Word) :
    (s.writeHigh rd v).freeIx = s.freeIx := by
  unfold State.writeHigh; split <;> simp
@[simp] theorem State.writeHigh_mode (s : State) (rd : Reg) (v : Word) :
    (s.writeHigh rd v).mode = s.mode := by simp [State.mode]
@[simp] theorem State.writeHigh_thumb (s : State) (rd : Reg) (v : Word) :
    (s.writeHigh rd v).thumb = s.thumb := by simp [State.thumb]

/-! ### undefinedInstr -/

@[simp] theorem State.undefinedInstr_spsrFiq (s : State) :
    (s.undefinedInstr).spsrFiq = s.spsrFiq := rfl
@[simp] theorem State.undefinedInstr_spsrSvc (s : State) :
    (s.undefinedInstr).spsrSvc = s.spsrSvc := rfl
@[simp] theorem State.undefinedInstr_spsrAbt (s : State) :
    (s.undefinedInstr).spsrAbt = s.spsrAbt := rfl
@[simp] theorem State.undefinedInstr_spsrIrq (s : State) :
    (s.undefinedInstr).spsrIrq = s.spsrIrq := rfl
@[simp] theorem State.undefinedInstr_mem (s : State) :
    (s.undefinedInstr).mem = s.mem := rfl
@[simp] theorem State.undefinedInstr_imem (s : State) :
    (s.undefinedInstr).imem = s.imem := rfl
@[simp] theorem State.undefinedInstr_fiqReg (s : State) :
    (s.undefinedInstr).fiqReg = s.fiqReg := rfl
@[simp] theorem State.undefinedInstr_irqReg (s : State) :
    (s.undefinedInstr).irqReg = s.irqReg := rfl
@[simp] theorem State.undefinedInstr_bus (s : State) :
    (s.undefinedInstr).bus = s.bus := rfl
@[simp] theorem State.undefinedInstr_ibus (s : State) :
    (s.undefinedInstr).ibus = s.ibus := rfl
@[simp] theorem State.undefinedInstr_cfg (s : State) :
    (s.undefinedInstr).cfg = s.cfg := rfl
@[simp] theorem State.undefinedInstr_pins (s : State) :
    (s.undefinedInstr).pins = s.pins := rfl
@[simp] theorem State.undefinedInstr_pinStream (s : State) :
    (s.undefinedInstr).pinStream = s.pinStream := rfl
@[simp] theorem State.undefinedInstr_cpScript (s : State) :
    (s.undefinedInstr).cpScript = s.cpScript := rfl
@[simp] theorem State.undefinedInstr_cpEvents (s : State) :
    (s.undefinedInstr).cpEvents = s.cpEvents := rfl
@[simp] theorem State.undefinedInstr_ice (s : State) :
    (s.undefinedInstr).ice = s.ice := rfl
@[simp] theorem State.undefinedInstr_tap (s : State) :
    (s.undefinedInstr).tap = s.tap := rfl
@[simp] theorem State.undefinedInstr_freeIx (s : State) :
    (s.undefinedInstr).freeIx = s.freeIx := rfl

/-! ### softwareInterrupt -/

@[simp] theorem State.softwareInterrupt_spsrFiq (s : State) :
    (s.softwareInterrupt).spsrFiq = s.spsrFiq := rfl
@[simp] theorem State.softwareInterrupt_spsrAbt (s : State) :
    (s.softwareInterrupt).spsrAbt = s.spsrAbt := rfl
@[simp] theorem State.softwareInterrupt_spsrIrq (s : State) :
    (s.softwareInterrupt).spsrIrq = s.spsrIrq := rfl
@[simp] theorem State.softwareInterrupt_spsrUnd (s : State) :
    (s.softwareInterrupt).spsrUnd = s.spsrUnd := rfl
@[simp] theorem State.softwareInterrupt_mem (s : State) :
    (s.softwareInterrupt).mem = s.mem := rfl
@[simp] theorem State.softwareInterrupt_imem (s : State) :
    (s.softwareInterrupt).imem = s.imem := rfl
@[simp] theorem State.softwareInterrupt_fiqReg (s : State) :
    (s.softwareInterrupt).fiqReg = s.fiqReg := rfl
@[simp] theorem State.softwareInterrupt_irqReg (s : State) :
    (s.softwareInterrupt).irqReg = s.irqReg := rfl
@[simp] theorem State.softwareInterrupt_bus (s : State) :
    (s.softwareInterrupt).bus = s.bus := rfl
@[simp] theorem State.softwareInterrupt_ibus (s : State) :
    (s.softwareInterrupt).ibus = s.ibus := rfl
@[simp] theorem State.softwareInterrupt_cfg (s : State) :
    (s.softwareInterrupt).cfg = s.cfg := rfl
@[simp] theorem State.softwareInterrupt_pins (s : State) :
    (s.softwareInterrupt).pins = s.pins := rfl
@[simp] theorem State.softwareInterrupt_pinStream (s : State) :
    (s.softwareInterrupt).pinStream = s.pinStream := rfl
@[simp] theorem State.softwareInterrupt_cpScript (s : State) :
    (s.softwareInterrupt).cpScript = s.cpScript := rfl
@[simp] theorem State.softwareInterrupt_cpEvents (s : State) :
    (s.softwareInterrupt).cpEvents = s.cpEvents := rfl
@[simp] theorem State.softwareInterrupt_ice (s : State) :
    (s.softwareInterrupt).ice = s.ice := rfl
@[simp] theorem State.softwareInterrupt_tap (s : State) :
    (s.softwareInterrupt).tap = s.tap := rfl
@[simp] theorem State.softwareInterrupt_freeIx (s : State) :
    (s.softwareInterrupt).freeIx = s.freeIx := rfl

/-! ### prefetchAbort -/

@[simp] theorem State.prefetchAbort_spsrFiq (s : State) :
    (s.prefetchAbort).spsrFiq = s.spsrFiq := rfl
@[simp] theorem State.prefetchAbort_spsrSvc (s : State) :
    (s.prefetchAbort).spsrSvc = s.spsrSvc := rfl
@[simp] theorem State.prefetchAbort_spsrIrq (s : State) :
    (s.prefetchAbort).spsrIrq = s.spsrIrq := rfl
@[simp] theorem State.prefetchAbort_spsrUnd (s : State) :
    (s.prefetchAbort).spsrUnd = s.spsrUnd := rfl
@[simp] theorem State.prefetchAbort_mem (s : State) :
    (s.prefetchAbort).mem = s.mem := rfl
@[simp] theorem State.prefetchAbort_imem (s : State) :
    (s.prefetchAbort).imem = s.imem := rfl
@[simp] theorem State.prefetchAbort_fiqReg (s : State) :
    (s.prefetchAbort).fiqReg = s.fiqReg := rfl
@[simp] theorem State.prefetchAbort_irqReg (s : State) :
    (s.prefetchAbort).irqReg = s.irqReg := rfl
@[simp] theorem State.prefetchAbort_bus (s : State) :
    (s.prefetchAbort).bus = s.bus := rfl
@[simp] theorem State.prefetchAbort_ibus (s : State) :
    (s.prefetchAbort).ibus = s.ibus := rfl
@[simp] theorem State.prefetchAbort_cfg (s : State) :
    (s.prefetchAbort).cfg = s.cfg := rfl
@[simp] theorem State.prefetchAbort_pins (s : State) :
    (s.prefetchAbort).pins = s.pins := rfl
@[simp] theorem State.prefetchAbort_pinStream (s : State) :
    (s.prefetchAbort).pinStream = s.pinStream := rfl
@[simp] theorem State.prefetchAbort_cpScript (s : State) :
    (s.prefetchAbort).cpScript = s.cpScript := rfl
@[simp] theorem State.prefetchAbort_cpEvents (s : State) :
    (s.prefetchAbort).cpEvents = s.cpEvents := rfl
@[simp] theorem State.prefetchAbort_ice (s : State) :
    (s.prefetchAbort).ice = s.ice := rfl
@[simp] theorem State.prefetchAbort_tap (s : State) :
    (s.prefetchAbort).tap = s.tap := rfl
@[simp] theorem State.prefetchAbort_freeIx (s : State) :
    (s.prefetchAbort).freeIx = s.freeIx := rfl

/-! ### loadInto -/

@[simp] theorem State.loadInto_spsrFiq (s : State) (k : LoadKind) (u : Bool) (rn rd : Reg) (a : Addressed) :
    (s.loadInto k u rn rd a).spsrFiq = s.spsrFiq := by
  unfold State.loadInto; dsimp only; split
  · simp
  · split <;> simp
@[simp] theorem State.loadInto_spsrSvc (s : State) (k : LoadKind) (u : Bool) (rn rd : Reg) (a : Addressed) :
    (s.loadInto k u rn rd a).spsrSvc = s.spsrSvc := by
  unfold State.loadInto; dsimp only; split
  · simp
  · split <;> simp
@[simp] theorem State.loadInto_spsrIrq (s : State) (k : LoadKind) (u : Bool) (rn rd : Reg) (a : Addressed) :
    (s.loadInto k u rn rd a).spsrIrq = s.spsrIrq := by
  unfold State.loadInto; dsimp only; split
  · simp
  · split <;> simp
@[simp] theorem State.loadInto_spsrUnd (s : State) (k : LoadKind) (u : Bool) (rn rd : Reg) (a : Addressed) :
    (s.loadInto k u rn rd a).spsrUnd = s.spsrUnd := by
  unfold State.loadInto; dsimp only; split
  · simp
  · split <;> simp
@[simp] theorem State.loadInto_mem (s : State) (k : LoadKind) (u : Bool) (rn rd : Reg) (a : Addressed) :
    (s.loadInto k u rn rd a).mem = s.mem := by
  unfold State.loadInto; dsimp only; split
  · simp
  · split <;> simp
@[simp] theorem State.loadInto_imem (s : State) (k : LoadKind) (u : Bool) (rn rd : Reg) (a : Addressed) :
    (s.loadInto k u rn rd a).imem = s.imem := by
  unfold State.loadInto; dsimp only; split
  · simp
  · split <;> simp
@[simp] theorem State.loadInto_fiqReg (s : State) (k : LoadKind) (u : Bool) (rn rd : Reg) (a : Addressed) :
    (s.loadInto k u rn rd a).fiqReg = s.fiqReg := by
  unfold State.loadInto; dsimp only; split
  · simp
  · split <;> simp
@[simp] theorem State.loadInto_irqReg (s : State) (k : LoadKind) (u : Bool) (rn rd : Reg) (a : Addressed) :
    (s.loadInto k u rn rd a).irqReg = s.irqReg := by
  unfold State.loadInto; dsimp only; split
  · simp
  · split <;> simp
@[simp] theorem State.loadInto_ibus (s : State) (k : LoadKind) (u : Bool) (rn rd : Reg) (a : Addressed) :
    (s.loadInto k u rn rd a).ibus = s.ibus := by
  unfold State.loadInto; dsimp only; split
  · simp
  · split <;> simp
@[simp] theorem State.loadInto_cfg (s : State) (k : LoadKind) (u : Bool) (rn rd : Reg) (a : Addressed) :
    (s.loadInto k u rn rd a).cfg = s.cfg := by
  unfold State.loadInto; dsimp only; split
  · simp
  · split <;> simp
@[simp] theorem State.loadInto_pins (s : State) (k : LoadKind) (u : Bool) (rn rd : Reg) (a : Addressed) :
    (s.loadInto k u rn rd a).pins = s.pins := by
  unfold State.loadInto; dsimp only; split
  · simp
  · split <;> simp
@[simp] theorem State.loadInto_pinStream (s : State) (k : LoadKind) (u : Bool) (rn rd : Reg) (a : Addressed) :
    (s.loadInto k u rn rd a).pinStream = s.pinStream := by
  unfold State.loadInto; dsimp only; split
  · simp
  · split <;> simp
@[simp] theorem State.loadInto_cpScript (s : State) (k : LoadKind) (u : Bool) (rn rd : Reg) (a : Addressed) :
    (s.loadInto k u rn rd a).cpScript = s.cpScript := by
  unfold State.loadInto; dsimp only; split
  · simp
  · split <;> simp
@[simp] theorem State.loadInto_cpEvents (s : State) (k : LoadKind) (u : Bool) (rn rd : Reg) (a : Addressed) :
    (s.loadInto k u rn rd a).cpEvents = s.cpEvents := by
  unfold State.loadInto; dsimp only; split
  · simp
  · split <;> simp
@[simp] theorem State.loadInto_tap (s : State) (k : LoadKind) (u : Bool) (rn rd : Reg) (a : Addressed) :
    (s.loadInto k u rn rd a).tap = s.tap := by
  unfold State.loadInto; dsimp only; split
  · simp
  · split <;> simp
@[simp] theorem State.loadInto_freeIx (s : State) (k : LoadKind) (u : Bool) (rn rd : Reg) (a : Addressed) (h : s.cfg.dbgen = false) :
    (s.loadInto k u rn rd a).freeIx = s.freeIx := by
  unfold State.loadInto; dsimp only; split
  · simp [h]
  · split <;> simp [h]

/-! ### storeFrom -/

@[simp] theorem State.storeFrom_spsrFiq (s : State) (z : Size) (u : Bool) (rn rd : Reg) (a : Addressed) :
    (s.storeFrom z u rn rd a).spsrFiq = s.spsrFiq := by
  unfold State.storeFrom; dsimp only; split <;> simp
@[simp] theorem State.storeFrom_spsrSvc (s : State) (z : Size) (u : Bool) (rn rd : Reg) (a : Addressed) :
    (s.storeFrom z u rn rd a).spsrSvc = s.spsrSvc := by
  unfold State.storeFrom; dsimp only; split <;> simp
@[simp] theorem State.storeFrom_spsrIrq (s : State) (z : Size) (u : Bool) (rn rd : Reg) (a : Addressed) :
    (s.storeFrom z u rn rd a).spsrIrq = s.spsrIrq := by
  unfold State.storeFrom; dsimp only; split <;> simp
@[simp] theorem State.storeFrom_spsrUnd (s : State) (z : Size) (u : Bool) (rn rd : Reg) (a : Addressed) :
    (s.storeFrom z u rn rd a).spsrUnd = s.spsrUnd := by
  unfold State.storeFrom; dsimp only; split <;> simp
@[simp] theorem State.storeFrom_fiqReg (s : State) (z : Size) (u : Bool) (rn rd : Reg) (a : Addressed) :
    (s.storeFrom z u rn rd a).fiqReg = s.fiqReg := by
  unfold State.storeFrom; dsimp only; split <;> simp
@[simp] theorem State.storeFrom_irqReg (s : State) (z : Size) (u : Bool) (rn rd : Reg) (a : Addressed) :
    (s.storeFrom z u rn rd a).irqReg = s.irqReg := by
  unfold State.storeFrom; dsimp only; split <;> simp
@[simp] theorem State.storeFrom_ibus (s : State) (z : Size) (u : Bool) (rn rd : Reg) (a : Addressed) :
    (s.storeFrom z u rn rd a).ibus = s.ibus := by
  unfold State.storeFrom; dsimp only; split <;> simp
@[simp] theorem State.storeFrom_cfg (s : State) (z : Size) (u : Bool) (rn rd : Reg) (a : Addressed) :
    (s.storeFrom z u rn rd a).cfg = s.cfg := by
  unfold State.storeFrom; dsimp only; split <;> simp
@[simp] theorem State.storeFrom_pins (s : State) (z : Size) (u : Bool) (rn rd : Reg) (a : Addressed) :
    (s.storeFrom z u rn rd a).pins = s.pins := by
  unfold State.storeFrom; dsimp only; split <;> simp
@[simp] theorem State.storeFrom_pinStream (s : State) (z : Size) (u : Bool) (rn rd : Reg) (a : Addressed) :
    (s.storeFrom z u rn rd a).pinStream = s.pinStream := by
  unfold State.storeFrom; dsimp only; split <;> simp
@[simp] theorem State.storeFrom_cpScript (s : State) (z : Size) (u : Bool) (rn rd : Reg) (a : Addressed) :
    (s.storeFrom z u rn rd a).cpScript = s.cpScript := by
  unfold State.storeFrom; dsimp only; split <;> simp
@[simp] theorem State.storeFrom_cpEvents (s : State) (z : Size) (u : Bool) (rn rd : Reg) (a : Addressed) :
    (s.storeFrom z u rn rd a).cpEvents = s.cpEvents := by
  unfold State.storeFrom; dsimp only; split <;> simp
@[simp] theorem State.storeFrom_tap (s : State) (z : Size) (u : Bool) (rn rd : Reg) (a : Addressed) :
    (s.storeFrom z u rn rd a).tap = s.tap := by
  unfold State.storeFrom; dsimp only; split <;> simp
@[simp] theorem State.storeFrom_freeIx (s : State) (z : Size) (u : Bool) (rn rd : Reg) (a : Addressed) (h : s.cfg.dbgen = false) :
    (s.storeFrom z u rn rd a).freeIx = s.freeIx := by
  unfold State.storeFrom; dsimp only; split <;> simp [h]

/-! ### loadDouble -/

@[simp] theorem State.loadDouble_spsrFiq (s : State) (rn rd : Reg) (a : Addressed) :
    (s.loadDouble rn rd a).spsrFiq = s.spsrFiq := by
  unfold State.loadDouble; dsimp only; split
  · simp
  · split <;> simp
@[simp] theorem State.loadDouble_spsrSvc (s : State) (rn rd : Reg) (a : Addressed) :
    (s.loadDouble rn rd a).spsrSvc = s.spsrSvc := by
  unfold State.loadDouble; dsimp only; split
  · simp
  · split <;> simp
@[simp] theorem State.loadDouble_spsrIrq (s : State) (rn rd : Reg) (a : Addressed) :
    (s.loadDouble rn rd a).spsrIrq = s.spsrIrq := by
  unfold State.loadDouble; dsimp only; split
  · simp
  · split <;> simp
@[simp] theorem State.loadDouble_spsrUnd (s : State) (rn rd : Reg) (a : Addressed) :
    (s.loadDouble rn rd a).spsrUnd = s.spsrUnd := by
  unfold State.loadDouble; dsimp only; split
  · simp
  · split <;> simp
@[simp] theorem State.loadDouble_mem (s : State) (rn rd : Reg) (a : Addressed) :
    (s.loadDouble rn rd a).mem = s.mem := by
  unfold State.loadDouble; dsimp only; split
  · simp
  · split <;> simp
@[simp] theorem State.loadDouble_imem (s : State) (rn rd : Reg) (a : Addressed) :
    (s.loadDouble rn rd a).imem = s.imem := by
  unfold State.loadDouble; dsimp only; split
  · simp
  · split <;> simp
@[simp] theorem State.loadDouble_fiqReg (s : State) (rn rd : Reg) (a : Addressed) :
    (s.loadDouble rn rd a).fiqReg = s.fiqReg := by
  unfold State.loadDouble; dsimp only; split
  · simp
  · split <;> simp
@[simp] theorem State.loadDouble_irqReg (s : State) (rn rd : Reg) (a : Addressed) :
    (s.loadDouble rn rd a).irqReg = s.irqReg := by
  unfold State.loadDouble; dsimp only; split
  · simp
  · split <;> simp
@[simp] theorem State.loadDouble_ibus (s : State) (rn rd : Reg) (a : Addressed) :
    (s.loadDouble rn rd a).ibus = s.ibus := by
  unfold State.loadDouble; dsimp only; split
  · simp
  · split <;> simp
@[simp] theorem State.loadDouble_cfg (s : State) (rn rd : Reg) (a : Addressed) :
    (s.loadDouble rn rd a).cfg = s.cfg := by
  unfold State.loadDouble; dsimp only; split
  · simp
  · split <;> simp
@[simp] theorem State.loadDouble_pins (s : State) (rn rd : Reg) (a : Addressed) :
    (s.loadDouble rn rd a).pins = s.pins := by
  unfold State.loadDouble; dsimp only; split
  · simp
  · split <;> simp
@[simp] theorem State.loadDouble_pinStream (s : State) (rn rd : Reg) (a : Addressed) :
    (s.loadDouble rn rd a).pinStream = s.pinStream := by
  unfold State.loadDouble; dsimp only; split
  · simp
  · split <;> simp
@[simp] theorem State.loadDouble_cpScript (s : State) (rn rd : Reg) (a : Addressed) :
    (s.loadDouble rn rd a).cpScript = s.cpScript := by
  unfold State.loadDouble; dsimp only; split
  · simp
  · split <;> simp
@[simp] theorem State.loadDouble_cpEvents (s : State) (rn rd : Reg) (a : Addressed) :
    (s.loadDouble rn rd a).cpEvents = s.cpEvents := by
  unfold State.loadDouble; dsimp only; split
  · simp
  · split <;> simp
@[simp] theorem State.loadDouble_tap (s : State) (rn rd : Reg) (a : Addressed) :
    (s.loadDouble rn rd a).tap = s.tap := by
  unfold State.loadDouble; dsimp only; split
  · simp
  · split <;> simp
@[simp] theorem State.loadDouble_freeIx (s : State) (rn rd : Reg) (a : Addressed) (h : s.cfg.dbgen = false) :
    (s.loadDouble rn rd a).freeIx = s.freeIx := by
  unfold State.loadDouble; dsimp only; split
  · simp [h]
  · split <;> simp [h]

/-! ### storeDouble -/

@[simp] theorem State.storeDouble_spsrFiq (s : State) (rn rd : Reg) (a : Addressed) :
    (s.storeDouble rn rd a).spsrFiq = s.spsrFiq := by
  unfold State.storeDouble; dsimp only; split <;> simp
@[simp] theorem State.storeDouble_spsrSvc (s : State) (rn rd : Reg) (a : Addressed) :
    (s.storeDouble rn rd a).spsrSvc = s.spsrSvc := by
  unfold State.storeDouble; dsimp only; split <;> simp
@[simp] theorem State.storeDouble_spsrIrq (s : State) (rn rd : Reg) (a : Addressed) :
    (s.storeDouble rn rd a).spsrIrq = s.spsrIrq := by
  unfold State.storeDouble; dsimp only; split <;> simp
@[simp] theorem State.storeDouble_spsrUnd (s : State) (rn rd : Reg) (a : Addressed) :
    (s.storeDouble rn rd a).spsrUnd = s.spsrUnd := by
  unfold State.storeDouble; dsimp only; split <;> simp
@[simp] theorem State.storeDouble_fiqReg (s : State) (rn rd : Reg) (a : Addressed) :
    (s.storeDouble rn rd a).fiqReg = s.fiqReg := by
  unfold State.storeDouble; dsimp only; split <;> simp
@[simp] theorem State.storeDouble_irqReg (s : State) (rn rd : Reg) (a : Addressed) :
    (s.storeDouble rn rd a).irqReg = s.irqReg := by
  unfold State.storeDouble; dsimp only; split <;> simp
@[simp] theorem State.storeDouble_ibus (s : State) (rn rd : Reg) (a : Addressed) :
    (s.storeDouble rn rd a).ibus = s.ibus := by
  unfold State.storeDouble; dsimp only; split <;> simp
@[simp] theorem State.storeDouble_cfg (s : State) (rn rd : Reg) (a : Addressed) :
    (s.storeDouble rn rd a).cfg = s.cfg := by
  unfold State.storeDouble; dsimp only; split <;> simp
@[simp] theorem State.storeDouble_pins (s : State) (rn rd : Reg) (a : Addressed) :
    (s.storeDouble rn rd a).pins = s.pins := by
  unfold State.storeDouble; dsimp only; split <;> simp
@[simp] theorem State.storeDouble_pinStream (s : State) (rn rd : Reg) (a : Addressed) :
    (s.storeDouble rn rd a).pinStream = s.pinStream := by
  unfold State.storeDouble; dsimp only; split <;> simp
@[simp] theorem State.storeDouble_cpScript (s : State) (rn rd : Reg) (a : Addressed) :
    (s.storeDouble rn rd a).cpScript = s.cpScript := by
  unfold State.storeDouble; dsimp only; split <;> simp
@[simp] theorem State.storeDouble_cpEvents (s : State) (rn rd : Reg) (a : Addressed) :
    (s.storeDouble rn rd a).cpEvents = s.cpEvents := by
  unfold State.storeDouble; dsimp only; split <;> simp
@[simp] theorem State.storeDouble_tap (s : State) (rn rd : Reg) (a : Addressed) :
    (s.storeDouble rn rd a).tap = s.tap := by
  unfold State.storeDouble; dsimp only; split <;> simp
@[simp] theorem State.storeDouble_freeIx (s : State) (rn rd : Reg) (a : Addressed) (h : s.cfg.dbgen = false) :
    (s.storeDouble rn rd a).freeIx = s.freeIx := by
  unfold State.storeDouble; dsimp only; split <;> simp [h]

/-! ### storeMultiple -/

@[simp] theorem State.storeMultiple_spsrFiq (s : State) (p u w : Bool) (rn : Reg) (vs : List Word) :
    (s.storeMultiple p u w rn vs id).spsrFiq = s.spsrFiq := by
  unfold State.storeMultiple; dsimp only [id]; split
  · split <;> simp
  · simp
@[simp] theorem State.storeMultiple_spsrSvc (s : State) (p u w : Bool) (rn : Reg) (vs : List Word) :
    (s.storeMultiple p u w rn vs id).spsrSvc = s.spsrSvc := by
  unfold State.storeMultiple; dsimp only [id]; split
  · split <;> simp
  · simp
@[simp] theorem State.storeMultiple_spsrIrq (s : State) (p u w : Bool) (rn : Reg) (vs : List Word) :
    (s.storeMultiple p u w rn vs id).spsrIrq = s.spsrIrq := by
  unfold State.storeMultiple; dsimp only [id]; split
  · split <;> simp
  · simp
@[simp] theorem State.storeMultiple_spsrUnd (s : State) (p u w : Bool) (rn : Reg) (vs : List Word) :
    (s.storeMultiple p u w rn vs id).spsrUnd = s.spsrUnd := by
  unfold State.storeMultiple; dsimp only [id]; split
  · split <;> simp
  · simp
@[simp] theorem State.storeMultiple_fiqReg (s : State) (p u w : Bool) (rn : Reg) (vs : List Word) :
    (s.storeMultiple p u w rn vs id).fiqReg = s.fiqReg := by
  unfold State.storeMultiple; dsimp only [id]; split
  · split <;> simp
  · simp
@[simp] theorem State.storeMultiple_irqReg (s : State) (p u w : Bool) (rn : Reg) (vs : List Word) :
    (s.storeMultiple p u w rn vs id).irqReg = s.irqReg := by
  unfold State.storeMultiple; dsimp only [id]; split
  · split <;> simp
  · simp
@[simp] theorem State.storeMultiple_ibus (s : State) (p u w : Bool) (rn : Reg) (vs : List Word) :
    (s.storeMultiple p u w rn vs id).ibus = s.ibus := by
  unfold State.storeMultiple; dsimp only [id]; split
  · split <;> simp
  · simp
@[simp] theorem State.storeMultiple_cfg (s : State) (p u w : Bool) (rn : Reg) (vs : List Word) :
    (s.storeMultiple p u w rn vs id).cfg = s.cfg := by
  unfold State.storeMultiple; dsimp only [id]; split
  · split <;> simp
  · simp
@[simp] theorem State.storeMultiple_pins (s : State) (p u w : Bool) (rn : Reg) (vs : List Word) :
    (s.storeMultiple p u w rn vs id).pins = s.pins := by
  unfold State.storeMultiple; dsimp only [id]; split
  · split <;> simp
  · simp
@[simp] theorem State.storeMultiple_pinStream (s : State) (p u w : Bool) (rn : Reg) (vs : List Word) :
    (s.storeMultiple p u w rn vs id).pinStream = s.pinStream := by
  unfold State.storeMultiple; dsimp only [id]; split
  · split <;> simp
  · simp
@[simp] theorem State.storeMultiple_cpScript (s : State) (p u w : Bool) (rn : Reg) (vs : List Word) :
    (s.storeMultiple p u w rn vs id).cpScript = s.cpScript := by
  unfold State.storeMultiple; dsimp only [id]; split
  · split <;> simp
  · simp
@[simp] theorem State.storeMultiple_cpEvents (s : State) (p u w : Bool) (rn : Reg) (vs : List Word) :
    (s.storeMultiple p u w rn vs id).cpEvents = s.cpEvents := by
  unfold State.storeMultiple; dsimp only [id]; split
  · split <;> simp
  · simp
@[simp] theorem State.storeMultiple_tap (s : State) (p u w : Bool) (rn : Reg) (vs : List Word) :
    (s.storeMultiple p u w rn vs id).tap = s.tap := by
  unfold State.storeMultiple; dsimp only [id]; split
  · split <;> simp
  · simp
@[simp] theorem State.storeMultiple_freeIx (s : State) (p u w : Bool) (rn : Reg) (vs : List Word) (h : s.cfg.dbgen = false) :
    (s.storeMultiple p u w rn vs id).freeIx = s.freeIx := by
  unfold State.storeMultiple; dsimp only [id]; split
  · split <;> simp [h]
  · simp [h]

/-! ### storeRegs -/

@[simp] theorem State.storeRegs_spsrFiq (s : State) (p u w : Bool) (rn : Reg) (rs : List Reg) :
    (s.storeRegs p u w rn rs).spsrFiq = s.spsrFiq := by
  unfold State.storeRegs; split <;> simp
@[simp] theorem State.storeRegs_spsrSvc (s : State) (p u w : Bool) (rn : Reg) (rs : List Reg) :
    (s.storeRegs p u w rn rs).spsrSvc = s.spsrSvc := by
  unfold State.storeRegs; split <;> simp
@[simp] theorem State.storeRegs_spsrIrq (s : State) (p u w : Bool) (rn : Reg) (rs : List Reg) :
    (s.storeRegs p u w rn rs).spsrIrq = s.spsrIrq := by
  unfold State.storeRegs; split <;> simp
@[simp] theorem State.storeRegs_spsrUnd (s : State) (p u w : Bool) (rn : Reg) (rs : List Reg) :
    (s.storeRegs p u w rn rs).spsrUnd = s.spsrUnd := by
  unfold State.storeRegs; split <;> simp
@[simp] theorem State.storeRegs_fiqReg (s : State) (p u w : Bool) (rn : Reg) (rs : List Reg) :
    (s.storeRegs p u w rn rs).fiqReg = s.fiqReg := by
  unfold State.storeRegs; split <;> simp
@[simp] theorem State.storeRegs_irqReg (s : State) (p u w : Bool) (rn : Reg) (rs : List Reg) :
    (s.storeRegs p u w rn rs).irqReg = s.irqReg := by
  unfold State.storeRegs; split <;> simp
@[simp] theorem State.storeRegs_ibus (s : State) (p u w : Bool) (rn : Reg) (rs : List Reg) :
    (s.storeRegs p u w rn rs).ibus = s.ibus := by
  unfold State.storeRegs; split <;> simp
@[simp] theorem State.storeRegs_cfg (s : State) (p u w : Bool) (rn : Reg) (rs : List Reg) :
    (s.storeRegs p u w rn rs).cfg = s.cfg := by
  unfold State.storeRegs; split <;> simp
@[simp] theorem State.storeRegs_pins (s : State) (p u w : Bool) (rn : Reg) (rs : List Reg) :
    (s.storeRegs p u w rn rs).pins = s.pins := by
  unfold State.storeRegs; split <;> simp
@[simp] theorem State.storeRegs_pinStream (s : State) (p u w : Bool) (rn : Reg) (rs : List Reg) :
    (s.storeRegs p u w rn rs).pinStream = s.pinStream := by
  unfold State.storeRegs; split <;> simp
@[simp] theorem State.storeRegs_cpScript (s : State) (p u w : Bool) (rn : Reg) (rs : List Reg) :
    (s.storeRegs p u w rn rs).cpScript = s.cpScript := by
  unfold State.storeRegs; split <;> simp
@[simp] theorem State.storeRegs_cpEvents (s : State) (p u w : Bool) (rn : Reg) (rs : List Reg) :
    (s.storeRegs p u w rn rs).cpEvents = s.cpEvents := by
  unfold State.storeRegs; split <;> simp
@[simp] theorem State.storeRegs_tap (s : State) (p u w : Bool) (rn : Reg) (rs : List Reg) :
    (s.storeRegs p u w rn rs).tap = s.tap := by
  unfold State.storeRegs; split <;> simp

/-! ### swap -/

@[simp] theorem State.swap_spsrFiq (s : State) (k : LoadKind) (rn rd rm : Reg) :
    (s.swap k rn rd rm).spsrFiq = s.spsrFiq := by
  unfold State.swap; dsimp only; split
  · simp
  · simp
  · split <;> simp
@[simp] theorem State.swap_spsrSvc (s : State) (k : LoadKind) (rn rd rm : Reg) :
    (s.swap k rn rd rm).spsrSvc = s.spsrSvc := by
  unfold State.swap; dsimp only; split
  · simp
  · simp
  · split <;> simp
@[simp] theorem State.swap_spsrIrq (s : State) (k : LoadKind) (rn rd rm : Reg) :
    (s.swap k rn rd rm).spsrIrq = s.spsrIrq := by
  unfold State.swap; dsimp only; split
  · simp
  · simp
  · split <;> simp
@[simp] theorem State.swap_spsrUnd (s : State) (k : LoadKind) (rn rd rm : Reg) :
    (s.swap k rn rd rm).spsrUnd = s.spsrUnd := by
  unfold State.swap; dsimp only; split
  · simp
  · simp
  · split <;> simp
@[simp] theorem State.swap_fiqReg (s : State) (k : LoadKind) (rn rd rm : Reg) :
    (s.swap k rn rd rm).fiqReg = s.fiqReg := by
  unfold State.swap; dsimp only; split
  · simp
  · simp
  · split <;> simp
@[simp] theorem State.swap_irqReg (s : State) (k : LoadKind) (rn rd rm : Reg) :
    (s.swap k rn rd rm).irqReg = s.irqReg := by
  unfold State.swap; dsimp only; split
  · simp
  · simp
  · split <;> simp
@[simp] theorem State.swap_ibus (s : State) (k : LoadKind) (rn rd rm : Reg) :
    (s.swap k rn rd rm).ibus = s.ibus := by
  unfold State.swap; dsimp only; split
  · simp
  · simp
  · split <;> simp
@[simp] theorem State.swap_cfg (s : State) (k : LoadKind) (rn rd rm : Reg) :
    (s.swap k rn rd rm).cfg = s.cfg := by
  unfold State.swap; dsimp only; split
  · simp
  · simp
  · split <;> simp
@[simp] theorem State.swap_pins (s : State) (k : LoadKind) (rn rd rm : Reg) :
    (s.swap k rn rd rm).pins = s.pins := by
  unfold State.swap; dsimp only; split
  · simp
  · simp
  · split <;> simp
@[simp] theorem State.swap_pinStream (s : State) (k : LoadKind) (rn rd rm : Reg) :
    (s.swap k rn rd rm).pinStream = s.pinStream := by
  unfold State.swap; dsimp only; split
  · simp
  · simp
  · split <;> simp
@[simp] theorem State.swap_cpScript (s : State) (k : LoadKind) (rn rd rm : Reg) :
    (s.swap k rn rd rm).cpScript = s.cpScript := by
  unfold State.swap; dsimp only; split
  · simp
  · simp
  · split <;> simp
@[simp] theorem State.swap_cpEvents (s : State) (k : LoadKind) (rn rd rm : Reg) :
    (s.swap k rn rd rm).cpEvents = s.cpEvents := by
  unfold State.swap; dsimp only; split
  · simp
  · simp
  · split <;> simp
@[simp] theorem State.swap_tap (s : State) (k : LoadKind) (rn rd rm : Reg) :
    (s.swap k rn rd rm).tap = s.tap := by
  unfold State.swap; dsimp only; split
  · simp
  · simp
  · split <;> simp
@[simp] theorem State.swap_freeIx (s : State) (k : LoadKind) (rn rd rm : Reg) (h : s.cfg.dbgen = false) :
    (s.swap k rn rd rm).freeIx = s.freeIx := by
  unfold State.swap; dsimp only; split
  · simp [h]
  · simp [h]
  · split <;> simp [h]

/-! ### loadCoprocessor -/

@[simp] theorem State.loadCoprocessor_spsrFiq (s : State) (n : Nat) (rn : Reg) (a : Addressed) :
    (s.loadCoprocessor n rn a).spsrFiq = s.spsrFiq := by
  unfold State.loadCoprocessor; dsimp only; split <;> simp
@[simp] theorem State.loadCoprocessor_spsrSvc (s : State) (n : Nat) (rn : Reg) (a : Addressed) :
    (s.loadCoprocessor n rn a).spsrSvc = s.spsrSvc := by
  unfold State.loadCoprocessor; dsimp only; split <;> simp
@[simp] theorem State.loadCoprocessor_spsrIrq (s : State) (n : Nat) (rn : Reg) (a : Addressed) :
    (s.loadCoprocessor n rn a).spsrIrq = s.spsrIrq := by
  unfold State.loadCoprocessor; dsimp only; split <;> simp
@[simp] theorem State.loadCoprocessor_spsrUnd (s : State) (n : Nat) (rn : Reg) (a : Addressed) :
    (s.loadCoprocessor n rn a).spsrUnd = s.spsrUnd := by
  unfold State.loadCoprocessor; dsimp only; split <;> simp
@[simp] theorem State.loadCoprocessor_mem (s : State) (n : Nat) (rn : Reg) (a : Addressed) :
    (s.loadCoprocessor n rn a).mem = s.mem := by
  unfold State.loadCoprocessor; dsimp only; split <;> simp
@[simp] theorem State.loadCoprocessor_imem (s : State) (n : Nat) (rn : Reg) (a : Addressed) :
    (s.loadCoprocessor n rn a).imem = s.imem := by
  unfold State.loadCoprocessor; dsimp only; split <;> simp
@[simp] theorem State.loadCoprocessor_fiqReg (s : State) (n : Nat) (rn : Reg) (a : Addressed) :
    (s.loadCoprocessor n rn a).fiqReg = s.fiqReg := by
  unfold State.loadCoprocessor; dsimp only; split <;> simp
@[simp] theorem State.loadCoprocessor_irqReg (s : State) (n : Nat) (rn : Reg) (a : Addressed) :
    (s.loadCoprocessor n rn a).irqReg = s.irqReg := by
  unfold State.loadCoprocessor; dsimp only; split <;> simp
@[simp] theorem State.loadCoprocessor_ibus (s : State) (n : Nat) (rn : Reg) (a : Addressed) :
    (s.loadCoprocessor n rn a).ibus = s.ibus := by
  unfold State.loadCoprocessor; dsimp only; split <;> simp
@[simp] theorem State.loadCoprocessor_cfg (s : State) (n : Nat) (rn : Reg) (a : Addressed) :
    (s.loadCoprocessor n rn a).cfg = s.cfg := by
  unfold State.loadCoprocessor; dsimp only; split <;> simp
@[simp] theorem State.loadCoprocessor_pins (s : State) (n : Nat) (rn : Reg) (a : Addressed) :
    (s.loadCoprocessor n rn a).pins = s.pins := by
  unfold State.loadCoprocessor; dsimp only; split <;> simp
@[simp] theorem State.loadCoprocessor_pinStream (s : State) (n : Nat) (rn : Reg) (a : Addressed) :
    (s.loadCoprocessor n rn a).pinStream = s.pinStream := by
  unfold State.loadCoprocessor; dsimp only; split <;> simp
@[simp] theorem State.loadCoprocessor_cpScript (s : State) (n : Nat) (rn : Reg) (a : Addressed) :
    (s.loadCoprocessor n rn a).cpScript = s.cpScript := by
  unfold State.loadCoprocessor; dsimp only; split <;> simp
@[simp] theorem State.loadCoprocessor_tap (s : State) (n : Nat) (rn : Reg) (a : Addressed) :
    (s.loadCoprocessor n rn a).tap = s.tap := by
  unfold State.loadCoprocessor; dsimp only; split <;> simp
@[simp] theorem State.loadCoprocessor_freeIx (s : State) (n : Nat) (rn : Reg) (a : Addressed) (h : s.cfg.dbgen = false) :
    (s.loadCoprocessor n rn a).freeIx = s.freeIx := by
  unfold State.loadCoprocessor; dsimp only; split <;> simp [h]

/-! ### storeCoprocessor -/

@[simp] theorem State.storeCoprocessor_spsrFiq (s : State) (vs : List Word) (rn : Reg) (a : Addressed) :
    (s.storeCoprocessor vs rn a).spsrFiq = s.spsrFiq := by
  unfold State.storeCoprocessor; dsimp only; split <;> simp
@[simp] theorem State.storeCoprocessor_spsrSvc (s : State) (vs : List Word) (rn : Reg) (a : Addressed) :
    (s.storeCoprocessor vs rn a).spsrSvc = s.spsrSvc := by
  unfold State.storeCoprocessor; dsimp only; split <;> simp
@[simp] theorem State.storeCoprocessor_spsrIrq (s : State) (vs : List Word) (rn : Reg) (a : Addressed) :
    (s.storeCoprocessor vs rn a).spsrIrq = s.spsrIrq := by
  unfold State.storeCoprocessor; dsimp only; split <;> simp
@[simp] theorem State.storeCoprocessor_spsrUnd (s : State) (vs : List Word) (rn : Reg) (a : Addressed) :
    (s.storeCoprocessor vs rn a).spsrUnd = s.spsrUnd := by
  unfold State.storeCoprocessor; dsimp only; split <;> simp
@[simp] theorem State.storeCoprocessor_fiqReg (s : State) (vs : List Word) (rn : Reg) (a : Addressed) :
    (s.storeCoprocessor vs rn a).fiqReg = s.fiqReg := by
  unfold State.storeCoprocessor; dsimp only; split <;> simp
@[simp] theorem State.storeCoprocessor_irqReg (s : State) (vs : List Word) (rn : Reg) (a : Addressed) :
    (s.storeCoprocessor vs rn a).irqReg = s.irqReg := by
  unfold State.storeCoprocessor; dsimp only; split <;> simp
@[simp] theorem State.storeCoprocessor_ibus (s : State) (vs : List Word) (rn : Reg) (a : Addressed) :
    (s.storeCoprocessor vs rn a).ibus = s.ibus := by
  unfold State.storeCoprocessor; dsimp only; split <;> simp
@[simp] theorem State.storeCoprocessor_cfg (s : State) (vs : List Word) (rn : Reg) (a : Addressed) :
    (s.storeCoprocessor vs rn a).cfg = s.cfg := by
  unfold State.storeCoprocessor; dsimp only; split <;> simp
@[simp] theorem State.storeCoprocessor_pins (s : State) (vs : List Word) (rn : Reg) (a : Addressed) :
    (s.storeCoprocessor vs rn a).pins = s.pins := by
  unfold State.storeCoprocessor; dsimp only; split <;> simp
@[simp] theorem State.storeCoprocessor_pinStream (s : State) (vs : List Word) (rn : Reg) (a : Addressed) :
    (s.storeCoprocessor vs rn a).pinStream = s.pinStream := by
  unfold State.storeCoprocessor; dsimp only; split <;> simp
@[simp] theorem State.storeCoprocessor_cpScript (s : State) (vs : List Word) (rn : Reg) (a : Addressed) :
    (s.storeCoprocessor vs rn a).cpScript = s.cpScript := by
  unfold State.storeCoprocessor; dsimp only; split <;> simp
@[simp] theorem State.storeCoprocessor_cpEvents (s : State) (vs : List Word) (rn : Reg) (a : Addressed) :
    (s.storeCoprocessor vs rn a).cpEvents = s.cpEvents := by
  unfold State.storeCoprocessor; dsimp only; split <;> simp
@[simp] theorem State.storeCoprocessor_tap (s : State) (vs : List Word) (rn : Reg) (a : Addressed) :
    (s.storeCoprocessor vs rn a).tap = s.tap := by
  unfold State.storeCoprocessor; dsimp only; split <;> simp
@[simp] theorem State.storeCoprocessor_freeIx (s : State) (vs : List Word) (rn : Reg) (a : Addressed) (h : s.cfg.dbgen = false) :
    (s.storeCoprocessor vs rn a).freeIx = s.freeIx := by
  unfold State.storeCoprocessor; dsimp only; split <;> simp [h]

/-! ### Block loads, whatever comes last -/

theorem State.loadMultiple_mem (s : State) (m : Mode) (p u w : Bool) (rn : Reg) (rs : List Reg)
    (fin : State → Word → State) (h : ∀ t v, (fin t v).mem = t.mem) :
    (s.loadMultiple m p u w rn rs fin).mem = s.mem := by
  unfold State.loadMultiple State.finishLoad State.readList; dsimp only; split
  · rw [h]; split <;> split at * <;> simp_all
  · simp
theorem State.loadMultiple_imem (s : State) (m : Mode) (p u w : Bool) (rn : Reg) (rs : List Reg)
    (fin : State → Word → State) (h : ∀ t v, (fin t v).imem = t.imem) :
    (s.loadMultiple m p u w rn rs fin).imem = s.imem := by
  unfold State.loadMultiple State.finishLoad State.readList; dsimp only; split
  · rw [h]; split <;> split at * <;> simp_all
  · simp
theorem State.loadMultiple_cfg (s : State) (m : Mode) (p u w : Bool) (rn : Reg) (rs : List Reg)
    (fin : State → Word → State) (h : ∀ t v, (fin t v).cfg = t.cfg) :
    (s.loadMultiple m p u w rn rs fin).cfg = s.cfg := by
  unfold State.loadMultiple State.finishLoad State.readList; dsimp only; split
  · rw [h]; split <;> split at * <;> simp_all
  · simp
theorem State.loadMultiple_pins (s : State) (m : Mode) (p u w : Bool) (rn : Reg) (rs : List Reg)
    (fin : State → Word → State) (h : ∀ t v, (fin t v).pins = t.pins) :
    (s.loadMultiple m p u w rn rs fin).pins = s.pins := by
  unfold State.loadMultiple State.finishLoad State.readList; dsimp only; split
  · rw [h]; split <;> split at * <;> simp_all
  · simp
theorem State.loadMultiple_pinStream (s : State) (m : Mode) (p u w : Bool) (rn : Reg) (rs : List Reg)
    (fin : State → Word → State) (h : ∀ t v, (fin t v).pinStream = t.pinStream) :
    (s.loadMultiple m p u w rn rs fin).pinStream = s.pinStream := by
  unfold State.loadMultiple State.finishLoad State.readList; dsimp only; split
  · rw [h]; split <;> split at * <;> simp_all
  · simp
theorem State.loadMultiple_tap (s : State) (m : Mode) (p u w : Bool) (rn : Reg) (rs : List Reg)
    (fin : State → Word → State) (h : ∀ t v, (fin t v).tap = t.tap) :
    (s.loadMultiple m p u w rn rs fin).tap = s.tap := by
  unfold State.loadMultiple State.finishLoad State.readList; dsimp only; split
  · rw [h]; split <;> split at * <;> simp_all
  · simp
theorem State.loadMultiple_fiqReg (s : State) (m : Mode) (p u w : Bool) (rn : Reg) (rs : List Reg)
    (fin : State → Word → State) (h : ∀ t v, (fin t v).fiqReg = t.fiqReg) :
    (s.loadMultiple m p u w rn rs fin).fiqReg = s.fiqReg := by
  unfold State.loadMultiple State.finishLoad State.readList; dsimp only; split
  · rw [h]; split <;> split at * <;> simp_all
  · simp
theorem State.loadMultiple_irqReg (s : State) (m : Mode) (p u w : Bool) (rn : Reg) (rs : List Reg)
    (fin : State → Word → State) (h : ∀ t v, (fin t v).irqReg = t.irqReg) :
    (s.loadMultiple m p u w rn rs fin).irqReg = s.irqReg := by
  unfold State.loadMultiple State.finishLoad State.readList; dsimp only; split
  · rw [h]; split <;> split at * <;> simp_all
  · simp

end Sys2Proof.Machine
end

