-- ==== Sys2Proof/Laws/PerInstr.lean ====
section
/-! SUPPORT. The per-instruction family `CondField`: the word an instruction is encoded as belongs to its instruction
set, and carries its condition in bits 31:28 (R112, R113, R121). -/

namespace Sys2Proof.Laws

open Sys2Proof.Machine

/-- The condition field of an ARM word. -/
def condField (w : Word) : Option Cond := Cond.ofBits (fld w 28 4)

theorem cond_ofBits_bits (c : Cond) : Cond.ofBits c.bits = some c := by cases c <;> decide

/-- The leading four bits of a concatenation. -/
theorem condField_eq {w : Word} {c : Cond} (h : fld w 28 4 = c.bits) : condField w = some c := by
  unfold condField; rw [h]; exact cond_ofBits_bits c

/-- The part of a concatenation above its last field. -/
theorem lead_append {m n : Nat} (x : BitVec m) (y : BitVec n) (lo len : Nat) (h : n ≤ lo) :
    fld (x ++ y) lo len = fld x (lo - n) len := by
  unfold fld
  exact BitVec.extractLsb'_append_eq_of_le h

theorem fld_whole (x : BitVec 4) : fld x 0 4 = x := by simp [fld]

theorem lead_MrsOps (o : MrsOps) : fld (MrsOps.word o) 28 4 = o.cond.bits := by
  unfold MrsOps.word
  repeat refine (lead_append _ _ _ _ (by decide)).trans ?_
  exact fld_whole _

theorem lead_MsrRegOps (o : MsrRegOps) : fld (MsrRegOps.word o) 28 4 = o.cond.bits := by
  unfold MsrRegOps.word
  repeat refine (lead_append _ _ _ _ (by decide)).trans ?_
  exact fld_whole _

theorem lead_MsrImmOps (o : MsrImmOps) : fld (MsrImmOps.word o) 28 4 = o.cond.bits := by
  unfold MsrImmOps.word
  repeat refine (lead_append _ _ _ _ (by decide)).trans ?_
  exact fld_whole _

theorem lead_BxOps (op : BitVec 4) (o : BxOps) : fld (BxOps.word op o) 28 4 = o.cond.bits := by
  unfold BxOps.word
  repeat refine (lead_append _ _ _ _ (by decide)).trans ?_
  exact fld_whole _

theorem lead_ClzOps (o : ClzOps) : fld (ClzOps.word o) 28 4 = o.cond.bits := by
  unfold ClzOps.word
  repeat refine (lead_append _ _ _ _ (by decide)).trans ?_
  exact fld_whole _

theorem lead_QOps (op : BitVec 2) (o : QOps) : fld (QOps.word op o) 28 4 = o.cond.bits := by
  unfold QOps.word
  repeat refine (lead_append _ _ _ _ (by decide)).trans ?_
  exact fld_whole _

theorem lead_SmlaXyOps (o : SmlaXyOps) : fld (SmlaXyOps.word o) 28 4 = o.cond.bits := by
  unfold SmlaXyOps.word
  repeat refine (lead_append _ _ _ _ (by decide)).trans ?_
  exact fld_whole _

theorem lead_SmlaWOps (o : SmlaWOps) : fld (SmlaWOps.word o) 28 4 = o.cond.bits := by
  unfold SmlaWOps.word
  repeat refine (lead_append _ _ _ _ (by decide)).trans ?_
  exact fld_whole _

theorem lead_SmulWOps (o : SmulWOps) : fld (SmulWOps.word o) 28 4 = o.cond.bits := by
  unfold SmulWOps.word
  repeat refine (lead_append _ _ _ _ (by decide)).trans ?_
  exact fld_whole _

theorem lead_SmlalXyOps (o : SmlalXyOps) : fld (SmlalXyOps.word o) 28 4 = o.cond.bits := by
  unfold SmlalXyOps.word
  repeat refine (lead_append _ _ _ _ (by decide)).trans ?_
  exact fld_whole _

theorem lead_SmulXyOps (o : SmulXyOps) : fld (SmulXyOps.word o) 28 4 = o.cond.bits := by
  unfold SmulXyOps.word
  repeat refine (lead_append _ _ _ _ (by decide)).trans ?_
  exact fld_whole _

theorem lead_MulOps (o : MulOps) : fld (MulOps.word o) 28 4 = o.cond.bits := by
  unfold MulOps.word
  repeat refine (lead_append _ _ _ _ (by decide)).trans ?_
  exact fld_whole _

theorem lead_MlaOps (o : MlaOps) : fld (MlaOps.word o) 28 4 = o.cond.bits := by
  unfold MlaOps.word
  repeat refine (lead_append _ _ _ _ (by decide)).trans ?_
  exact fld_whole _

theorem lead_MullOps (op : BitVec 2) (o : MullOps) : fld (MullOps.word op o) 28 4 = o.cond.bits := by
  unfold MullOps.word
  repeat refine (lead_append _ _ _ _ (by decide)).trans ?_
  exact fld_whole _

theorem lead_SwpOps (b : BitVec 1) (o : SwpOps) : fld (SwpOps.word b o) 28 4 = o.cond.bits := by
  unfold SwpOps.word
  repeat refine (lead_append _ _ _ _ (by decide)).trans ?_
  exact fld_whole _

theorem lead_ExtImmOps (l : BitVec 1) (sh : BitVec 2) (o : ExtImmOps) : fld (ExtImmOps.word l sh o) 28 4 = o.cond.bits := by
  unfold ExtImmOps.word
  repeat refine (lead_append _ _ _ _ (by decide)).trans ?_
  exact fld_whole _

theorem lead_ExtRegOps (l : BitVec 1) (sh : BitVec 2) (o : ExtRegOps) : fld (ExtRegOps.word l sh o) 28 4 = o.cond.bits := by
  unfold ExtRegOps.word
  repeat refine (lead_append _ _ _ _ (by decide)).trans ?_
  exact fld_whole _

theorem lead_AluImmOps (op : BitVec 4) (o : AluImmOps) : fld (AluImmOps.word op o) 28 4 = o.cond.bits := by
  unfold AluImmOps.word
  repeat refine (lead_append _ _ _ _ (by decide)).trans ?_
  exact fld_whole _

theorem lead_AluShiftOps (op : BitVec 4) (o : AluShiftOps) : fld (AluShiftOps.word op o) 28 4 = o.cond.bits := by
  unfold AluShiftOps.word
  repeat refine (lead_append _ _ _ _ (by decide)).trans ?_
  exact fld_whole _

theorem lead_AluRegOps (op : BitVec 4) (o : AluRegOps) : fld (AluRegOps.word op o) 28 4 = o.cond.bits := by
  unfold AluRegOps.word
  repeat refine (lead_append _ _ _ _ (by decide)).trans ?_
  exact fld_whole _

theorem lead_CmpImmOps (op : BitVec 4) (o : CmpImmOps) : fld (CmpImmOps.word op o) 28 4 = o.cond.bits := by
  unfold CmpImmOps.word
  repeat refine (lead_append _ _ _ _ (by decide)).trans ?_
  exact fld_whole _

theorem lead_CmpShiftOps (op : BitVec 4) (o : CmpShiftOps) : fld (CmpShiftOps.word op o) 28 4 = o.cond.bits := by
  unfold CmpShiftOps.word
  repeat refine (lead_append _ _ _ _ (by decide)).trans ?_
  exact fld_whole _

theorem lead_CmpRegOps (op : BitVec 4) (o : CmpRegOps) : fld (CmpRegOps.word op o) 28 4 = o.cond.bits := by
  unfold CmpRegOps.word
  repeat refine (lead_append _ _ _ _ (by decide)).trans ?_
  exact fld_whole _

theorem lead_MovImmOps (op : BitVec 4) (o : MovImmOps) : fld (MovImmOps.word op o) 28 4 = o.cond.bits := by
  unfold MovImmOps.word
  repeat refine (lead_append _ _ _ _ (by decide)).trans ?_
  exact fld_whole _

theorem lead_MovShiftOps (op : BitVec 4) (o : MovShiftOps) : fld (MovShiftOps.word op o) 28 4 = o.cond.bits := by
  unfold MovShiftOps.word
  repeat refine (lead_append _ _ _ _ (by decide)).trans ?_
  exact fld_whole _

theorem lead_MovRegOps (op : BitVec 4) (o : MovRegOps) : fld (MovRegOps.word op o) 28 4 = o.cond.bits := by
  unfold MovRegOps.word
  repeat refine (lead_append _ _ _ _ (by decide)).trans ?_
  exact fld_whole _

theorem lead_MemImmPreOps (b : BitVec 1) (l : BitVec 1) (o : MemImmPreOps) : fld (MemImmPreOps.word b l o) 28 4 = o.cond.bits := by
  unfold MemImmPreOps.word
  repeat refine (lead_append _ _ _ _ (by decide)).trans ?_
  exact fld_whole _

theorem lead_MemImmPostOps (b : BitVec 1) (t : BitVec 1) (l : BitVec 1) (o : MemImmPostOps) : fld (MemImmPostOps.word b t l o) 28 4 = o.cond.bits := by
  unfold MemImmPostOps.word
  repeat refine (lead_append _ _ _ _ (by decide)).trans ?_
  exact fld_whole _

theorem lead_MemRegPreOps (b : BitVec 1) (l : BitVec 1) (o : MemRegPreOps) : fld (MemRegPreOps.word b l o) 28 4 = o.cond.bits := by
  unfold MemRegPreOps.word
  repeat refine (lead_append _ _ _ _ (by decide)).trans ?_
  exact fld_whole _

theorem lead_MemRegPostOps (b : BitVec 1) (t : BitVec 1) (l : BitVec 1) (o : MemRegPostOps) : fld (MemRegPostOps.word b t l o) 28 4 = o.cond.bits := by
  unfold MemRegPostOps.word
  repeat refine (lead_append _ _ _ _ (by decide)).trans ?_
  exact fld_whole _

theorem lead_LdmOps (s : BitVec 1) (l : BitVec 1) (o : LdmOps) : fld (LdmOps.word s l o) 28 4 = o.cond.bits := by
  unfold LdmOps.word
  repeat refine (lead_append _ _ _ _ (by decide)).trans ?_
  exact fld_whole _

theorem lead_Ldm15Ops (top : BitVec 1) (o : Ldm15Ops) : fld (Ldm15Ops.word top o) 28 4 = o.cond.bits := by
  unfold Ldm15Ops.word
  repeat refine (lead_append _ _ _ _ (by decide)).trans ?_
  exact fld_whole _

theorem lead_BranchOps (l : BitVec 1) (o : BranchOps) : fld (BranchOps.word l o) 28 4 = o.cond.bits := by
  unfold BranchOps.word
  repeat refine (lead_append _ _ _ _ (by decide)).trans ?_
  exact fld_whole _

theorem lead_CdpOps (o : CdpOps) : fld (CdpOps.word o) 28 4 = o.cond.bits := by
  unfold CdpOps.word
  repeat refine (lead_append _ _ _ _ (by decide)).trans ?_
  exact fld_whole _

theorem lead_McrOps (l : BitVec 1) (o : McrOps) : fld (McrOps.word l o) 28 4 = o.cond.bits := by
  unfold McrOps.word
  repeat refine (lead_append _ _ _ _ (by decide)).trans ?_
  exact fld_whole _

theorem lead_LdcOps (l : BitVec 1) (o : LdcOps) : fld (LdcOps.word l o) 28 4 = o.cond.bits := by
  unfold LdcOps.word
  repeat refine (lead_append _ _ _ _ (by decide)).trans ?_
  exact fld_whole _

theorem lead_McrrOps (l : BitVec 1) (o : McrrOps) : fld (McrrOps.word l o) 28 4 = o.cond.bits := by
  unfold McrrOps.word
  repeat refine (lead_append _ _ _ _ (by decide)).trans ?_
  exact fld_whole _

theorem lead_SwiOps (o : SwiOps) : fld (SwiOps.word o) 28 4 = o.cond.bits := by
  unfold SwiOps.word
  repeat refine (lead_append _ _ _ _ (by decide)).trans ?_
  exact fld_whole _

/-- An ARM row is one word whose condition field is the instruction's (or no condition); a Thumb row is one halfword. -/
def CondField.Statement (i : Instr) : Prop :=
  match encode i with
  | .arm w => armRow i = true ∧ ∀ c, condOf i = some c → condField w = some c
  | .thumb _ => armRow i = false

theorem CondField.mrs (o : MrsOps) : CondField.Statement (.mrs o) :=
  ⟨rfl, fun _ h => by cases h; exact condField_eq (lead_MrsOps _)⟩
theorem CondField.msrReg (o : MsrRegOps) : CondField.Statement (.msrReg o) :=
  ⟨rfl, fun _ h => by cases h; exact condField_eq (lead_MsrRegOps _)⟩
theorem CondField.msrImm (o : MsrImmOps) : CondField.Statement (.msrImm o) :=
  ⟨rfl, fun _ h => by cases h; exact condField_eq (lead_MsrImmOps _)⟩
theorem CondField.bx (o : BxOps) : CondField.Statement (.bx o) :=
  ⟨rfl, fun _ h => by cases h; exact condField_eq (lead_BxOps _ _)⟩
theorem CondField.blxReg (o : BxOps) : CondField.Statement (.blxReg o) :=
  ⟨rfl, fun _ h => by cases h; exact condField_eq (lead_BxOps _ _)⟩
theorem CondField.clz (o : ClzOps) : CondField.Statement (.clz o) :=
  ⟨rfl, fun _ h => by cases h; exact condField_eq (lead_ClzOps _)⟩
theorem CondField.qadd (o : QOps) : CondField.Statement (.qadd o) :=
  ⟨rfl, fun _ h => by cases h; exact condField_eq (lead_QOps _ _)⟩
theorem CondField.qsub (o : QOps) : CondField.Statement (.qsub o) :=
  ⟨rfl, fun _ h => by cases h; exact condField_eq (lead_QOps _ _)⟩
theorem CondField.qdadd (o : QOps) : CondField.Statement (.qdadd o) :=
  ⟨rfl, fun _ h => by cases h; exact condField_eq (lead_QOps _ _)⟩
theorem CondField.qdsub (o : QOps) : CondField.Statement (.qdsub o) :=
  ⟨rfl, fun _ h => by cases h; exact condField_eq (lead_QOps _ _)⟩
theorem CondField.bkpt (o : BkptOps) : CondField.Statement (.bkpt o) := ⟨rfl, fun _ h => by cases h⟩
theorem CondField.smlaXy (o : SmlaXyOps) : CondField.Statement (.smlaXy o) :=
  ⟨rfl, fun _ h => by cases h; exact condField_eq (lead_SmlaXyOps _)⟩
theorem CondField.smlaW (o : SmlaWOps) : CondField.Statement (.smlaW o) :=
  ⟨rfl, fun _ h => by cases h; exact condField_eq (lead_SmlaWOps _)⟩
theorem CondField.smulW (o : SmulWOps) : CondField.Statement (.smulW o) :=
  ⟨rfl, fun _ h => by cases h; exact condField_eq (lead_SmulWOps _)⟩
theorem CondField.smlalXy (o : SmlalXyOps) : CondField.Statement (.smlalXy o) :=
  ⟨rfl, fun _ h => by cases h; exact condField_eq (lead_SmlalXyOps _)⟩
theorem CondField.smulXy (o : SmulXyOps) : CondField.Statement (.smulXy o) :=
  ⟨rfl, fun _ h => by cases h; exact condField_eq (lead_SmulXyOps _)⟩
theorem CondField.mul (o : MulOps) : CondField.Statement (.mul o) :=
  ⟨rfl, fun _ h => by cases h; exact condField_eq (lead_MulOps _)⟩
theorem CondField.mla (o : MlaOps) : CondField.Statement (.mla o) :=
  ⟨rfl, fun _ h => by cases h; exact condField_eq (lead_MlaOps _)⟩
theorem CondField.umull (o : MullOps) : CondField.Statement (.umull o) :=
  ⟨rfl, fun _ h => by cases h; exact condField_eq (lead_MullOps _ _)⟩
theorem CondField.umlal (o : MullOps) : CondField.Statement (.umlal o) :=
  ⟨rfl, fun _ h => by cases h; exact condField_eq (lead_MullOps _ _)⟩
theorem CondField.smull (o : MullOps) : CondField.Statement (.smull o) :=
  ⟨rfl, fun _ h => by cases h; exact condField_eq (lead_MullOps _ _)⟩
theorem CondField.smlal (o : MullOps) : CondField.Statement (.smlal o) :=
  ⟨rfl, fun _ h => by cases h; exact condField_eq (lead_MullOps _ _)⟩
theorem CondField.swp (o : SwpOps) : CondField.Statement (.swp o) :=
  ⟨rfl, fun _ h => by cases h; exact condField_eq (lead_SwpOps _ _)⟩
theorem CondField.swpb (o : SwpOps) : CondField.Statement (.swpb o) :=
  ⟨rfl, fun _ h => by cases h; exact condField_eq (lead_SwpOps _ _)⟩
theorem CondField.strhImm (o : ExtImmOps) : CondField.Statement (.strhImm o) :=
  ⟨rfl, fun _ h => by cases h; exact condField_eq (lead_ExtImmOps _ _ _)⟩
theorem CondField.strhReg (o : ExtRegOps) : CondField.Statement (.strhReg o) :=
  ⟨rfl, fun _ h => by cases h; exact condField_eq (lead_ExtRegOps _ _ _)⟩
theorem CondField.ldrhImm (o : ExtImmOps) : CondField.Statement (.ldrhImm o) :=
  ⟨rfl, fun _ h => by cases h; exact condField_eq (lead_ExtImmOps _ _ _)⟩
theorem CondField.ldrhReg (o : ExtRegOps) : CondField.Statement (.ldrhReg o) :=
  ⟨rfl, fun _ h => by cases h; exact condField_eq (lead_ExtRegOps _ _ _)⟩
theorem CondField.ldrsbImm (o : ExtImmOps) : CondField.Statement (.ldrsbImm o) :=
  ⟨rfl, fun _ h => by cases h; exact condField_eq (lead_ExtImmOps _ _ _)⟩
theorem CondField.ldrsbReg (o : ExtRegOps) : CondField.Statement (.ldrsbReg o) :=
  ⟨rfl, fun _ h => by cases h; exact condField_eq (lead_ExtRegOps _ _ _)⟩
theorem CondField.ldrshImm (o : ExtImmOps) : CondField.Statement (.ldrshImm o) :=
  ⟨rfl, fun _ h => by cases h; exact condField_eq (lead_ExtImmOps _ _ _)⟩
theorem CondField.ldrshReg (o : ExtRegOps) : CondField.Statement (.ldrshReg o) :=
  ⟨rfl, fun _ h => by cases h; exact condField_eq (lead_ExtRegOps _ _ _)⟩
theorem CondField.ldrdImm (o : ExtImmOps) : CondField.Statement (.ldrdImm o) :=
  ⟨rfl, fun _ h => by cases h; exact condField_eq (lead_ExtImmOps _ _ _)⟩
theorem CondField.ldrdReg (o : ExtRegOps) : CondField.Statement (.ldrdReg o) :=
  ⟨rfl, fun _ h => by cases h; exact condField_eq (lead_ExtRegOps _ _ _)⟩
theorem CondField.strdImm (o : ExtImmOps) : CondField.Statement (.strdImm o) :=
  ⟨rfl, fun _ h => by cases h; exact condField_eq (lead_ExtImmOps _ _ _)⟩
theorem CondField.strdReg (o : ExtRegOps) : CondField.Statement (.strdReg o) :=
  ⟨rfl, fun _ h => by cases h; exact condField_eq (lead_ExtRegOps _ _ _)⟩
theorem CondField.andImm (o : AluImmOps) : CondField.Statement (.andImm o) :=
  ⟨rfl, fun _ h => by cases h; exact condField_eq (lead_AluImmOps _ _)⟩
theorem CondField.andShift (o : AluShiftOps) : CondField.Statement (.andShift o) :=
  ⟨rfl, fun _ h => by cases h; exact condField_eq (lead_AluShiftOps _ _)⟩
theorem CondField.andReg (o : AluRegOps) : CondField.Statement (.andReg o) :=
  ⟨rfl, fun _ h => by cases h; exact condField_eq (lead_AluRegOps _ _)⟩
theorem CondField.eorImm (o : AluImmOps) : CondField.Statement (.eorImm o) :=
  ⟨rfl, fun _ h => by cases h; exact condField_eq (lead_AluImmOps _ _)⟩
theorem CondField.eorShift (o : AluShiftOps) : CondField.Statement (.eorShift o) :=
  ⟨rfl, fun _ h => by cases h; exact condField_eq (lead_AluShiftOps _ _)⟩
theorem CondField.eorReg (o : AluRegOps) : CondField.Statement (.eorReg o) :=
  ⟨rfl, fun _ h => by cases h; exact condField_eq (lead_AluRegOps _ _)⟩
theorem CondField.subImm (o : AluImmOps) : CondField.Statement (.subImm o) :=
  ⟨rfl, fun _ h => by cases h; exact condField_eq (lead_AluImmOps _ _)⟩
theorem CondField.subShift (o : AluShiftOps) : CondField.Statement (.subShift o) :=
  ⟨rfl, fun _ h => by cases h; exact condField_eq (lead_AluShiftOps _ _)⟩
theorem CondField.subReg (o : AluRegOps) : CondField.Statement (.subReg o) :=
  ⟨rfl, fun _ h => by cases h; exact condField_eq (lead_AluRegOps _ _)⟩
theorem CondField.rsbImm (o : AluImmOps) : CondField.Statement (.rsbImm o) :=
  ⟨rfl, fun _ h => by cases h; exact condField_eq (lead_AluImmOps _ _)⟩
theorem CondField.rsbShift (o : AluShiftOps) : CondField.Statement (.rsbShift o) :=
  ⟨rfl, fun _ h => by cases h; exact condField_eq (lead_AluShiftOps _ _)⟩
theorem CondField.rsbReg (o : AluRegOps) : CondField.Statement (.rsbReg o) :=
  ⟨rfl, fun _ h => by cases h; exact condField_eq (lead_AluRegOps _ _)⟩
theorem CondField.addImm (o : AluImmOps) : CondField.Statement (.addImm o) :=
  ⟨rfl, fun _ h => by cases h; exact condField_eq (lead_AluImmOps _ _)⟩
theorem CondField.addShift (o : AluShiftOps) : CondField.Statement (.addShift o) :=
  ⟨rfl, fun _ h => by cases h; exact condField_eq (lead_AluShiftOps _ _)⟩
theorem CondField.addReg (o : AluRegOps) : CondField.Statement (.addReg o) :=
  ⟨rfl, fun _ h => by cases h; exact condField_eq (lead_AluRegOps _ _)⟩
theorem CondField.adcImm (o : AluImmOps) : CondField.Statement (.adcImm o) :=
  ⟨rfl, fun _ h => by cases h; exact condField_eq (lead_AluImmOps _ _)⟩
theorem CondField.adcShift (o : AluShiftOps) : CondField.Statement (.adcShift o) :=
  ⟨rfl, fun _ h => by cases h; exact condField_eq (lead_AluShiftOps _ _)⟩
theorem CondField.adcReg (o : AluRegOps) : CondField.Statement (.adcReg o) :=
  ⟨rfl, fun _ h => by cases h; exact condField_eq (lead_AluRegOps _ _)⟩
theorem CondField.sbcImm (o : AluImmOps) : CondField.Statement (.sbcImm o) :=
  ⟨rfl, fun _ h => by cases h; exact condField_eq (lead_AluImmOps _ _)⟩
theorem CondField.sbcShift (o : AluShiftOps) : CondField.Statement (.sbcShift o) :=
  ⟨rfl, fun _ h => by cases h; exact condField_eq (lead_AluShiftOps _ _)⟩
theorem CondField.sbcReg (o : AluRegOps) : CondField.Statement (.sbcReg o) :=
  ⟨rfl, fun _ h => by cases h; exact condField_eq (lead_AluRegOps _ _)⟩
theorem CondField.rscImm (o : AluImmOps) : CondField.Statement (.rscImm o) :=
  ⟨rfl, fun _ h => by cases h; exact condField_eq (lead_AluImmOps _ _)⟩
theorem CondField.rscShift (o : AluShiftOps) : CondField.Statement (.rscShift o) :=
  ⟨rfl, fun _ h => by cases h; exact condField_eq (lead_AluShiftOps _ _)⟩
theorem CondField.rscReg (o : AluRegOps) : CondField.Statement (.rscReg o) :=
  ⟨rfl, fun _ h => by cases h; exact condField_eq (lead_AluRegOps _ _)⟩
theorem CondField.tstImm (o : CmpImmOps) : CondField.Statement (.tstImm o) :=
  ⟨rfl, fun _ h => by cases h; exact condField_eq (lead_CmpImmOps _ _)⟩
theorem CondField.tstShift (o : CmpShiftOps) : CondField.Statement (.tstShift o) :=
  ⟨rfl, fun _ h => by cases h; exact condField_eq (lead_CmpShiftOps _ _)⟩
theorem CondField.tstReg (o : CmpRegOps) : CondField.Statement (.tstReg o) :=
  ⟨rfl, fun _ h => by cases h; exact condField_eq (lead_CmpRegOps _ _)⟩
theorem CondField.teqImm (o : CmpImmOps) : CondField.Statement (.teqImm o) :=
  ⟨rfl, fun _ h => by cases h; exact condField_eq (lead_CmpImmOps _ _)⟩
theorem CondField.teqShift (o : CmpShiftOps) : CondField.Statement (.teqShift o) :=
  ⟨rfl, fun _ h => by cases h; exact condField_eq (lead_CmpShiftOps _ _)⟩
theorem CondField.teqReg (o : CmpRegOps) : CondField.Statement (.teqReg o) :=
  ⟨rfl, fun _ h => by cases h; exact condField_eq (lead_CmpRegOps _ _)⟩
theorem CondField.cmpImm (o : CmpImmOps) : CondField.Statement (.cmpImm o) :=
  ⟨rfl, fun _ h => by cases h; exact condField_eq (lead_CmpImmOps _ _)⟩
theorem CondField.cmpShift (o : CmpShiftOps) : CondField.Statement (.cmpShift o) :=
  ⟨rfl, fun _ h => by cases h; exact condField_eq (lead_CmpShiftOps _ _)⟩
theorem CondField.cmpReg (o : CmpRegOps) : CondField.Statement (.cmpReg o) :=
  ⟨rfl, fun _ h => by cases h; exact condField_eq (lead_CmpRegOps _ _)⟩
theorem CondField.cmnImm (o : CmpImmOps) : CondField.Statement (.cmnImm o) :=
  ⟨rfl, fun _ h => by cases h; exact condField_eq (lead_CmpImmOps _ _)⟩
theorem CondField.cmnShift (o : CmpShiftOps) : CondField.Statement (.cmnShift o) :=
  ⟨rfl, fun _ h => by cases h; exact condField_eq (lead_CmpShiftOps _ _)⟩
theorem CondField.cmnReg (o : CmpRegOps) : CondField.Statement (.cmnReg o) :=
  ⟨rfl, fun _ h => by cases h; exact condField_eq (lead_CmpRegOps _ _)⟩
theorem CondField.orrImm (o : AluImmOps) : CondField.Statement (.orrImm o) :=
  ⟨rfl, fun _ h => by cases h; exact condField_eq (lead_AluImmOps _ _)⟩
theorem CondField.orrShift (o : AluShiftOps) : CondField.Statement (.orrShift o) :=
  ⟨rfl, fun _ h => by cases h; exact condField_eq (lead_AluShiftOps _ _)⟩
theorem CondField.orrReg (o : AluRegOps) : CondField.Statement (.orrReg o) :=
  ⟨rfl, fun _ h => by cases h; exact condField_eq (lead_AluRegOps _ _)⟩
theorem CondField.movImm (o : MovImmOps) : CondField.Statement (.movImm o) :=
  ⟨rfl, fun _ h => by cases h; exact condField_eq (lead_MovImmOps _ _)⟩
theorem CondField.movShift (o : MovShiftOps) : CondField.Statement (.movShift o) :=
  ⟨rfl, fun _ h => by cases h; exact condField_eq (lead_MovShiftOps _ _)⟩
theorem CondField.movReg (o : MovRegOps) : CondField.Statement (.movReg o) :=
  ⟨rfl, fun _ h => by cases h; exact condField_eq (lead_MovRegOps _ _)⟩
theorem CondField.bicImm (o : AluImmOps) : CondField.Statement (.bicImm o) :=
  ⟨rfl, fun _ h => by cases h; exact condField_eq (lead_AluImmOps _ _)⟩
theorem CondField.bicShift (o : AluShiftOps) : CondField.Statement (.bicShift o) :=
  ⟨rfl, fun _ h => by cases h; exact condField_eq (lead_AluShiftOps _ _)⟩
theorem CondField.bicReg (o : AluRegOps) : CondField.Statement (.bicReg o) :=
  ⟨rfl, fun _ h => by cases h; exact condField_eq (lead_AluRegOps _ _)⟩
theorem CondField.mvnImm (o : MovImmOps) : CondField.Statement (.mvnImm o) :=
  ⟨rfl, fun _ h => by cases h; exact condField_eq (lead_MovImmOps _ _)⟩
theorem CondField.mvnShift (o : MovShiftOps) : CondField.Statement (.mvnShift o) :=
  ⟨rfl, fun _ h => by cases h; exact condField_eq (lead_MovShiftOps _ _)⟩
theorem CondField.mvnReg (o : MovRegOps) : CondField.Statement (.mvnReg o) :=
  ⟨rfl, fun _ h => by cases h; exact condField_eq (lead_MovRegOps _ _)⟩
theorem CondField.ldrImmPre (o : MemImmPreOps) : CondField.Statement (.ldrImmPre o) :=
  ⟨rfl, fun _ h => by cases h; exact condField_eq (lead_MemImmPreOps _ _ _)⟩
theorem CondField.ldrImmPost (o : MemImmPostOps) : CondField.Statement (.ldrImmPost o) :=
  ⟨rfl, fun _ h => by cases h; exact condField_eq (lead_MemImmPostOps _ _ _ _)⟩
theorem CondField.ldrtImm (o : MemImmPostOps) : CondField.Statement (.ldrtImm o) :=
  ⟨rfl, fun _ h => by cases h; exact condField_eq (lead_MemImmPostOps _ _ _ _)⟩
theorem CondField.ldrRegPre (o : MemRegPreOps) : CondField.Statement (.ldrRegPre o) :=
  ⟨rfl, fun _ h => by cases h; exact condField_eq (lead_MemRegPreOps _ _ _)⟩
theorem CondField.ldrRegPost (o : MemRegPostOps) : CondField.Statement (.ldrRegPost o) :=
  ⟨rfl, fun _ h => by cases h; exact condField_eq (lead_MemRegPostOps _ _ _ _)⟩
theorem CondField.ldrtReg (o : MemRegPostOps) : CondField.Statement (.ldrtReg o) :=
  ⟨rfl, fun _ h => by cases h; exact condField_eq (lead_MemRegPostOps _ _ _ _)⟩
theorem CondField.ldrbImmPre (o : MemImmPreOps) : CondField.Statement (.ldrbImmPre o) :=
  ⟨rfl, fun _ h => by cases h; exact condField_eq (lead_MemImmPreOps _ _ _)⟩
theorem CondField.ldrbImmPost (o : MemImmPostOps) : CondField.Statement (.ldrbImmPost o) :=
  ⟨rfl, fun _ h => by cases h; exact condField_eq (lead_MemImmPostOps _ _ _ _)⟩
theorem CondField.ldrbtImm (o : MemImmPostOps) : CondField.Statement (.ldrbtImm o) :=
  ⟨rfl, fun _ h => by cases h; exact condField_eq (lead_MemImmPostOps _ _ _ _)⟩
theorem CondField.ldrbRegPre (o : MemRegPreOps) : CondField.Statement (.ldrbRegPre o) :=
  ⟨rfl, fun _ h => by cases h; exact condField_eq (lead_MemRegPreOps _ _ _)⟩
theorem CondField.ldrbRegPost (o : MemRegPostOps) : CondField.Statement (.ldrbRegPost o) :=
  ⟨rfl, fun _ h => by cases h; exact condField_eq (lead_MemRegPostOps _ _ _ _)⟩
theorem CondField.ldrbtReg (o : MemRegPostOps) : CondField.Statement (.ldrbtReg o) :=
  ⟨rfl, fun _ h => by cases h; exact condField_eq (lead_MemRegPostOps _ _ _ _)⟩
theorem CondField.strImmPre (o : MemImmPreOps) : CondField.Statement (.strImmPre o) :=
  ⟨rfl, fun _ h => by cases h; exact condField_eq (lead_MemImmPreOps _ _ _)⟩
theorem CondField.strImmPost (o : MemImmPostOps) : CondField.Statement (.strImmPost o) :=
  ⟨rfl, fun _ h => by cases h; exact condField_eq (lead_MemImmPostOps _ _ _ _)⟩
theorem CondField.strtImm (o : MemImmPostOps) : CondField.Statement (.strtImm o) :=
  ⟨rfl, fun _ h => by cases h; exact condField_eq (lead_MemImmPostOps _ _ _ _)⟩
theorem CondField.strRegPre (o : MemRegPreOps) : CondField.Statement (.strRegPre o) :=
  ⟨rfl, fun _ h => by cases h; exact condField_eq (lead_MemRegPreOps _ _ _)⟩
theorem CondField.strRegPost (o : MemRegPostOps) : CondField.Statement (.strRegPost o) :=
  ⟨rfl, fun _ h => by cases h; exact condField_eq (lead_MemRegPostOps _ _ _ _)⟩
theorem CondField.strtReg (o : MemRegPostOps) : CondField.Statement (.strtReg o) :=
  ⟨rfl, fun _ h => by cases h; exact condField_eq (lead_MemRegPostOps _ _ _ _)⟩
theorem CondField.strbImmPre (o : MemImmPreOps) : CondField.Statement (.strbImmPre o) :=
  ⟨rfl, fun _ h => by cases h; exact condField_eq (lead_MemImmPreOps _ _ _)⟩
theorem CondField.strbImmPost (o : MemImmPostOps) : CondField.Statement (.strbImmPost o) :=
  ⟨rfl, fun _ h => by cases h; exact condField_eq (lead_MemImmPostOps _ _ _ _)⟩
theorem CondField.strbtImm (o : MemImmPostOps) : CondField.Statement (.strbtImm o) :=
  ⟨rfl, fun _ h => by cases h; exact condField_eq (lead_MemImmPostOps _ _ _ _)⟩
theorem CondField.strbRegPre (o : MemRegPreOps) : CondField.Statement (.strbRegPre o) :=
  ⟨rfl, fun _ h => by cases h; exact condField_eq (lead_MemRegPreOps _ _ _)⟩
theorem CondField.strbRegPost (o : MemRegPostOps) : CondField.Statement (.strbRegPost o) :=
  ⟨rfl, fun _ h => by cases h; exact condField_eq (lead_MemRegPostOps _ _ _ _)⟩
theorem CondField.strbtReg (o : MemRegPostOps) : CondField.Statement (.strbtReg o) :=
  ⟨rfl, fun _ h => by cases h; exact condField_eq (lead_MemRegPostOps _ _ _ _)⟩
theorem CondField.pldImm (o : PldImmOps) : CondField.Statement (.pldImm o) := ⟨rfl, fun _ h => by cases h⟩
theorem CondField.pldReg (o : PldRegOps) : CondField.Statement (.pldReg o) := ⟨rfl, fun _ h => by cases h⟩
theorem CondField.ldm1 (o : LdmOps) : CondField.Statement (.ldm1 o) :=
  ⟨rfl, fun _ h => by cases h; exact condField_eq (lead_LdmOps _ _ _)⟩
theorem CondField.ldm2 (o : Ldm15Ops) : CondField.Statement (.ldm2 o) :=
  ⟨rfl, fun _ h => by cases h; exact condField_eq (lead_Ldm15Ops _ _)⟩
theorem CondField.ldm3 (o : Ldm15Ops) : CondField.Statement (.ldm3 o) :=
  ⟨rfl, fun _ h => by cases h; exact condField_eq (lead_Ldm15Ops _ _)⟩
theorem CondField.stm1 (o : LdmOps) : CondField.Statement (.stm1 o) :=
  ⟨rfl, fun _ h => by cases h; exact condField_eq (lead_LdmOps _ _ _)⟩
theorem CondField.stm2 (o : LdmOps) : CondField.Statement (.stm2 o) :=
  ⟨rfl, fun _ h => by cases h; exact condField_eq (lead_LdmOps _ _ _)⟩
theorem CondField.b (o : BranchOps) : CondField.Statement (.b o) :=
  ⟨rfl, fun _ h => by cases h; exact condField_eq (lead_BranchOps _ _)⟩
theorem CondField.bl (o : BranchOps) : CondField.Statement (.bl o) :=
  ⟨rfl, fun _ h => by cases h; exact condField_eq (lead_BranchOps _ _)⟩
theorem CondField.blxImm (o : BlxImmOps) : CondField.Statement (.blxImm o) := ⟨rfl, fun _ h => by cases h⟩
theorem CondField.cdp (o : CdpOps) : CondField.Statement (.cdp o) :=
  ⟨rfl, fun _ h => by cases h; exact condField_eq (lead_CdpOps _)⟩
theorem CondField.mcr (o : McrOps) : CondField.Statement (.mcr o) :=
  ⟨rfl, fun _ h => by cases h; exact condField_eq (lead_McrOps _ _)⟩
theorem CondField.mrc (o : McrOps) : CondField.Statement (.mrc o) :=
  ⟨rfl, fun _ h => by cases h; exact condField_eq (lead_McrOps _ _)⟩
theorem CondField.ldc (o : LdcOps) : CondField.Statement (.ldc o) :=
  ⟨rfl, fun _ h => by cases h; exact condField_eq (lead_LdcOps _ _)⟩
theorem CondField.stc (o : LdcOps) : CondField.Statement (.stc o) :=
  ⟨rfl, fun _ h => by cases h; exact condField_eq (lead_LdcOps _ _)⟩
theorem CondField.cdp2 (o : Cdp2Ops) : CondField.Statement (.cdp2 o) := ⟨rfl, fun _ h => by cases h⟩
theorem CondField.mcr2 (o : Mcr2Ops) : CondField.Statement (.mcr2 o) := ⟨rfl, fun _ h => by cases h⟩
theorem CondField.mrc2 (o : Mcr2Ops) : CondField.Statement (.mrc2 o) := ⟨rfl, fun _ h => by cases h⟩
theorem CondField.ldc2 (o : Ldc2Ops) : CondField.Statement (.ldc2 o) := ⟨rfl, fun _ h => by cases h⟩
theorem CondField.stc2 (o : Ldc2Ops) : CondField.Statement (.stc2 o) := ⟨rfl, fun _ h => by cases h⟩
theorem CondField.mcrr (o : McrrOps) : CondField.Statement (.mcrr o) :=
  ⟨rfl, fun _ h => by cases h; exact condField_eq (lead_McrrOps _ _)⟩
theorem CondField.mrrc (o : McrrOps) : CondField.Statement (.mrrc o) :=
  ⟨rfl, fun _ h => by cases h; exact condField_eq (lead_McrrOps _ _)⟩
theorem CondField.swi (o : SwiOps) : CondField.Statement (.swi o) :=
  ⟨rfl, fun _ h => by cases h; exact condField_eq (lead_SwiOps _)⟩
theorem CondField.tLslImm (o : TShiftImmOps) : CondField.Statement (.tLslImm o) := rfl
theorem CondField.tLsrImm (o : TShiftImmOps) : CondField.Statement (.tLsrImm o) := rfl
theorem CondField.tAsrImm (o : TShiftImmOps) : CondField.Statement (.tAsrImm o) := rfl
theorem CondField.tAddReg (o : TAdd3Ops) : CondField.Statement (.tAddReg o) := rfl
theorem CondField.tSubReg (o : TAdd3Ops) : CondField.Statement (.tSubReg o) := rfl
theorem CondField.tAddImm3 (o : TAddImm3Ops) : CondField.Statement (.tAddImm3 o) := rfl
theorem CondField.tSubImm3 (o : TAddImm3Ops) : CondField.Statement (.tSubImm3 o) := rfl
theorem CondField.tMovImm (o : TRdImm8Ops) : CondField.Statement (.tMovImm o) := rfl
theorem CondField.tCmpImm (o : TRdImm8Ops) : CondField.Statement (.tCmpImm o) := rfl
theorem CondField.tAddImm8 (o : TRdImm8Ops) : CondField.Statement (.tAddImm8 o) := rfl
theorem CondField.tSubImm8 (o : TRdImm8Ops) : CondField.Statement (.tSubImm8 o) := rfl
theorem CondField.tAnd (o : TAluOps) : CondField.Statement (.tAnd o) := rfl
theorem CondField.tEor (o : TAluOps) : CondField.Statement (.tEor o) := rfl
theorem CondField.tLslReg (o : TAluOps) : CondField.Statement (.tLslReg o) := rfl
theorem CondField.tLsrReg (o : TAluOps) : CondField.Statement (.tLsrReg o) := rfl
theorem CondField.tAsrReg (o : TAluOps) : CondField.Statement (.tAsrReg o) := rfl
theorem CondField.tAdc (o : TAluOps) : CondField.Statement (.tAdc o) := rfl
theorem CondField.tSbc (o : TAluOps) : CondField.Statement (.tSbc o) := rfl
theorem CondField.tRor (o : TAluOps) : CondField.Statement (.tRor o) := rfl
theorem CondField.tTst (o : TAluOps) : CondField.Statement (.tTst o) := rfl
theorem CondField.tNeg (o : TAluOps) : CondField.Statement (.tNeg o) := rfl
theorem CondField.tCmpLow (o : TAluOps) : CondField.Statement (.tCmpLow o) := rfl
theorem CondField.tCmn (o : TAluOps) : CondField.Statement (.tCmn o) := rfl
theorem CondField.tOrr (o : TAluOps) : CondField.Statement (.tOrr o) := rfl
theorem CondField.tMul (o : TAluOps) : CondField.Statement (.tMul o) := rfl
theorem CondField.tBic (o : TAluOps) : CondField.Statement (.tBic o) := rfl
theorem CondField.tMvn (o : TAluOps) : CondField.Statement (.tMvn o) := rfl
theorem CondField.tAddHi (o : THiOps) : CondField.Statement (.tAddHi o) := rfl
theorem CondField.tCmpHi (o : THiOps) : CondField.Statement (.tCmpHi o) := rfl
theorem CondField.tMovHi (o : THiOps) : CondField.Statement (.tMovHi o) := rfl
theorem CondField.tBx (o : TBxOps) : CondField.Statement (.tBx o) := rfl
theorem CondField.tBlxReg (o : TBxOps) : CondField.Statement (.tBlxReg o) := rfl
theorem CondField.tLdrPc (o : TRdImm8Ops) : CondField.Statement (.tLdrPc o) := rfl
theorem CondField.tStrReg (o : TMemRegOps) : CondField.Statement (.tStrReg o) := rfl
theorem CondField.tStrhReg (o : TMemRegOps) : CondField.Statement (.tStrhReg o) := rfl
theorem CondField.tStrbReg (o : TMemRegOps) : CondField.Statement (.tStrbReg o) := rfl
theorem CondField.tLdrsbReg (o : TMemRegOps) : CondField.Statement (.tLdrsbReg o) := rfl
theorem CondField.tLdrReg (o : TMemRegOps) : CondField.Statement (.tLdrReg o) := rfl
theorem CondField.tLdrhReg (o : TMemRegOps) : CondField.Statement (.tLdrhReg o) := rfl
theorem CondField.tLdrbReg (o : TMemRegOps) : CondField.Statement (.tLdrbReg o) := rfl
theorem CondField.tLdrshReg (o : TMemRegOps) : CondField.Statement (.tLdrshReg o) := rfl
theorem CondField.tStrImm (o : TMemImmOps) : CondField.Statement (.tStrImm o) := rfl
theorem CondField.tLdrImm (o : TMemImmOps) : CondField.Statement (.tLdrImm o) := rfl
theorem CondField.tStrbImm (o : TMemImmOps) : CondField.Statement (.tStrbImm o) := rfl
theorem CondField.tLdrbImm (o : TMemImmOps) : CondField.Statement (.tLdrbImm o) := rfl
theorem CondField.tStrhImm (o : TMemImmOps) : CondField.Statement (.tStrhImm o) := rfl
theorem CondField.tLdrhImm (o : TMemImmOps) : CondField.Statement (.tLdrhImm o) := rfl
theorem CondField.tStrSp (o : TRdImm8Ops) : CondField.Statement (.tStrSp o) := rfl
theorem CondField.tLdrSp (o : TRdImm8Ops) : CondField.Statement (.tLdrSp o) := rfl
theorem CondField.tAddPc (o : TRdImm8Ops) : CondField.Statement (.tAddPc o) := rfl
theorem CondField.tAddSp (o : TRdImm8Ops) : CondField.Statement (.tAddSp o) := rfl
theorem CondField.tIncSp (o : TSpImmOps) : CondField.Statement (.tIncSp o) := rfl
theorem CondField.tDecSp (o : TSpImmOps) : CondField.Statement (.tDecSp o) := rfl
theorem CondField.tPush (o : TStackOps) : CondField.Statement (.tPush o) := rfl
theorem CondField.tPop (o : TStackOps) : CondField.Statement (.tPop o) := rfl
theorem CondField.tBkpt (o : TCommentOps) : CondField.Statement (.tBkpt o) := rfl
theorem CondField.tStmia (o : TMultiOps) : CondField.Statement (.tStmia o) := rfl
theorem CondField.tLdmia (o : TMultiOps) : CondField.Statement (.tLdmia o) := rfl
theorem CondField.tBCond (o : TCondBranchOps) : CondField.Statement (.tBCond o) := rfl
theorem CondField.tSwi (o : TCommentOps) : CondField.Statement (.tSwi o) := rfl
theorem CondField.tB (o : TBranchOps) : CondField.Statement (.tB o) := rfl
theorem CondField.tBlPrefix (o : TBranchOps) : CondField.Statement (.tBlPrefix o) := rfl
theorem CondField.tBlSuffix (o : TBranchOps) : CondField.Statement (.tBlSuffix o) := rfl
theorem CondField.tBlxSuffix (o : TBlxSuffixOps) : CondField.Statement (.tBlxSuffix o) := rfl

end Sys2Proof.Laws
end

