-- ==== Sys2Proof/Laws/Registers.lean ====
section
/-! SUPPORT. The banked register file: what a read sees after a write (R13, R15). -/

namespace Sys2Proof.Machine

/-- Two numbers below 15 of one mode have two registers (R13). -/
theorem physIx_inj : ∀ (m : Mode) (a b : Reg), a ≠ 15#4 → b ≠ 15#4 → (physIx m a = physIx m b ↔ a = b) := by
  intro m; cases m <;> decide

theorem State.bankReg_setBankReg (s : State) (m m' : Mode) (n n' : Reg) (v : Word) :
    (s.setBankReg m n v).bankReg m' n' = if physIx m n = physIx m' n' then v else s.bankReg m' n' := by
  unfold State.bankReg State.setBankReg
  simp only [Fin.getElem_fin, Vector.getElem_set]
  by_cases h : physIx m n = physIx m' n'
  · simp [h]
  · have : ¬ ((physIx m n).val = (physIx m' n').val) := fun e => h (Fin.ext e)
    simp [h, this]

/-- A register reads what was last written to it. -/
theorem State.reg_setReg_same (s : State) (n : Reg) (v : Word) (h : n ≠ 15#4) : (s.setReg n v).reg n = v := by
  have hm : (s.setReg n v).mode = s.mode := State.setReg_mode s n v
  simp only [State.reg, h, if_false, hm]
  simp [State.setReg, h, State.bankReg_setBankReg]

/-- The other registers of the mode keep their values. -/
theorem State.reg_setReg_other (s : State) (n k : Reg) (v : Word) (hk : k ≠ n) : (s.setReg n v).reg k = s.reg k := by
  unfold State.setReg
  split
  · rfl
  · rename_i hn
    unfold State.reg
    split
    · rfl
    · rename_i hk15
      have hm : (s.setBankReg s.mode n v).mode = s.mode := rfl
      rw [hm, State.bankReg_setBankReg, if_neg]
      intro e
      exact hk ((physIx_inj s.mode n k hn hk15).1 e).symm

/-- Writing the pc register number writes nothing (R11). -/
theorem State.setReg_pc_reg (s : State) (v : Word) : s.setReg 15#4 v = s := by simp [State.setReg]

end Sys2Proof.Machine
end

