-- ==== Sys2Proof/Tests/Slice0.lean ====
section
/-! SUPPORT. Tests: refused ill-formed terms, words of every row decoded, the vectors of spec/95_test_vectors.md run
as one step, and for every statement with hypotheses a state and operands that meet them. Expected values are the
spec's. -/

namespace Sys2Proof.Tests

open Sys2Proof.Machine Sys2Proof.Claims

/-! ### Well-formedness: each check refuses an ill-formed term -/

theorem test_wf_ldc : (Instr.ldc ⟨.al, false, false, true, false, 0, 0, 0, 0⟩).wf = false := rfl
theorem test_wf_stc : (Instr.stc ⟨.al, false, false, false, false, 0, 0, 0, 0⟩).wf = false := rfl
theorem test_wf_ldc2 : (Instr.ldc2 ⟨false, false, true, false, 0, 0, 0, 0⟩).wf = false := rfl
theorem test_wf_stc2 : (Instr.stc2 ⟨false, false, false, false, 0, 0, 0, 0⟩).wf = false := rfl
theorem test_wf_conditional_branch : (Instr.tBCond ⟨.al, 0⟩).wf = false := rfl
theorem test_wf_accepts : (Instr.ldc ⟨.al, false, false, true, true, 0, 0, 0, 0⟩).wf = true ∧
    (Instr.tBCond ⟨.le, 0⟩).wf = true := ⟨rfl, rfl⟩

/-! ### Decoding: a word written out from the encoding of each row -/

theorem test_decode_data_processing_1 :
    decodeArm 0xE16F1F12#32 = .ok (.clz ⟨.al, 1#4, 2#4⟩) ∧
    decodeArm 0x520612DE#32 = .ok (.andImm ⟨.pl, false, 6#4, 1#4, 2#4, 0xde#8⟩) ∧
    decodeArm 0xE00D13A1#32 = .ok (.andShift ⟨.al, false, 13#4, 1#4, 7#5, .lsr, 1#4⟩) ∧
    decodeArm 0xE0049D33#32 = .ok (.andReg ⟨.al, false, 4#4, 9#4, 13#4, .lsr, 3#4⟩) ∧
    decodeArm 0x82236B31#32 = .ok (.eorImm ⟨.hi, false, 3#4, 6#4, 11#4, 0x31#8⟩) ∧
    decodeArm 0xE02FDA6E#32 = .ok (.eorShift ⟨.al, false, 15#4, 13#4, 0x14#5, .ror, 14#4⟩) ∧
    decodeArm 0xE027297A#32 = .ok (.eorReg ⟨.al, false, 7#4, 2#4, 9#4, .ror, 10#4⟩) ∧
    decodeArm 0x4243D5AF#32 = .ok (.subImm ⟨.mi, false, 3#4, 13#4, 5#4, 0xaf#8⟩) ∧
    decodeArm 0xE0512A4B#32 = .ok (.subShift ⟨.al, true, 1#4, 2#4, 0x14#5, .asr, 11#4⟩) ∧
    decodeArm 0xE0428F11#32 = .ok (.subReg ⟨.al, false, 2#4, 8#4, 15#4, .lsl, 1#4⟩) ∧
    decodeArm 0xA279CB0B#32 = .ok (.rsbImm ⟨.ge, true, 9#4, 12#4, 11#4, 11#8⟩) ∧
    decodeArm 0xE06F16C4#32 = .ok (.rsbShift ⟨.al, false, 15#4, 1#4, 13#5, .asr, 4#4⟩) := by
  decide

theorem test_decode_data_processing_2 :
    decodeArm 0xE0725E78#32 = .ok (.rsbReg ⟨.al, true, 2#4, 5#4, 14#4, .ror, 8#4⟩) ∧
    decodeArm 0xE29DBC76#32 = .ok (.addImm ⟨.al, true, 13#4, 11#4, 12#4, 0x76#8⟩) ∧
    decodeArm 0xE0877065#32 = .ok (.addShift ⟨.al, false, 7#4, 7#4, 0#5, .ror, 5#4⟩) ∧
    decodeArm 0xE08DBA31#32 = .ok (.addReg ⟨.al, false, 13#4, 11#4, 10#4, .lsr, 1#4⟩) ∧
    decodeArm 0xE2BCCC35#32 = .ok (.adcImm ⟨.al, true, 12#4, 12#4, 12#4, 0x35#8⟩) ∧
    decodeArm 0xE0A626E5#32 = .ok (.adcShift ⟨.al, false, 6#4, 2#4, 13#5, .ror, 5#4⟩) ∧
    decodeArm 0x50A3041B#32 = .ok (.adcReg ⟨.pl, false, 3#4, 0#4, 4#4, .lsl, 11#4⟩) ∧
    decodeArm 0xE2D48BBA#32 = .ok (.sbcImm ⟨.al, true, 4#4, 8#4, 11#4, 0xba#8⟩) ∧
    decodeArm 0xE0DEFF42#32 = .ok (.sbcShift ⟨.al, true, 14#4, 15#4, 0x1e#5, .asr, 2#4⟩) ∧
    decodeArm 0x10D8F516#32 = .ok (.sbcReg ⟨.ne, true, 8#4, 15#4, 5#4, .lsl, 6#4⟩) ∧
    decodeArm 0x22E928BB#32 = .ok (.rscImm ⟨.cs, false, 9#4, 2#4, 8#4, 0xbb#8⟩) ∧
    decodeArm 0xE0F767E7#32 = .ok (.rscShift ⟨.al, true, 7#4, 6#4, 15#5, .ror, 7#4⟩) := by
  decide

theorem test_decode_data_processing_3 :
    decodeArm 0xE0F00878#32 = .ok (.rscReg ⟨.al, true, 0#4, 0#4, 8#4, .ror, 8#4⟩) ∧
    decodeArm 0xB31B0EB2#32 = .ok (.tstImm ⟨.lt, 11#4, 14#4, 0xb2#8⟩) ∧
    decodeArm 0xE1130766#32 = .ok (.tstShift ⟨.al, 3#4, 14#5, .ror, 6#4⟩) ∧
    decodeArm 0xE1100F52#32 = .ok (.tstReg ⟨.al, 0#4, 15#4, .asr, 2#4⟩) ∧
    decodeArm 0xE3360F5B#32 = .ok (.teqImm ⟨.al, 6#4, 15#4, 0x5b#8⟩) ∧
    decodeArm 0xC13A02EE#32 = .ok (.teqShift ⟨.gt, 10#4, 5#5, .ror, 14#4⟩) ∧
    decodeArm 0xE1350530#32 = .ok (.teqReg ⟨.al, 5#4, 5#4, .lsr, 0#4⟩) ∧
    decodeArm 0xE3540FB3#32 = .ok (.cmpImm ⟨.al, 4#4, 15#4, 0xb3#8⟩) ∧
    decodeArm 0x81540083#32 = .ok (.cmpShift ⟨.hi, 4#4, 1#5, .lsl, 3#4⟩) ∧
    decodeArm 0xE1560056#32 = .ok (.cmpReg ⟨.al, 6#4, 0#4, .asr, 6#4⟩) ∧
    decodeArm 0xE37A08D6#32 = .ok (.cmnImm ⟨.al, 10#4, 8#4, 0xd6#8⟩) ∧
    decodeArm 0x017B0EE4#32 = .ok (.cmnShift ⟨.eq, 11#4, 0x1d#5, .ror, 4#4⟩) := by
  decide

theorem test_decode_data_processing_4 :
    decodeArm 0x81700E30#32 = .ok (.cmnReg ⟨.hi, 0#4, 14#4, .lsr, 0#4⟩) ∧
    decodeArm 0xE3931AF7#32 = .ok (.orrImm ⟨.al, true, 3#4, 1#4, 10#4, 0xf7#8⟩) ∧
    decodeArm 0xE1876883#32 = .ok (.orrShift ⟨.al, false, 7#4, 6#4, 0x11#5, .lsl, 3#4⟩) ∧
    decodeArm 0xE18EA65E#32 = .ok (.orrReg ⟨.al, false, 14#4, 10#4, 6#4, .asr, 14#4⟩) ∧
    decodeArm 0xE3B06E46#32 = .ok (.movImm ⟨.al, true, 6#4, 14#4, 0x46#8⟩) ∧
    decodeArm 0xE1B0A22D#32 = .ok (.movShift ⟨.al, true, 10#4, 4#5, .lsr, 13#4⟩) ∧
    decodeArm 0x31B03454#32 = .ok (.movReg ⟨.cc, true, 3#4, 4#4, .asr, 4#4⟩) ∧
    decodeArm 0xE3D73CF9#32 = .ok (.bicImm ⟨.al, true, 7#4, 3#4, 12#4, 0xf9#8⟩) ∧
    decodeArm 0xE1CDCAE6#32 = .ok (.bicShift ⟨.al, false, 13#4, 12#4, 0x15#5, .ror, 6#4⟩) ∧
    decodeArm 0xE1D0AE70#32 = .ok (.bicReg ⟨.al, true, 0#4, 10#4, 14#4, .ror, 0#4⟩) ∧
    decodeArm 0x53F02375#32 = .ok (.mvnImm ⟨.pl, true, 2#4, 3#4, 0x75#8⟩) ∧
    decodeArm 0xE1F015C4#32 = .ok (.mvnShift ⟨.al, true, 1#4, 11#5, .asr, 4#4⟩) := by
  decide

theorem test_decode_data_processing_5 :
    decodeArm 0xD1F0C47A#32 = .ok (.mvnReg ⟨.le, true, 12#4, 4#4, .ror, 10#4⟩) := by
  decide

theorem test_decode_multiply_1 :
    decodeArm 0xE105D052#32 = .ok (.qadd ⟨.al, 5#4, 13#4, 2#4⟩) ∧
    decodeArm 0x01228052#32 = .ok (.qsub ⟨.eq, 2#4, 8#4, 2#4⟩) ∧
    decodeArm 0xE143E050#32 = .ok (.qdadd ⟨.al, 3#4, 14#4, 0#4⟩) ∧
    decodeArm 0xE1684051#32 = .ok (.qdsub ⟨.al, 8#4, 4#4, 1#4⟩) ∧
    decodeArm 0xE10815A9#32 = .ok (.smlaXy ⟨.al, 8#4, 1#4, 5#4, false, true, 9#4⟩) ∧
    decodeArm 0xE1258B88#32 = .ok (.smlaW ⟨.al, 5#4, 8#4, 11#4, false, 8#4⟩) ∧
    decodeArm 0xE1260FAE#32 = .ok (.smulW ⟨.al, 6#4, 15#4, false, 14#4⟩) ∧
    decodeArm 0xA14DFCC7#32 = .ok (.smlalXy ⟨.ge, 13#4, 15#4, 12#4, true, false, 7#4⟩) ∧
    decodeArm 0x31640CC4#32 = .ok (.smulXy ⟨.cc, 4#4, 12#4, true, false, 4#4⟩) ∧
    decodeArm 0x101D0591#32 = .ok (.mul ⟨.ne, true, 13#4, 5#4, 1#4⟩) ∧
    decodeArm 0xE037919E#32 = .ok (.mla ⟨.al, true, 7#4, 9#4, 1#4, 14#4⟩) ∧
    decodeArm 0xE0908B9A#32 = .ok (.umull ⟨.al, true, 0#4, 8#4, 11#4, 10#4⟩) := by
  decide

theorem test_decode_multiply_2 :
    decodeArm 0xE0B6B590#32 = .ok (.umlal ⟨.al, true, 6#4, 11#4, 5#4, 0#4⟩) ∧
    decodeArm 0xE0D86790#32 = .ok (.smull ⟨.al, true, 8#4, 6#4, 7#4, 0#4⟩) ∧
    decodeArm 0xE0EC1C90#32 = .ok (.smlal ⟨.al, false, 12#4, 1#4, 12#4, 0#4⟩) := by
  decide

theorem test_decode_branch :
    decodeArm 0x412FFF17#32 = .ok (.bx ⟨.mi, 7#4⟩) ∧
    decodeArm 0x912FFF34#32 = .ok (.blxReg ⟨.ls, 4#4⟩) ∧
    decodeArm 0xEAFD0692#32 = .ok (.b ⟨.al, 0xfd0692#24⟩) ∧
    decodeArm 0x4B4A1CF6#32 = .ok (.bl ⟨.mi, 0x4a1cf6#24⟩) ∧
    decodeArm 0xFADBC5F6#32 = .ok (.blxImm ⟨false, 0xdbc5f6#24⟩) := by
  decide

theorem test_decode_load_store_1 :
    decodeArm 0xE04014BB#32 = .ok (.strhImm ⟨.al, false, false, false, 0#4, 1#4, 0x4b#8⟩) ∧
    decodeArm 0xE00F80B0#32 = .ok (.strhReg ⟨.al, false, false, false, 15#4, 8#4, 0#4⟩) ∧
    decodeArm 0x31F2F9B1#32 = .ok (.ldrhImm ⟨.cc, true, true, true, 2#4, 15#4, 0x91#8⟩) ∧
    decodeArm 0xE11F90B9#32 = .ok (.ldrhReg ⟨.al, true, false, false, 15#4, 9#4, 9#4⟩) ∧
    decodeArm 0x11F662D2#32 = .ok (.ldrsbImm ⟨.ne, true, true, true, 6#4, 6#4, 0x22#8⟩) ∧
    decodeArm 0xB19830DB#32 = .ok (.ldrsbReg ⟨.lt, true, true, false, 8#4, 3#4, 11#4⟩) ∧
    decodeArm 0xE150FEFC#32 = .ok (.ldrshImm ⟨.al, true, false, false, 0#4, 15#4, 0xec#8⟩) ∧
    decodeArm 0xE1BA30FA#32 = .ok (.ldrshReg ⟨.al, true, true, true, 10#4, 3#4, 10#4⟩) ∧
    decodeArm 0xE14098DB#32 = .ok (.ldrdImm ⟨.al, true, false, false, 0#4, 9#4, 0x8b#8⟩) ∧
    decodeArm 0x0108D0DA#32 = .ok (.ldrdReg ⟨.eq, true, false, false, 8#4, 13#4, 10#4⟩) ∧
    decodeArm 0xE16621FD#32 = .ok (.strdImm ⟨.al, true, false, true, 6#4, 2#4, 0x1d#8⟩) ∧
    decodeArm 0xE18450FF#32 = .ok (.strdReg ⟨.al, true, true, false, 4#4, 5#4, 15#4⟩) := by
  decide

theorem test_decode_load_store_2 :
    decodeArm 0xE5B8C7A3#32 = .ok (.ldrImmPre ⟨.al, true, true, 8#4, 12#4, 0x7a3#12⟩) ∧
    decodeArm 0x7493552C#32 = .ok (.ldrImmPost ⟨.vc, true, 3#4, 5#4, 0x52c#12⟩) ∧
    decodeArm 0x34B7EAA6#32 = .ok (.ldrtImm ⟨.cc, true, 7#4, 14#4, 0xaa6#12⟩) ∧
    decodeArm 0xE7125A8A#32 = .ok (.ldrRegPre ⟨.al, false, false, 2#4, 5#4, 0x15#5, .lsl, 10#4⟩) ∧
    decodeArm 0xE610DC66#32 = .ok (.ldrRegPost ⟨.al, false, 0#4, 13#4, 0x18#5, .ror, 6#4⟩) ∧
    decodeArm 0xE63F8BA6#32 = .ok (.ldrtReg ⟨.al, false, 15#4, 8#4, 0x17#5, .lsr, 6#4⟩) ∧
    decodeArm 0xE5FED9FC#32 = .ok (.ldrbImmPre ⟨.al, true, true, 14#4, 13#4, 0x9fc#12⟩) ∧
    decodeArm 0xE4DFF001#32 = .ok (.ldrbImmPost ⟨.al, true, 15#4, 15#4, 1#12⟩) ∧
    decodeArm 0x64FE737D#32 = .ok (.ldrbtImm ⟨.vs, true, 14#4, 7#4, 0x37d#12⟩) ∧
    decodeArm 0xE7721027#32 = .ok (.ldrbRegPre ⟨.al, false, true, 2#4, 1#4, 0#5, .lsr, 7#4⟩) ∧
    decodeArm 0xA6D48D83#32 = .ok (.ldrbRegPost ⟨.ge, true, 4#4, 8#4, 0x1b#5, .lsl, 3#4⟩) ∧
    decodeArm 0x467C8700#32 = .ok (.ldrbtReg ⟨.mi, false, 12#4, 8#4, 14#5, .lsl, 0#4⟩) := by
  decide

theorem test_decode_load_store_3 :
    decodeArm 0xE58F77E7#32 = .ok (.strImmPre ⟨.al, true, false, 15#4, 7#4, 0x7e7#12⟩) ∧
    decodeArm 0x64810636#32 = .ok (.strImmPost ⟨.vs, true, 1#4, 0#4, 0x636#12⟩) ∧
    decodeArm 0xE4A2874A#32 = .ok (.strtImm ⟨.al, true, 2#4, 8#4, 0x74a#12⟩) ∧
    decodeArm 0xE721AD4C#32 = .ok (.strRegPre ⟨.al, false, true, 1#4, 10#4, 0x1a#5, .asr, 12#4⟩) ∧
    decodeArm 0xE606F646#32 = .ok (.strRegPost ⟨.al, false, 6#4, 15#4, 12#5, .asr, 6#4⟩) ∧
    decodeArm 0xE6A93FA7#32 = .ok (.strtReg ⟨.al, true, 9#4, 3#4, 0x1f#5, .lsr, 7#4⟩) ∧
    decodeArm 0x654C16D0#32 = .ok (.strbImmPre ⟨.vs, false, false, 12#4, 1#4, 0x6d0#12⟩) ∧
    decodeArm 0xE4C115E4#32 = .ok (.strbImmPost ⟨.al, true, 1#4, 1#4, 0x5e4#12⟩) ∧
    decodeArm 0x74E3254C#32 = .ok (.strbtImm ⟨.vc, true, 3#4, 2#4, 0x54c#12⟩) ∧
    decodeArm 0xE7C9CBCE#32 = .ok (.strbRegPre ⟨.al, true, false, 9#4, 12#4, 0x17#5, .asr, 14#4⟩) ∧
    decodeArm 0xE6482B63#32 = .ok (.strbRegPost ⟨.al, false, 8#4, 2#4, 0x16#5, .ror, 3#4⟩) ∧
    decodeArm 0xE6ED21E6#32 = .ok (.strbtReg ⟨.al, true, 13#4, 2#4, 3#5, .ror, 6#4⟩) := by
  decide

theorem test_decode_load_store_4 :
    decodeArm 0xF5DEF62D#32 = .ok (.pldImm ⟨true, 14#4, 0x62d#12⟩) ∧
    decodeArm 0xF7DBFF0D#32 = .ok (.pldReg ⟨true, 11#4, 0x1e#5, .lsl, 13#4⟩) := by
  decide

theorem test_decode_multiple_swap :
    decodeArm 0xC10C109C#32 = .ok (.swp ⟨.gt, 12#4, 1#4, 12#4⟩) ∧
    decodeArm 0xE1418096#32 = .ok (.swpb ⟨.al, 1#4, 8#4, 6#4⟩) ∧
    decodeArm 0xE9BA1650#32 = .ok (.ldm1 ⟨.al, true, true, true, 10#4, 0x1650#16⟩) ∧
    decodeArm 0xB9F010B9#32 = .ok (.ldm2 ⟨.lt, true, true, true, 0#4, 0x10b9#15⟩) ∧
    decodeArm 0xE8FCC044#32 = .ok (.ldm3 ⟨.al, false, true, true, 12#4, 0x4044#15⟩) ∧
    decodeArm 0xE8809B4C#32 = .ok (.stm1 ⟨.al, false, true, false, 0#4, 0x9b4c#16⟩) ∧
    decodeArm 0xE9EB2874#32 = .ok (.stm2 ⟨.al, true, true, true, 11#4, 0x2874#16⟩) := by
  decide

theorem test_decode_status_system :
    decodeArm 0xE10FD000#32 = .ok (.mrs ⟨.al, false, 13#4⟩) ∧
    decodeArm 0xE16AF005#32 = .ok (.msrReg ⟨.al, true, 10#4, 5#4⟩) ∧
    decodeArm 0xE328F26A#32 = .ok (.msrImm ⟨.al, false, 8#4, 2#4, 0x6a#8⟩) ∧
    decodeArm 0xE123157D#32 = .ok (.bkpt ⟨0x315d#16⟩) ∧
    decodeArm 0xEF58AC9A#32 = .ok (.swi ⟨.al, 0x58ac9a#24⟩) := by
  decide

theorem test_decode_coprocessor :
    decodeArm 0xEEE73988#32 = .ok (.cdp ⟨.al, 14#4, 7#4, 3#4, 9#4, 4#3, 8#4⟩) ∧
    decodeArm 0xEE86E757#32 = .ok (.mcr ⟨.al, 4#3, 6#4, 14#4, 7#4, 2#3, 7#4⟩) ∧
    decodeArm 0xEE7A2C97#32 = .ok (.mrc ⟨.al, 3#3, 10#4, 2#4, 12#4, 4#3, 7#4⟩) ∧
    decodeArm 0xED1F7EBF#32 = .ok (.ldc ⟨.al, true, false, false, false, 15#4, 7#4, 14#4, 0xbf#8⟩) ∧
    decodeArm 0xEC2DB59F#32 = .ok (.stc ⟨.al, false, false, false, true, 13#4, 11#4, 5#4, 0x9f#8⟩) ∧
    decodeArm 0xFE261FE2#32 = .ok (.cdp2 ⟨2#4, 6#4, 1#4, 15#4, 7#3, 2#4⟩) ∧
    decodeArm 0xFEC3C435#32 = .ok (.mcr2 ⟨6#3, 3#4, 12#4, 4#4, 1#3, 5#4⟩) ∧
    decodeArm 0xFED8D99D#32 = .ok (.mrc2 ⟨6#3, 8#4, 13#4, 9#4, 4#3, 13#4⟩) ∧
    decodeArm 0xFCFD0B64#32 = .ok (.ldc2 ⟨false, true, true, true, 13#4, 0#4, 11#4, 0x64#8⟩) ∧
    decodeArm 0xFD8D5D3A#32 = .ok (.stc2 ⟨true, true, false, false, 13#4, 5#4, 13#4, 0x3a#8⟩) ∧
    decodeArm 0x6C4BE540#32 = .ok (.mcrr ⟨.vs, 11#4, 14#4, 5#4, 4#4, 0#4⟩) ∧
    decodeArm 0xEC5C2B54#32 = .ok (.mrrc ⟨.al, 12#4, 2#4, 11#4, 5#4, 4#4⟩) := by
  decide

theorem test_decode_thumb_data_1 :
    decodeThumb 0x05A2#16 = .ok (.tLslImm ⟨0x16#5, 4#3, 2#3⟩) ∧
    decodeThumb 0x0A89#16 = .ok (.tLsrImm ⟨10#5, 1#3, 1#3⟩) ∧
    decodeThumb 0x163B#16 = .ok (.tAsrImm ⟨0x18#5, 7#3, 3#3⟩) ∧
    decodeThumb 0x1910#16 = .ok (.tAddReg ⟨4#3, 2#3, 0#3⟩) ∧
    decodeThumb 0x1BE8#16 = .ok (.tSubReg ⟨7#3, 5#3, 0#3⟩) ∧
    decodeThumb 0x1D8A#16 = .ok (.tAddImm3 ⟨6#3, 1#3, 2#3⟩) ∧
    decodeThumb 0x1EF3#16 = .ok (.tSubImm3 ⟨3#3, 6#3, 3#3⟩) ∧
    decodeThumb 0x275D#16 = .ok (.tMovImm ⟨7#3, 0x5d#8⟩) ∧
    decodeThumb 0x2B15#16 = .ok (.tCmpImm ⟨3#3, 0x15#8⟩) ∧
    decodeThumb 0x3650#16 = .ok (.tAddImm8 ⟨6#3, 0x50#8⟩) ∧
    decodeThumb 0x3EB7#16 = .ok (.tSubImm8 ⟨6#3, 0xb7#8⟩) ∧
    decodeThumb 0x400A#16 = .ok (.tAnd ⟨1#3, 2#3⟩) := by
  decide

theorem test_decode_thumb_data_2 :
    decodeThumb 0x405B#16 = .ok (.tEor ⟨3#3, 3#3⟩) ∧
    decodeThumb 0x4080#16 = .ok (.tLslReg ⟨0#3, 0#3⟩) ∧
    decodeThumb 0x40E9#16 = .ok (.tLsrReg ⟨5#3, 1#3⟩) ∧
    decodeThumb 0x4137#16 = .ok (.tAsrReg ⟨6#3, 7#3⟩) ∧
    decodeThumb 0x4166#16 = .ok (.tAdc ⟨4#3, 6#3⟩) ∧
    decodeThumb 0x41A3#16 = .ok (.tSbc ⟨4#3, 3#3⟩) ∧
    decodeThumb 0x41F6#16 = .ok (.tRor ⟨6#3, 6#3⟩) ∧
    decodeThumb 0x422F#16 = .ok (.tTst ⟨5#3, 7#3⟩) ∧
    decodeThumb 0x427A#16 = .ok (.tNeg ⟨7#3, 2#3⟩) ∧
    decodeThumb 0x4280#16 = .ok (.tCmpLow ⟨0#3, 0#3⟩) ∧
    decodeThumb 0x42FF#16 = .ok (.tCmn ⟨7#3, 7#3⟩) ∧
    decodeThumb 0x431F#16 = .ok (.tOrr ⟨3#3, 7#3⟩) := by
  decide

theorem test_decode_thumb_data_3 :
    decodeThumb 0x437A#16 = .ok (.tMul ⟨7#3, 2#3⟩) ∧
    decodeThumb 0x43BE#16 = .ok (.tBic ⟨7#3, 6#3⟩) ∧
    decodeThumb 0x43C9#16 = .ok (.tMvn ⟨1#3, 1#3⟩) ∧
    decodeThumb 0x4475#16 = .ok (.tAddHi ⟨14#4, 5#4⟩) ∧
    decodeThumb 0x4540#16 = .ok (.tCmpHi ⟨8#4, 0#4⟩) ∧
    decodeThumb 0x4629#16 = .ok (.tMovHi ⟨5#4, 1#4⟩) ∧
    decodeThumb 0xA0C1#16 = .ok (.tAddPc ⟨0#3, 0xc1#8⟩) ∧
    decodeThumb 0xAA0D#16 = .ok (.tAddSp ⟨2#3, 13#8⟩) ∧
    decodeThumb 0xB010#16 = .ok (.tIncSp ⟨0x10#7⟩) ∧
    decodeThumb 0xB09C#16 = .ok (.tDecSp ⟨0x1c#7⟩) := by
  decide

theorem test_decode_thumb_memory_branch_1 :
    decodeThumb 0x4710#16 = .ok (.tBx ⟨2#4⟩) ∧
    decodeThumb 0x47E0#16 = .ok (.tBlxReg ⟨12#4⟩) ∧
    decodeThumb 0x4A71#16 = .ok (.tLdrPc ⟨2#3, 0x71#8⟩) ∧
    decodeThumb 0x506C#16 = .ok (.tStrReg ⟨1#3, 5#3, 4#3⟩) ∧
    decodeThumb 0x52AC#16 = .ok (.tStrhReg ⟨2#3, 5#3, 4#3⟩) ∧
    decodeThumb 0x55D4#16 = .ok (.tStrbReg ⟨7#3, 2#3, 4#3⟩) ∧
    decodeThumb 0x57DC#16 = .ok (.tLdrsbReg ⟨7#3, 3#3, 4#3⟩) ∧
    decodeThumb 0x58ED#16 = .ok (.tLdrReg ⟨3#3, 5#3, 5#3⟩) ∧
    decodeThumb 0x5A1A#16 = .ok (.tLdrhReg ⟨0#3, 3#3, 2#3⟩) ∧
    decodeThumb 0x5D94#16 = .ok (.tLdrbReg ⟨6#3, 2#3, 4#3⟩) ∧
    decodeThumb 0x5F72#16 = .ok (.tLdrshReg ⟨5#3, 6#3, 2#3⟩) ∧
    decodeThumb 0x6408#16 = .ok (.tStrImm ⟨0x10#5, 1#3, 0#3⟩) := by
  decide

theorem test_decode_thumb_memory_branch_2 :
    decodeThumb 0x6DF9#16 = .ok (.tLdrImm ⟨0x17#5, 7#3, 1#3⟩) ∧
    decodeThumb 0x7435#16 = .ok (.tStrbImm ⟨0x10#5, 6#3, 5#3⟩) ∧
    decodeThumb 0x7C35#16 = .ok (.tLdrbImm ⟨0x10#5, 6#3, 5#3⟩) ∧
    decodeThumb 0x826D#16 = .ok (.tStrhImm ⟨9#5, 5#3, 5#3⟩) ∧
    decodeThumb 0x897B#16 = .ok (.tLdrhImm ⟨5#5, 7#3, 3#3⟩) ∧
    decodeThumb 0x9218#16 = .ok (.tStrSp ⟨2#3, 0x18#8⟩) ∧
    decodeThumb 0x9C81#16 = .ok (.tLdrSp ⟨4#3, 0x81#8⟩) ∧
    decodeThumb 0xB5A0#16 = .ok (.tPush ⟨true, 0xa0#8⟩) ∧
    decodeThumb 0xBC11#16 = .ok (.tPop ⟨false, 0x11#8⟩) ∧
    decodeThumb 0xBE71#16 = .ok (.tBkpt ⟨0x71#8⟩) ∧
    decodeThumb 0xC294#16 = .ok (.tStmia ⟨2#3, 0x94#8⟩) ∧
    decodeThumb 0xCED5#16 = .ok (.tLdmia ⟨6#3, 0xd5#8⟩) := by
  decide

theorem test_decode_thumb_memory_branch_3 :
    decodeThumb 0xD043#16 = .ok (.tBCond ⟨.eq, 0x43#8⟩) ∧
    decodeThumb 0xDFFA#16 = .ok (.tSwi ⟨0xfa#8⟩) ∧
    decodeThumb 0xE3A2#16 = .ok (.tB ⟨0x3a2#11⟩) ∧
    decodeThumb 0xF0BA#16 = .ok (.tBlPrefix ⟨0xba#11⟩) ∧
    decodeThumb 0xF85B#16 = .ok (.tBlSuffix ⟨0x5b#11⟩) ∧
    decodeThumb 0xE8DE#16 = .ok (.tBlxSuffix ⟨0x6f#10⟩) := by
  decide

/-! ### Steps: the vectors of spec/95_test_vectors.md, by their names there -/

/-- A state right after reset with other contents of registers. -/
def withRegs (l : List (Reg × Word)) (s : State) : State := l.foldl (fun t p => t.setReg p.1 p.2) s

/-- The same with words in memory. -/
def withWords (l : List (Word × Word)) (s : State) : State :=
  l.foldl (fun t p => { t with mem := t.mem.putWord t.cfg.bigEnd p.1 p.2 }) s

/-- One ARM instruction, placed at the pc and run. -/
def runArm (w : Nat) (s : State) : Out := step (s.withFetchWord 32 w)

/-- One Thumb instruction, placed at the pc and run. -/
def runThumb (w : Nat) (s : State) : Out := step (s.withFetchWord 16 w)

/-- Look at the next state. -/
def after {α : Type} (o : Out) (f : State → α) : Option α :=
  match o with
  | .next t => some (f t)
  | .fault _ => none
  | .refused _ => none

/-- The refusal a step ends in. -/
def refusalOf (o : Out) : Option Refusal :=
  match o with
  | .refused r => some r
  | .next _ => none
  | .fault _ => none

/-- Reset with another CPSR. -/
def withCpsr (c : Word) : State := { State.reset with cpsr := c }

/-- The flags N, Z, C, V as four bits. -/
def flags (s : State) : BitVec 4 := fld s.cpsr 28 4

/-- Memory of vectors L1 to L30. -/
def loadData : List (Word × Word) := [(0x1000, 0x11223344), (0x1004, 0xAABBCCDD), (0x1008, 0x8001FF80)]

/-- Memory of vectors T1 to T18. -/
def blockData : List (Word × Word) := [(0x1000, 0xA0), (0x1004, 0xA1), (0x1008, 0xA2), (0x100C, 0xA3)]

/-- Abort every access to the bytes `lo` to `hi`. -/
def aborting (lo hi : Nat) (s : State) : State :=
  { s with cfg := { s.cfg with aborts := [⟨lo, hi, [], [], [], []⟩] } }

/-- The same instruction on a big-endian memory. -/
def bigEndian (s : State) : State := { s with cfg := { s.cfg with bigEnd := true } }

-- K1, K2
theorem test_condition_fails : after (runArm 0x02800001 (withRegs [(0, 5)] State.reset)) (fun t => (t.reg 0, t.pc)) =
    some (5, 4) := by decide
theorem test_condition_passes :
    after (runArm 0x02800001 (withRegs [(0, 5)] (withCpsr 0x400000D3))) (·.reg 0) = some 6 := by decide
-- A1, A3, A6, A8, A10
theorem test_ands : after (runArm 0xE21100FF (withRegs [(1, 0xF0F0F0F0)] (withCpsr 0x200000D3)))
    (fun t => (t.reg 0, flags t)) = some (0xF0, 0b0010) := by decide
theorem test_subs_borrow : after (runArm 0xE2510007 (withRegs [(1, 5)] State.reset)) (fun t => (t.reg 0, flags t)) =
    some (0xFFFFFFFE, 0b1000) := by decide
theorem test_adds_overflow : after (runArm 0xE0910002 (withRegs [(1, 0x7FFFFFFF), (2, 1)] State.reset))
    (fun t => (t.reg 0, flags t)) = some (0x80000000, 0b1001) := by decide
theorem test_sbcs : after (runArm 0xE0D10002 (withRegs [(1, 5), (2, 3)] State.reset)) (fun t => (t.reg 0, flags t)) =
    some (1, 0b0010) := by decide
theorem test_tst_rotated_carry : after (runArm 0xE3110102 (withRegs [(1, 0x80000001)] State.reset)) flags =
    some 0b1010 := by decide
-- A17, A20
theorem test_rrx : after (runArm 0xE1B00061 (withRegs [(1, 3)] (withCpsr 0x200000D3)))
    (fun t => (t.reg 0, flags t)) = some (0x80000001, 0b1010) := by decide
theorem test_clz : after (runArm 0xE16F0F11 (withRegs [(1, 0x10000)] State.reset)) (·.reg 0) = some 15 := by decide
theorem test_clz_zero : after (runArm 0xE16F0F11 State.reset) (·.reg 0) = some 32 := by decide
-- H4, H7, H13, H16
theorem test_lsl_32 : after (runArm 0xE1B00211 (withRegs [(1, 0x80000001), (2, 32)] State.reset))
    (fun t => (t.reg 0, flags t)) = some (0, 0b0110) := by decide
theorem test_lsl_bottom_byte : after (runArm 0xE1B00211 (withRegs [(1, 0x80000001), (2, 0x120)] State.reset))
    (fun t => (t.reg 0, flags t)) = some (0, 0b0110) := by decide
theorem test_asr_100 : after (runArm 0xE1B00251 (withRegs [(1, 0x80000001), (2, 100)] State.reset))
    (fun t => (t.reg 0, flags t)) = some (0xFFFFFFFF, 0b1010) := by decide
theorem test_ror_33 : after (runArm 0xE1B00271 (withRegs [(1, 0x80000001), (2, 33)] State.reset))
    (fun t => (t.reg 0, flags t)) = some (0xC0000000, 0b1010) := by decide
-- V4, V7, V8, V10
theorem test_pc_register_shift : refusalOf (runArm 0xE08F0211 State.reset) = some .pcRegisterShift := by decide
theorem test_return_to_thumb : after (runArm 0xE25EF004
    (withRegs [(14, 0x8008)] { withCpsr 0xD2 with spsrIrq := 0x80000030 })) (fun t => (t.cpsr, t.pc)) =
    some (0x80000030, 0x8004) := by decide
theorem test_return_to_arm : after (runArm 0xE25EF004
    (withRegs [(14, 0x8008)] { withCpsr 0xD2 with spsrIrq := 0x80000010 })) (fun t => (t.cpsr, t.pc)) =
    some (0x80000010, 0x8004) := by decide
theorem test_compare_without_s : after (runArm 0xE3410001 { State.reset with pc := 0x100 })
    (fun t => (t.bankReg .und 14, t.cpsr, t.pc)) = some (0x104, 0xDB, 4) := by decide
-- M3, M5, M8, M9, M16, M20, M21, M24
theorem test_muls_keeps_carry : after (runArm 0xE0100291 (withRegs [(2, 5)] (withCpsr 0x300000D3)))
    (fun t => (t.reg 0, flags t)) = some (0, 0b0111) := by decide
theorem test_umull : after (runArm 0xE0810392 (withRegs [(2, 0xFFFFFFFF), (3, 2)] State.reset))
    (fun t => (t.reg 1, t.reg 0)) = some (1, 0xFFFFFFFE) := by decide
theorem test_smlals : after (runArm 0xE0F10392 (withRegs [(0, 1), (2, 0xFFFFFFFF), (3, 1)] State.reset))
    (fun t => (t.reg 1, t.reg 0, flags t)) = some (0, 0, 0b0100) := by decide
theorem test_qadd : after (runArm 0xE1020051 (withRegs [(1, 0x7FFFFFFF), (2, 1)] State.reset))
    (fun t => (t.reg 0, t.cpsr)) = some (0x7FFFFFFF, 0x080000D3) := by decide
theorem test_qdsub : after (runArm 0xE1600050 (withRegs [(0, 0x80000000)] State.reset))
    (fun t => (t.reg 0, t.cpsr)) = some (0, 0x080000D3) := by decide
theorem test_smlabb : after (runArm 0xE1003281 (withRegs [(1, 2), (2, 3), (3, 0x7FFFFFFF)] State.reset))
    (fun t => (t.reg 0, t.cpsr)) = some (0x80000005, 0x080000D3) := by decide
theorem test_smulwt : after (runArm 0xE12002E1 (withRegs [(1, 0x12345678), (2, 0x80000000)] State.reset))
    (·.reg 0) = some 0xF6E5D4C4 := by decide
theorem test_smlalbb : after (runArm 0xE1410382 (withRegs [(0, 0xFFFFFFFF), (2, 1), (3, 1)] State.reset))
    (fun t => (t.reg 1, t.reg 0)) = some (1, 0) := by decide
-- B1, B3, B4, B7
theorem test_b : after (runArm 0xEA000002 { State.reset with pc := 0x100 }) (·.pc) = some 0x110 := by decide
theorem test_bl : after (runArm 0xEBFFFFFD { State.reset with pc := 0x200 }) (fun t => (t.reg 14, t.pc)) =
    some (0x204, 0x1FC) := by decide
theorem test_bx : after (runArm 0xE12FFF10 (withRegs [(0, 0x8001)] State.reset)) (fun t => (t.thumb, t.pc)) =
    some (true, 0x8000) := by decide
theorem test_blx : after (runArm 0xFB000000 { State.reset with pc := 0x1000 })
    (fun t => (t.reg 14, t.thumb, t.pc)) = some (0x1004, true, 0x100A) := by decide
-- L2, L6, L9, L16, L17, L20, L24, L26, L29, L31
theorem test_ldr_pre : after (runArm 0xE5310004 (withRegs [(1, 0x1008)] (withWords loadData State.reset)))
    (fun t => (t.reg 0, t.reg 1)) = some (0xAABBCCDD, 0x1004) := by decide
theorem test_ldr_rotates : after (runArm 0xE5910000 (withRegs [(1, 0x1001)] (withWords loadData State.reset)))
    (·.reg 0) = some 0x44112233 := by decide
theorem test_ldrb_big_endian :
    after (runArm 0xE5D10001 (withRegs [(1, 0x1000)] (withWords loadData (bigEndian State.reset)))) (·.reg 0) =
    some 0x22 := by decide
theorem test_str_unaligned : after (runArm 0xE5810000 (withRegs [(0, 0xCAFEBABE), (1, 0x1003)] State.reset))
    (·.mem.word false 0x1000) = some 0xCAFEBABE := by decide
theorem test_strb : after (runArm 0xE5C10000
    (withRegs [(0, 0x1234ABCD), (1, 0x1001)] (withWords loadData State.reset))) (·.mem.word false 0x1000) =
    some 0x1122CD44 := by decide
theorem test_str_pc : after (runArm 0xE581F000 (withRegs [(1, 0x1000)] { State.reset with pc := 0x100 }))
    (·.mem.word false 0x1000) = some 0x10C := by decide
theorem test_ldrsh_odd :
    after (runArm 0xE1D100F0 (withRegs [(1, 0x1001)] (withWords [(0x1000, 0x8001FFFF)] State.reset))) (·.reg 0) =
    some 0xFFFFFFFF := by decide
theorem test_strh_post : after (runArm 0xE0C100B2 (withRegs [(0, 0xAABBCCDD), (1, 0x1002)] State.reset))
    (fun t => (t.mem.byte 0x1002, t.mem.byte 0x1003, t.reg 1)) = some (0xDD, 0xCC, 0x1004) := by decide
theorem test_strd_pre : after (runArm 0xE16120F8 (withRegs [(1, 0x1010), (2, 1), (3, 2)] State.reset))
    (fun t => (t.mem.word false 0x1008, t.mem.word false 0x100C, t.reg 1)) = some (1, 2, 0x1008) := by decide
theorem test_ldr_aborted : after (runArm 0xE4910004 (aborting 0x1000 0x1003
      (withRegs [(0, 9), (1, 0x1000)] { withCpsr 0x60000010 with pc := 0x8000 })))
    (fun t => (t.reg 0, t.reg 1, t.reg 14, t.spsrAbt, t.cpsr, t.pc)) =
    some (9, 0x1000, 0x8008, 0x60000010, 0x60000097, 0x10) := by decide
-- T2, T6, T7, T8, T15, T18, T21
theorem test_ldmia_writeback : after (runArm 0xE8B0000E (withRegs [(0, 0x1000)] (withWords blockData State.reset)))
    (fun t => (t.reg 1, t.reg 2, t.reg 3, t.reg 0)) = some (0xA0, 0xA1, 0xA2, 0x100C) := by decide
theorem test_ldm_pc : after (runArm 0xE8BD8010
      (withRegs [(13, 0x7FF8)] (withWords [(0x7FF8, 4), (0x7FFC, 0x8001)] State.reset)))
    (fun t => (t.reg 4, t.reg 13, t.thumb, t.pc)) = some (4, 0x8000, true, 0x8000) := by decide
theorem test_ldm_user : after (runArm 0xE8D06000 (withRegs [(0, 0x1000)] (withWords blockData (withCpsr 0xD2))))
    (fun t => (t.bankReg .usr 13, t.bankReg .usr 14, t.reg 13)) = some (0xA0, 0xA1, 0) := by decide
theorem test_ldm_return : after (runArm 0xE8FD800F (withRegs [(13, 0x7000)]
      (withWords [(0x7000, 1), (0x7004, 2), (0x7008, 3), (0x700C, 4), (0x7010, 0x8003)]
        { withCpsr 0xD2 with spsrIrq := 0x60000010 })))
    (fun t => (t.reg 3, t.cpsr, t.pc, t.bankReg .irq 13)) = some (4, 0x60000010, 0x8000, 0x7014) := by decide
theorem test_stm_pc : after (runArm 0xE8808001 (withRegs [(0, 0x1000)] { State.reset with pc := 0x200 }))
    (fun t => (t.mem.word false 0x1000, t.mem.word false 0x1004)) = some (0x1000, 0x20C) := by decide
theorem test_ldm_aborted : after (runArm 0xE8B0000E (aborting 0x1004 0x1007
      (withRegs [(0, 0x1000)] (withWords blockData { State.reset with pc := 0x8000 }))))
    (fun t => (t.reg 1, t.reg 2, t.reg 3, t.reg 0, t.reg 14, t.pc)) = some (0xA0, 0, 0, 0x1000, 0x8008, 0x10) := by
  decide
theorem test_swp_rotates : after (runArm 0xE1020091
      (withRegs [(1, 0xAAAAAAAA), (2, 0x1002)] (withWords [(0x1000, 0x11223344)] State.reset)))
    (fun t => (t.reg 0, t.mem.word false 0x1000)) = some (0x33441122, 0xAAAAAAAA) := by decide
theorem test_empty_list : refusalOf (runArm 0xE8800000 State.reset) = some .multipleForm := by decide
-- X2, X3, X4, X5, X9, X10, X11, X13
theorem test_mrs_spsr : after (runArm 0xE14F1000 { State.reset with spsrSvc := 0x80000010 }) (·.reg 1) =
    some 0x80000010 := by decide
theorem test_msr_mode : after (runArm 0xE121F000 (withRegs [(0, 0x1F)] State.reset)) (·.cpsr) = some 0x1F := by decide
theorem test_msr_user : after (runArm 0xE121F000 (withRegs [(0, 0x1F)] (withCpsr 0x10))) (·.cpsr) = some 0x10 := by
  decide
theorem test_msr_flags : after (runArm 0xE328F20F (withCpsr 0x080000D3)) (·.cpsr) = some 0xF00000D3 := by decide
theorem test_swi : after (runArm 0xEF123456 { withCpsr 0x60000010 with pc := 0x8000 })
    (fun t => (t.reg 14, t.spsrSvc, t.cpsr, t.pc)) = some (0x8004, 0x60000010, 0x60000093, 8) := by decide
theorem test_bkpt : after (runArm 0xE12ABC7D { State.reset with pc := 0x8000 })
    (fun t => (t.reg 14, t.spsrAbt, t.cpsr, t.pc)) = some (0x8004, 0xD3, 0xD7, 0xC) := by decide
theorem test_undefined : after (runArm 0xE7F000F0 { State.reset with pc := 0x100 })
    (fun t => (t.reg 14, t.spsrUnd, t.cpsr, t.pc)) = some (0x104, 0xD3, 0xDB, 4) := by decide
theorem test_high_vectors :
    after (runArm 0xEF000000 { State.reset with cfg := { Cfg.default with hiVecs := true } }) (·.pc) =
    some 0xFFFF0008 := by decide
-- E1, E2, E3, E5, E6, E10
theorem test_irq : after (runArm 0xE1A00000
      { withCpsr 0x20000010 with pc := 0x8004, pins := { Pins.inactive with nIRQ := false } })
    (fun t => (t.reg 14, t.spsrIrq, t.cpsr, t.pc)) = some (0x8008, 0x20000010, 0x20000092, 0x18) := by decide
theorem test_irq_thumb : after (runThumb 0x46C0
      { withCpsr 0x20000030 with pc := 0x8002, pins := { Pins.inactive with nIRQ := false } })
    (fun t => (t.reg 14, t.spsrIrq, t.cpsr, t.pc)) = some (0x8006, 0x20000030, 0x20000092, 0x18) := by decide
theorem test_fiq_first : after (runArm 0xE1A00000
      { withCpsr 0x10 with pc := 0x8004, pins := { Pins.inactive with nIRQ := false, nFIQ := false } })
    (fun t => (t.reg 14, t.spsrFiq, t.cpsr, t.pc)) = some (0x8008, 0x10, 0xD1, 0x1C) := by decide
theorem test_prefetch_abort : after (runArm 0xE1A00000 (aborting 0x8000 0x8003 { withCpsr 0x10 with pc := 0x8000 }))
    (fun t => (t.reg 14, t.spsrAbt, t.cpsr, t.pc)) = some (0x8004, 0x10, 0x97, 0xC) := by decide
-- Q1, Q2, Q4, Q5, Q7, Q9
theorem test_comms_control : after (runArm 0xEE100E10 State.reset) (·.reg 0) = some 0x60000000 := by decide
theorem test_comms_write : after (runArm 0xEE010E10 (withRegs [(0, 0x1234)] State.reset))
    (fun t => (t.ice.dccWr, t.ice.w, t.commTx)) = some (0x1234, true, false) := by decide
theorem test_comms_read : after (runArm 0xEE110E10
      { State.reset with ice := { Ice.afterReset with dccRd := 0xBEEF, r := true } })
    (fun t => (t.reg 0, t.ice.r)) = some (0xBEEF, false) := by decide
theorem test_comms_flags :
    after (runArm 0xEE10FE10 { State.reset with ice := { Ice.afterReset with w := true } }) flags =
    some 0b0110 := by decide
theorem test_no_coprocessor : after (runArm 0xECB10101 (withRegs [(1, 0x1000)] { State.reset with pc := 0x100 }))
    (fun t => (t.reg 1, t.reg 14, t.pc, t.bus)) = some (0x1000, 0x104, 4, []) := by decide
-- TD1, TD18, TD26, TD34, TD37
theorem test_t_lsl : after (runThumb 0x0108 (withRegs [(1, 0xF0000001)] State.reset))
    (fun t => (t.reg 0, flags t)) = some (0x10, 0b0010) := by decide
theorem test_t_lsl_32 : after (runThumb 0x4088 (withRegs [(0, 1), (1, 32)] State.reset))
    (fun t => (t.reg 0, flags t)) = some (0, 0b0110) := by decide
theorem test_t_neg : after (runThumb 0x4248 (withRegs [(1, 0x80000000)] State.reset))
    (fun t => (t.reg 0, flags t)) = some (0x80000000, 0b1001) := by decide
theorem test_t_add_pc_register : after (runThumb 0x4487 (withRegs [(0, 0x20)] { State.reset with pc := 0x100 }))
    (fun t => (t.pc, t.thumb)) = some (0x124, true) := by decide
theorem test_t_add_pc : after (runThumb 0xA001 { State.reset with pc := 0x102 }) (·.reg 0) = some 0x108 := by decide
-- TM3, TM11, TM12, TM19, TM21, TM26, TM27, TM28
theorem test_t_push : after (runThumb 0xB510 (withRegs [(13, 0x2000), (4, 4), (14, 0x8001)] State.reset))
    (fun t => (t.mem.word false 0x1FF8, t.mem.word false 0x1FFC, t.reg 13)) = some (4, 0x8001, 0x1FF8) := by decide
theorem test_t_pop : after (runThumb 0xBD10
      (withRegs [(13, 0x1FF8)] (withWords [(0x1FF8, 4), (0x1FFC, 0x8001)] State.reset)))
    (fun t => (t.reg 4, t.reg 13, t.thumb, t.pc)) = some (4, 0x2000, true, 0x8000) := by decide
theorem test_t_bl_prefix : after (runThumb 0xF000 { State.reset with pc := 0x1000 }) (fun t => (t.reg 14, t.pc)) =
    some (0x1004, 0x1002) := by decide
theorem test_t_bl_suffix : after (runThumb 0xFFFE (withRegs [(14, 0x1004)] { State.reset with pc := 0x1002 }))
    (fun t => (t.reg 14, t.pc, t.thumb)) = some (0x1005, 0x2000, true) := by decide
theorem test_t_blx_suffix : after (runThumb 0xEFFE (withRegs [(14, 0x2004)] { State.reset with pc := 0x1002 }))
    (fun t => (t.reg 14, t.pc, t.thumb)) = some (0x1005, 0x3000, false) := by decide
theorem test_t_swi : after (runThumb 0xDF12 { withCpsr 0x30 with pc := 0x500 })
    (fun t => (t.reg 14, t.spsrSvc, t.cpsr, t.pc)) = some (0x502, 0x30, 0x93, 8) := by decide
theorem test_t_bkpt : after (runThumb 0xBEAB { withCpsr 0xF3 with pc := 0x600 })
    (fun t => (t.reg 14, t.spsrAbt, t.cpsr, t.pc)) = some (0x604, 0xF3, 0xD7, 0xC) := by decide
theorem test_t_undefined : after (runThumb 0xDE00 { withCpsr 0xF3 with pc := 0x700 })
    (fun t => (t.reg 14, t.spsrUnd, t.cpsr, t.pc)) = some (0x702, 0xF3, 0xDB, 4) := by decide

-- 20_memory.md R74, R75, R640: an N fetch, then S fetches
theorem test_fetch_cycles : after (runArm 0xE1A00000 State.reset)
    (fun t => t.ibus.map fun c => (c.addr, c.seq)) = some [(0, false), (4, true), (8, true)] := by decide
-- R78: with CFGTHUMB32 HIGH one word fetch supplies two instructions
theorem test_word_fetches :
    after (runThumb 0x46C0 { State.reset with cfg := { Cfg.default with thumb32 := true } })
      (fun t => t.ibus.map fun c => (c.addr, c.size)) = some [(0, .word), (4, .word)] := by decide
-- R61, 92 D2: split memories
theorem test_split_memory :
    after (runArm 0xE5910000 (withRegs [(1, 0)] { State.reset with cfg := { Cfg.default with split := true } }))
      (fun t => (t.reg 0, t.imem.word false 0)) = some (0, 0xE5910000) := by decide
-- R87: DMORE in every transfer of a burst but the last
theorem test_dmore : after (runArm 0xE880000E State.reset) (fun t => t.bus.map fun c => (c.addr, c.seq, c.more)) =
    some [(0, false, true), (4, true, true), (8, true, false)] := by decide
-- R565, 95_test_vectors.md D-1: the two words behind BX pc are discarded
theorem test_debug_bx_pc : after (scanInstr 0x46C046C0 false 0 { withCpsr 0xF3 with
      dbg := { Debug.idle with active := true, pending := some 0x47784778 } })
    (fun t => (t.thumb, t.dbg.pending, t.dbg.shadow)) = some (false, none, 1) := by decide
/-! ### Witnesses: states and operands that meet the hypotheses of each statement -/

/-- The witness states: Supervisor mode in ARM state, and in Thumb state. -/
def armS : State := State.reset
/-- Thumb state. -/
def thumbS : State := withCpsr 0xF3
/-- User mode. -/
def userS : State := withCpsr 0x10
/-- Mode IRQ with an SPSR. -/
def irqS : State := { withCpsr 0xD2 with spsrIrq := 0x10 }

theorem calm_of (s : State) (h : s.cfg.dbgen = false) (h' : s.dbg.active = false) : calm s := ⟨h, h'⟩
theorem noAborts_of (s : State) (h : s.cfg.aborts = []) : noAborts s := by
  intro acc z a p b
  simp [Cfg.abort, h]
theorem plain_of (s : State)
    (h : s.pinStream = [] ∧ s.pins.nRESET = true ∧ s.pins.nTRST = true ∧ s.cfg.dbgen = false ∧ s.dbg.active = false ∧
      s.dbg.watch = .idle ∧ (Mode.ofBits (psrM s.cpsr)).isSome = true) : plainBoundary s := by
  obtain ⟨a, b, c, d, e, f, g⟩ := h
  refine ⟨⟨a, b, c⟩, ⟨d, e⟩, f, ?_⟩
  intro h
  rw [h] at g
  cases g
theorem next_of (o : Out) (h : after o (fun _ => ()) = some ()) : ∃ t, o = .next t := by
  cases o with
  | next t => exact ⟨t, rfl⟩
  | fault f => cases h
  | refused r => cases h

theorem witness_roundTrip : (Instr.ldc ⟨.al, true, true, false, false, 1, 2, 3, 4⟩).wf = true := rfl
theorem witness_undefinedPattern : fld 0xE6000010#32 25 3 = 0b011#3 ∧ bitAt 0xE6000010#32 4 = true := by decide

theorem undisturbed_of (s : State) (h : plainBoundary s) (h' : s.cfg.windows = [] ∧ s.pins.nFIQ = true ∧
    s.pins.nIRQ = true) : undisturbed s := ⟨h, h'⟩
/-- A prefetched word at the pc of `armS`. -/
def entry (w : Word) : Fetched := ⟨0, w, false, false, none, true, 0b01100⟩
/-- A prefetched MOV r1, #5 at the pc. -/
def queued : State := { armS with fetchQ := [entry 0xE3A01005] }
/-- The same word at the pc, with nothing prefetched. -/
def placed (w : Nat) : State := armS.withFetchWord 32 w
theorem undisturbed_placed (w : Nat) : undisturbed (placed w) :=
  undisturbed_of _ (plain_of _ ⟨rfl, rfl, rfl, rfl, rfl, rfl,
    show (Mode.ofBits (psrM (setPsrT armS.cpsr false))).isSome = true by decide⟩) ⟨rfl, rfl, rfl⟩
theorem headBits_of (s : State) (w : Word) (h : s.liveQueue = []) (h' : s.cfg.aborts = [])
    (h'' : w = if s.thumb then (s.codeMem.half s.cfg.bigEnd (align2 s.pc)).setWidth 32
      else s.codeMem.word s.cfg.bigEnd (align4 s.pc)) : headBits s w := .inr ⟨h, noAborts_of s h', h''⟩
theorem witness_stepRunsQueued : undisturbed queued ∧ headBits queued 0xE3A01005 ∧
    decoded queued 0xE3A01005 = .ok (.movImm ⟨.al, false, 1, 0, 5⟩) ∧ queued.bankHazard = false :=
  ⟨undisturbed_of _ (plain_of _ (by decide)) (by decide), .inl ⟨_, [], rfl, by decide⟩, by decide, by decide⟩
theorem witness_stepRunsFetched : undisturbed (placed 0xE3A01005) ∧ headBits (placed 0xE3A01005) 0xE3A01005 ∧
    decoded (placed 0xE3A01005) 0xE3A01005 = .ok (.movImm ⟨.al, false, 1, 0, 5⟩) :=
  ⟨undisturbed_placed _, headBits_of _ _ (by decide) rfl (by decide), by decide⟩
theorem witness_stepRunsThumb : ∃ s : State, undisturbed s ∧ headBits s 0x20FF ∧ s.thumb = true ∧
    decoded s 0x20FF = .ok (.tMovImm ⟨0, 0xFF⟩) :=
  ⟨thumbS.withFetchWord 16 0x20FF, undisturbed_of _ (plain_of _ (by decide)) (by decide),
    headBits_of _ _ (by decide) rfl (by decide), by decide⟩
theorem witness_stepRunsAfterUserBank : ({ queued with bankHazard := true } : State).bankHazard = true ∧
    (sources (.movImm ⟨.al, false, 1, 0, 5⟩)).any (banked queued.mode) = false := by decide
theorem witness_stepInvariants : armS.mem.wf = true ∧ armS.pcAligned ∧ armS.ice.fixedBits ∧ ∃ t, step armS = .next t :=
  ⟨rfl, by unfold State.pcAligned; decide, by unfold Ice.fixedBits; decide, next_of _ (by decide)⟩
theorem witness_pcAlignedThumb : ({ thumbS with pc := 2 } : State).pcAligned ∧
    ∃ t, step { thumbS with pc := 2 } = .next t := ⟨by unfold State.pcAligned; decide, next_of _ (by decide)⟩
/-- nRESET held LOW. -/
def heldS : State := { armS with pins := { Pins.inactive with nRESET := false } }
theorem witness_coreReset : heldS.clocks = [] ∧ heldS.sample.pins.nRESET = false ∧ heldS.sample.pins.nTRST = true ∧
    heldS.dbg.active = false ∧ heldS.pins.nRESET = false := by decide
/-- nRESET goes LOW while STR r0, [r1], just branched to, is about to run. -/
def cutS : State :=
  { withRegs [(1, 0x1000)] (withWords [(0x100, 0xE5810000)] { armS with pc := 0x100 }) with
    pinStream := [⟨{ Pins.inactive with nRESET := false }, []⟩] }
-- 70_reset_and_hazards.md R602: only the word of the cut store is at risk
theorem test_reset_cuts_store : cutS.sample.inFlight.map (fun c => (c.addr, c.size, c.write)) = [(0x1000, .word, true)] :=
  by decide
theorem test_reset_held : heldS.sample.inFlight = [] := by decide
theorem witness_coreResetStore : cutS.clocks = [] ∧ cutS.sample.pins.nRESET = false ∧ cutS.sample.pins.nTRST = true ∧
    cutS.dbg.active = false ∧ cutS.mem.wf = true ∧ ∀ c ∈ cutS.sample.inFlight,
    storedByte cutS.cfg.bigEnd c.size c.addr 0 0x1004 = none := by decide
theorem witness_illegalMode : quietPins (withCpsr 0) ∧ (withCpsr 0).stuck :=
  ⟨by unfold quietPins; decide, by unfold State.stuck; decide⟩
/-- A TAP clock arrives in debug state with an illegal mode. -/
def stuckS : State := { withCpsr 0 with pinStream := [⟨Pins.inactive, [⟨true, false⟩]⟩], dbg := { Debug.idle with active := true } }
theorem witness_illegalModeClocked : stuckS.sample.pins.nRESET = true ∧ stuckS.stuck ∧ ∃ t, step stuckS = .next t :=
  ⟨by decide, by unfold State.stuck; decide, next_of _ (by decide)⟩
theorem witness_execNext : ∃ t, exec (.movImm ⟨.al, false, 1, 0, 5⟩) userS = .next t := next_of _ (by decide)
theorem witness_userException : psrM userS.cpsr = 0b10000#5 ∧ userS.dbg.active = false ∧
    ∃ t, exec (.swi ⟨.al, 0⟩) userS = .next t := ⟨by decide, by decide, next_of _ (by decide)⟩
theorem witness_failedCondition : condOf (.swi ⟨.eq, 0⟩) = some .eq ∧ condPassed .eq armS.cpsr = false := by decide
theorem witness_failedConditionThumb : condOf (.tBCond ⟨.eq, 0⟩) = some .eq ∧ condPassed .eq thumbS.cpsr = false := by
  decide
theorem witness_memory : Memory.wf [] = true ∧ Memory.wf [(0, 1), (0xFFFFFFFF, 255)] = true := by decide

theorem witness_aluImmediate : ∃ (o : AluImmOps) (s : State), condPassed o.cond s.cpsr = true ∧ s.thumb = false ∧
    o.rd ≠ 15#4 := ⟨⟨.al, true, 15, 14, 0, 5⟩, armS, by decide⟩
theorem witness_movImmediate : ∃ (o : MovImmOps) (s : State), condPassed o.cond s.cpsr = true ∧ s.thumb = false ∧
    o.rd ≠ 15#4 := ⟨⟨.ne, true, 14, 0, 5⟩, armS, by decide⟩
theorem witness_cmpImmediate : ∃ (o : CmpImmOps) (s : State), condPassed o.cond s.cpsr = true ∧ s.thumb = false :=
  ⟨⟨.al, 1, 0, 5⟩, armS, by decide⟩
theorem witness_aluShift : ∃ (o : AluShiftOps) (s : State), condPassed o.cond s.cpsr = true ∧ s.thumb = false ∧
    o.rd ≠ 15#4 := ⟨⟨.al, true, 15, 14, 0, .ror, 15⟩, armS, by decide⟩
theorem witness_movShift : ∃ (o : MovShiftOps) (s : State), condPassed o.cond s.cpsr = true ∧ s.thumb = false ∧
    o.rd ≠ 15#4 := ⟨⟨.al, true, 14, 0, .lsr, 15⟩, armS, by decide⟩
theorem witness_cmpShift : ∃ (o : CmpShiftOps) (s : State), condPassed o.cond s.cpsr = true ∧ s.thumb = false :=
  ⟨⟨.al, 1, 31, .asr, 2⟩, armS, by decide⟩
theorem witness_aluRegister : ∃ (o : AluRegOps) (s : State), condPassed o.cond s.cpsr = true ∧ s.thumb = false ∧
    o.rd ≠ 15#4 ∧ o.rn ≠ 15#4 ∧ o.rm ≠ 15#4 ∧ o.rs ≠ 15#4 := ⟨⟨.al, true, 1, 14, 2, .ror, 3⟩, armS, by decide⟩
theorem witness_movRegister : ∃ (o : MovRegOps) (s : State), condPassed o.cond s.cpsr = true ∧ s.thumb = false ∧
    o.rd ≠ 15#4 ∧ o.rm ≠ 15#4 ∧ o.rs ≠ 15#4 := ⟨⟨.al, true, 14, 2, .lsl, 3⟩, armS, by decide⟩
theorem witness_cmpRegister : ∃ (o : CmpRegOps) (s : State), condPassed o.cond s.cpsr = true ∧ s.thumb = false ∧
    o.rn ≠ 15#4 ∧ o.rm ≠ 15#4 ∧ o.rs ≠ 15#4 := ⟨⟨.al, 14, 2, .lsl, 3⟩, armS, by decide⟩
theorem witness_aluToPc : ∃ (o : AluImmOps) (s : State), condPassed o.cond s.cpsr = true ∧ s.thumb = false ∧
    o.rd = 15#4 ∧ o.s = false ∧ fld (addSpec.value (s.reg o.rn) (rotImm o.rot o.imm8) (psrC s.cpsr)) 0 2 = 0b00#2 :=
  ⟨⟨.al, false, 0, 15, 0, 8⟩, armS, by decide⟩
theorem witness_exceptionReturn : ∃ (o : AluImmOps) (s : State) (p : Word), condPassed o.cond s.cpsr = true ∧
    s.thumb = false ∧ o.rd = 15#4 ∧ o.s = true ∧ s.spsrOf s.mode = some p :=
  ⟨⟨.al, true, 14, 15, 0, 4⟩, irqS, 0x10, by decide⟩
theorem witness_movToPc : ∃ (o : MovShiftOps) (s : State) (p : Word), condPassed o.cond s.cpsr = true ∧
    s.thumb = false ∧ o.rd = 15#4 ∧ o.s = true ∧ s.spsrOf s.mode = some p :=
  ⟨⟨.al, true, 15, 0, .lsl, 14⟩, irqS, 0x10, by decide⟩
theorem witness_clz : ∃ (o : ClzOps) (s : State), condPassed o.cond s.cpsr = true ∧ s.thumb = false ∧
    o.rd ≠ 15#4 ∧ o.rm ≠ 15#4 := ⟨⟨.al, 14, 14⟩, armS, by decide⟩
theorem witness_mul : ∃ (o : MulOps) (s : State), condPassed o.cond s.cpsr = true ∧ s.thumb = false ∧
    o.rd ≠ 15#4 ∧ o.rs ≠ 15#4 ∧ o.rm ≠ 15#4 ∧ o.rd ≠ o.rm := ⟨⟨.al, true, 0, 1, 14⟩, armS, by decide⟩
theorem witness_mla : ∃ (o : MlaOps) (s : State), condPassed o.cond s.cpsr = true ∧ s.thumb = false ∧
    o.rd ≠ 15#4 ∧ o.rn ≠ 15#4 ∧ o.rs ≠ 15#4 ∧ o.rm ≠ 15#4 ∧ o.rd ≠ o.rm :=
  ⟨⟨.al, true, 0, 1, 2, 14⟩, armS, by decide⟩
theorem witness_longMultiply : ∃ (o : MullOps) (s : State), condPassed o.cond s.cpsr = true ∧ s.thumb = false ∧
    o.rdHi ≠ 15#4 ∧ o.rdLo ≠ 15#4 ∧ o.rs ≠ 15#4 ∧ o.rm ≠ 15#4 ∧ o.rdHi ≠ o.rdLo ∧ o.rdHi ≠ o.rm ∧ o.rdLo ≠ o.rm :=
  ⟨⟨.al, true, 0, 1, 2, 14⟩, armS, by decide⟩
theorem witness_saturating : ∃ (o : QOps) (s : State), condPassed o.cond s.cpsr = true ∧ s.thumb = false ∧
    o.rd ≠ 15#4 ∧ o.rn ≠ 15#4 ∧ o.rm ≠ 15#4 := ⟨⟨.al, 0, 1, 14⟩, armS, by decide⟩
theorem witness_smul : ∃ (o : SmulXyOps) (s : State), condPassed o.cond s.cpsr = true ∧ s.thumb = false ∧
    o.rd ≠ 15#4 ∧ o.rs ≠ 15#4 ∧ o.rm ≠ 15#4 := ⟨⟨.al, 0, 1, true, false, 14⟩, armS, by decide⟩
theorem witness_smla : ∃ (o : SmlaXyOps) (s : State), condPassed o.cond s.cpsr = true ∧ s.thumb = false ∧
    o.rd ≠ 15#4 ∧ o.rn ≠ 15#4 ∧ o.rs ≠ 15#4 ∧ o.rm ≠ 15#4 := ⟨⟨.al, 0, 1, 2, true, false, 14⟩, armS, by decide⟩
theorem witness_smulw : ∃ (o : SmulWOps) (s : State), condPassed o.cond s.cpsr = true ∧ s.thumb = false ∧
    o.rd ≠ 15#4 ∧ o.rs ≠ 15#4 ∧ o.rm ≠ 15#4 := ⟨⟨.al, 0, 1, true, 14⟩, armS, by decide⟩
theorem witness_smlaw : ∃ (o : SmlaWOps) (s : State), condPassed o.cond s.cpsr = true ∧ s.thumb = false ∧
    o.rd ≠ 15#4 ∧ o.rn ≠ 15#4 ∧ o.rs ≠ 15#4 ∧ o.rm ≠ 15#4 := ⟨⟨.al, 0, 1, 2, true, 14⟩, armS, by decide⟩
theorem witness_smlal : ∃ (o : SmlalXyOps) (s : State), condPassed o.cond s.cpsr = true ∧ s.thumb = false ∧
    o.rdHi ≠ 15#4 ∧ o.rdLo ≠ 15#4 ∧ o.rs ≠ 15#4 ∧ o.rm ≠ 15#4 ∧ o.rdHi ≠ o.rdLo :=
  ⟨⟨.al, 0, 1, 2, true, false, 14⟩, armS, by decide⟩

theorem pcAligned_armS : armS.pcAligned := by unfold State.pcAligned; decide
theorem pcAligned_thumbS : thumbS.pcAligned := by unfold State.pcAligned; decide
theorem witness_armBranch : ∃ (o : BranchOps) (s : State), condPassed o.cond s.cpsr = true ∧ s.thumb = false ∧
    s.pcAligned := ⟨⟨.al, 0xFFFFFE⟩, armS, by decide, by decide, pcAligned_armS⟩
theorem witness_armBx : ∃ (o : BxOps) (s : State), condPassed o.cond s.cpsr = true ∧ s.thumb = false ∧
    exchangeable (s.reg o.rm) ∧ o.rm ≠ 15#4 :=
  ⟨⟨.al, 14⟩, withRegs [(14, 0x8003)] armS, by decide, by decide, by unfold exchangeable; decide, by decide⟩
theorem witness_armBxPc : ∃ (o : BxOps) (s : State), condPassed o.cond s.cpsr = true ∧ s.thumb = false ∧
    exchangeable (s.reg o.rm) ∧ o.rm = 15#4 :=
  ⟨⟨.al, 15⟩, armS, by decide, by decide, by unfold exchangeable; decide, by decide⟩
theorem witness_thumbBranch : ∃ (o : TCondBranchOps) (s : State), condPassed o.cond s.cpsr = true ∧
    s.thumb = true ∧ s.pcAligned := ⟨⟨.ne, 0x80⟩, thumbS, by decide, by decide, pcAligned_thumbS⟩
theorem witness_thumbBx : ∃ (o : TBxOps) (s : State), s.thumb = true ∧ exchangeable (s.reg o.rm) ∧ o.rm ≠ 15#4 :=
  ⟨⟨14⟩, withRegs [(14, 1)] thumbS, by decide, by unfold exchangeable; decide, by decide⟩
theorem witness_thumbLongBranch : thumbS.thumb = true ∧ thumbS.pcAligned := ⟨by decide, pcAligned_thumbS⟩

theorem calm_armS : calm armS := calm_of _ rfl rfl
theorem noAborts_armS : noAborts armS := noAborts_of _ rfl
theorem calm_thumbS : calm thumbS := calm_of _ rfl rfl
theorem noAborts_thumbS : noAborts thumbS := noAborts_of _ rfl
/-- The other hypotheses of the ARM transfers hold of `armS` with the condition AL. -/
theorem witness_armTransfer : condPassed .al armS.cpsr = true ∧ armS.thumb = false ∧ calm armS ∧ noAborts armS ∧
    armS.mem.wf = true := ⟨by decide, by decide, calm_armS, noAborts_armS, rfl⟩
theorem witness_memImmPre : ∃ o : MemImmPreOps, o.cond = .al ∧ o.rd ≠ 15#4 ∧
    baseFree (addressMemImmPre o armS) o.rn o.rd none :=
  ⟨⟨.al, true, true, 1, 14, 4⟩, rfl, by decide, by unfold baseFree; decide⟩
theorem witness_memImmPrePc : ∃ o : MemImmPreOps, o.cond = .al ∧ o.rd = 15#4 ∧
    baseFree (addressMemImmPre o armS) o.rn o.rd none :=
  ⟨⟨.al, true, false, 15, 15, 4⟩, rfl, by decide, by unfold baseFree; decide⟩
theorem witness_memImmPost : ∃ o : MemImmPostOps, o.cond = .al ∧ o.rd ≠ 15#4 ∧
    baseFree (addressMemImmPost o armS) o.rn o.rd none :=
  ⟨⟨.al, true, 1, 14, 4⟩, rfl, by decide, by unfold baseFree; decide⟩
theorem witness_memRegPre : ∃ o : MemRegPreOps, o.cond = .al ∧ o.rd ≠ 15#4 ∧
    baseFree (addressMemRegPre o armS) o.rn o.rd (some o.rm) :=
  ⟨⟨.al, true, true, 1, 14, 0, .ror, 3⟩, rfl, by decide, by unfold baseFree; decide⟩
theorem witness_memRegPost : ∃ o : MemRegPostOps, o.cond = .al ∧ o.rd ≠ 15#4 ∧
    baseFree (addressMemRegPost o armS) o.rn o.rd (some o.rm) :=
  ⟨⟨.al, false, 1, 14, 31, .lsl, 14⟩, rfl, by decide, by unfold baseFree; decide⟩
theorem witness_extImm : ∃ o : ExtImmOps, o.cond = .al ∧ o.rd ≠ 15#4 ∧
    baseFree (addressExtImm o armS) o.rn o.rd none :=
  ⟨⟨.al, false, true, false, 1, 14, 255⟩, rfl, by decide, by unfold baseFree; decide⟩
theorem witness_extReg : ∃ o : ExtRegOps, o.cond = .al ∧ o.rd ≠ 15#4 ∧
    baseFree (addressExtReg o armS) o.rn o.rd (some o.rm) :=
  ⟨⟨.al, true, true, true, 1, 14, 3⟩, rfl, by decide, by unfold baseFree; decide⟩
theorem witness_thumbTransfer : thumbS.thumb = true ∧ calm thumbS ∧ noAborts thumbS ∧ thumbS.mem.wf = true :=
  ⟨by decide, calm_thumbS, noAborts_thumbS, rfl⟩
theorem witness_loadToPc : (∃ o : MemImmPreOps, o.cond = .al ∧ o.rd = 15#4 ∧
      baseFree (addressMemImmPre o armS) o.rn o.rd none ∧ fld (addressMemImmPre o armS).addr 0 2 = 0b00#2) ∧
    (∃ o : MemImmPostOps, o.cond = .al ∧ o.rd = 15#4 ∧
      baseFree (addressMemImmPost o armS) o.rn o.rd none ∧ fld (addressMemImmPost o armS).addr 0 2 = 0b00#2) ∧
    (∃ o : MemRegPreOps, o.cond = .al ∧ o.rd = 15#4 ∧
      baseFree (addressMemRegPre o armS) o.rn o.rd (some o.rm) ∧ fld (addressMemRegPre o armS).addr 0 2 = 0b00#2) ∧
    (∃ o : MemRegPostOps, o.cond = .al ∧ o.rd = 15#4 ∧
      baseFree (addressMemRegPost o armS) o.rn o.rd (some o.rm) ∧ fld (addressMemRegPost o armS).addr 0 2 = 0b00#2) :=
  ⟨⟨⟨.al, true, true, 1, 15, 4⟩, rfl, rfl, by unfold baseFree; decide, by decide⟩,
    ⟨⟨.al, true, 1, 15, 2⟩, rfl, rfl, by unfold baseFree; decide, by decide⟩,
    ⟨⟨.al, true, false, 15, 15, 0, .lsl, 1⟩, rfl, rfl, by unfold baseFree; decide, by decide⟩,
    ⟨⟨.al, true, 1, 15, 0, .lsl, 2⟩, rfl, rfl, by unfold baseFree; decide, by decide⟩⟩
theorem witness_doubleImm : ∃ o : ExtImmOps, o.cond = .al ∧ bitAt o.rd 0 = false ∧ o.rd ≠ 14#4 ∧
    ((addressExtImm o armS).writeback.isSome = true → o.rn ≠ 15#4 ∧ o.rn ≠ o.rd ∧ o.rn ≠ o.rd + 1#4) :=
  ⟨⟨.al, true, true, true, 1, 12, 8⟩, by decide⟩
theorem witness_doubleReg : ∃ o : ExtRegOps, o.cond = .al ∧ bitAt o.rd 0 = false ∧ o.rd ≠ 14#4 ∧ o.rm ≠ 15#4 ∧
    ((addressExtReg o armS).writeback.isSome = true →
      o.rn ≠ 15#4 ∧ o.rn ≠ o.rd ∧ o.rn ≠ o.rd + 1#4 ∧ o.rm ≠ o.rn) ∧ o.rm ≠ o.rd ∧ o.rm ≠ o.rd + 1#4 :=
  ⟨⟨.al, true, true, true, 1, 2, 4⟩, by decide⟩
theorem witness_doubleOdd : (∃ o : ExtImmOps, condPassed o.cond armS.cpsr = true ∧ armS.thumb = false ∧
      armS.cfg.dbgen = false ∧ bitAt o.rd 0 = true) ∧
    (∃ o : ExtRegOps, condPassed o.cond armS.cpsr = true ∧ bitAt o.rd 0 = true) :=
  ⟨⟨⟨.al, true, true, false, 1, 15, 8⟩, by decide⟩, ⟨⟨.al, true, true, false, 1, 1, 2⟩, by decide⟩⟩
theorem witness_preload : ∃ o : PldRegOps, armS.thumb = false ∧ o.rm ≠ 15#4 := ⟨⟨true, 15, 0, .lsl, 14⟩, by decide⟩
/-- Memory that aborts every access. -/
def abortS : State := aborting 0 0xFFFFFFFF (withRegs [(1, 0x1000)] armS)
/-- The same in Thumb state. -/
def abortThumb : State := aborting 0 0xFFFFFFFF thumbS
theorem witness_abortState : condPassed .al abortS.cpsr = true ∧ abortS.thumb = false ∧ calm abortS ∧
    abortS.dbg.watch = .idle ∧ abortS.mem.wf = true ∧ abortThumb.thumb = true ∧ calm abortThumb ∧
    abortThumb.dbg.watch = .idle :=
  ⟨by decide, by decide, calm_of _ rfl rfl, by decide, by decide, by decide, calm_of _ rfl rfl, by decide⟩
theorem witness_abortedLoad : ∃ o : MemImmPreOps, baseFree (addressMemImmPre o abortS) o.rn o.rd none ∧
    o.rd = 15#4 ∧ fld (addressMemImmPre o abortS).addr 0 2 = 0b00#2 ∧
    abortsAt abortS .read .word (addressMemImmPre o abortS).addr false = true :=
  ⟨⟨.al, true, true, 1, 15, 4⟩, by unfold baseFree; decide, by decide⟩
theorem witness_abortedPost : ∃ o : MemImmPostOps, baseFree (addressMemImmPost o abortS) o.rn o.rd none ∧
    o.rd ≠ 15#4 ∧ abortsAt abortS .read .byte (addressMemImmPost o abortS).addr true = true ∧
    abortsAt abortS .write .byte (addressMemImmPost o abortS).addr true = true :=
  ⟨⟨.al, true, 1, 0, 4⟩, by unfold baseFree; decide, by decide⟩
theorem witness_abortedRegister : (∃ o : MemRegPreOps, baseFree (addressMemRegPre o abortS) o.rn o.rd (some o.rm) ∧
      o.rd ≠ 15#4 ∧ abortsAt abortS .read .word (addressMemRegPre o abortS).addr false = true) ∧
    (∃ o : MemRegPostOps, baseFree (addressMemRegPost o abortS) o.rn o.rd (some o.rm) ∧ o.rd = 15#4 ∧
      abortsAt abortS .write .word (addressMemRegPost o abortS).addr true = true) :=
  ⟨⟨⟨.al, true, true, 1, 0, 0, .lsl, 2⟩, by unfold baseFree; decide, by decide⟩,
    ⟨⟨.al, true, 1, 15, 0, .lsl, 2⟩, by unfold baseFree; decide, by decide⟩⟩
theorem witness_abortedHalf : (∃ o : ExtImmOps, baseFree (addressExtImm o abortS) o.rn o.rd none ∧ o.rd ≠ 15#4 ∧
      abortsAt abortS .read .half (addressExtImm o abortS).addr false = true) ∧
    (∃ o : ExtRegOps, baseFree (addressExtReg o abortS) o.rn o.rd (some o.rm) ∧ o.rd ≠ 15#4 ∧
      abortsAt abortS .write .half (addressExtReg o abortS).addr false = true) :=
  ⟨⟨⟨.al, true, true, false, 1, 0, 1⟩, by unfold baseFree; decide, by decide⟩,
    ⟨⟨.al, false, true, false, 1, 0, 2⟩, by unfold baseFree; decide, by decide⟩⟩
theorem witness_abortedThumb : (∃ o : TMemImmOps, abortsAt abortThumb .read .word (addressTImm o 2 abortThumb) false = true ∧
      abortsAt abortThumb .write .word (addressTImm o 2 abortThumb) false = true) :=
  ⟨⟨31, 1, 0⟩, by decide⟩
theorem witness_abortedThumbBlock : (∃ o : TMultiOps, listed (o.list.setWidth 16) 1 = true ∧
      slotAborts abortThumb .read (abortThumb.reg (low o.rb)) (o.list.setWidth 16) 1 = true ∧
      slotAborts abortThumb .write (abortThumb.reg (low o.rb)) (o.list.setWidth 16) 1 = true) ∧
    (∃ o : TStackOps, listed (bit o.extra ++ 0#7 ++ o.list : BitVec 16) 15 = true ∧
      slotAborts abortThumb .read (abortThumb.reg 13) (bit o.extra ++ 0#7 ++ o.list : BitVec 16) 15 = true ∧
      listed (0b0#1 ++ bit o.extra ++ 0#6 ++ o.list : BitVec 16) 14 = true ∧
      slotAborts abortThumb .write (firstAddress true false (abortThumb.reg 13)
        (count (0b0#1 ++ bit o.extra ++ 0#6 ++ o.list : BitVec 16))) (0b0#1 ++ bit o.extra ++ 0#6 ++ o.list : BitVec 16)
        14 = true) ∧ abortThumb.mem.wf = true :=
  ⟨⟨⟨0, 3⟩, by decide⟩, ⟨⟨true, 1⟩, by decide⟩, by decide⟩
/-- Memory that aborts the second word of a transfer from 0x1000. -/
def abortSecond : State := aborting 0x1004 0x1007 (withRegs [(1, 0x1000)] (withWords blockData armS))
theorem witness_abortedBlock : ∃ o : LdmOps, condPassed o.cond abortSecond.cpsr = true ∧ abortSecond.thumb = false ∧
    calm abortSecond ∧ abortSecond.dbg.watch = .idle ∧ abortSecond.mem.wf = true ∧ o.rn ≠ 15#4 ∧
    listed o.list 2 = true ∧
    slotAborts abortSecond .read (firstAddress o.p o.u (abortSecond.reg o.rn) (count o.list)) o.list 2 = true ∧
    slotAborts abortSecond .write (firstAddress o.p o.u (abortSecond.reg o.rn) (count o.list)) o.list 2 = true :=
  ⟨⟨.al, false, true, true, 1, 0xD⟩, by decide, by decide, calm_of _ rfl rfl, by decide⟩
theorem witness_abortedUserBank : ∃ (o : LdmOps) (p : Ldm15Ops), o.w = false ∧ p.w = false ∧ o.rn ≠ 15#4 ∧
    p.rn ≠ 15#4 ∧ abortSecond.mode ≠ .usr ∧ abortSecond.mode ≠ .sys ∧
    slotAborts abortSecond .write (firstAddress o.p o.u (abortSecond.reg o.rn) (count o.list)) o.list 14 = true ∧
    slotAborts abortSecond .read
      (firstAddress p.p p.u (abortSecond.reg p.rn) (count (p.list.setWidth 16))) (p.list.setWidth 16) 14 = true :=
  ⟨⟨.al, false, true, false, 1, 0x6000⟩, ⟨.al, false, true, false, 1, 0x6000⟩, by decide⟩
-- 43_load_store.md R272: LDRD r2, [r1] with the second word aborted writes neither register
theorem test_ldrd_aborted : after (runArm 0xE1C120D0 (withRegs [(2, 7), (3, 8)] { abortSecond with pc := 0x100 }))
    (fun t => (t.reg 2, t.reg 3, t.reg 14, t.pc)) = some (7, 8, 0x108, 0x10) := by decide
theorem witness_abortedDouble : ∃ o : ExtImmOps, bitAt o.rd 0 = false ∧ o.rd ≠ 14#4 ∧
    ((addressExtImm o abortSecond).writeback.isSome = true → o.rn ≠ 15#4 ∧ o.rn ≠ o.rd ∧ o.rn ≠ o.rd + 1#4) ∧
    abortsAt abortSecond .read .word (addressExtImm o abortSecond).addr false = false ∧
    abortsAt abortSecond .read .word ((addressExtImm o abortSecond).addr + 4) false = true ∧
    abortsAt abortSecond .write .word ((addressExtImm o abortSecond).addr + 4) false = true :=
  ⟨⟨.al, false, true, false, 1, 2, 8⟩, by decide⟩
/-- Memory that aborts reads but not writes, and the reverse. -/
def abortReads : State := { abortS with cfg := { Cfg.default with aborts := [⟨0, 0xFFFFFFFF, [.read], [], [], []⟩] } }
/-- Writes abort. -/
def abortWrites : State := { abortS with cfg := { Cfg.default with aborts := [⟨0, 0xFFFFFFFF, [.write], [], [], []⟩] } }
theorem witness_abortedSwap : ∃ o : SwpOps, condPassed o.cond abortReads.cpsr = true ∧ o.rn ≠ 15#4 ∧ o.rd ≠ 15#4 ∧
    o.rm ≠ 15#4 ∧ o.rn ≠ o.rd ∧ abortsAt abortReads .read .word (abortReads.reg o.rn) false = true ∧
    abortsAt abortReads .write .word (abortReads.reg o.rn) false = false ∧ abortReads.cfg.swapWrites = true ∧
    abortsAt abortWrites .write .byte (abortWrites.reg o.rn) false = true := ⟨⟨.al, 1, 0, 2⟩, by decide⟩
-- 44_load_store_multiple_swap.md R292: both halves of the swap are made, Rd is left alone
theorem test_swp_aborted : after (runArm 0xE1010092 (withRegs [(0, 9), (2, 5)] { abortReads with pc := 0x100 }))
    (fun t => (t.reg 0, t.bankReg .usr 0, t.mem.word false 0x1000, t.reg 14, t.pc)) = some (9, 9, 5, 0x108, 0x10) := by
  decide
/-- A coprocessor that takes or gives two words, the second of which aborts. -/
def abortCp : State := { abortSecond with cpScript := [.accept 1 [5, 6]] }
theorem witness_abortedCoprocessor : (∃ o : LdcOps, condPassed o.cond abortCp.cpsr = true ∧ o.cp ≠ 14#4 ∧
      ((mode5 o.p o.u o.w o.imm8 (abortCp.reg o.rn)).writeback.isSome = true → o.rn ≠ 15#4) ∧
      wordAborts abortCp .read (mode5 o.p o.u o.w o.imm8 (abortCp.reg o.rn)).addr 0 = false ∧
      wordAborts abortCp .read (mode5 o.p o.u o.w o.imm8 (abortCp.reg o.rn)).addr 1 = true ∧
      wordAborts abortCp .write (mode5 o.p o.u o.w o.imm8 (abortCp.reg o.rn)).addr 1 = true) ∧
    accepts abortCp 1 [5, 6] [] ∧ abortCp.thumb = false ∧ abortCp.dbg.watch = .idle ∧ abortCp.mem.wf = true :=
  ⟨⟨⟨.al, false, true, false, true, 1, 0, 7, 2⟩, by decide⟩, rfl, by decide⟩
theorem calm_abortCp : calm abortCp := calm_of _ rfl rfl
-- 46_coprocessor.md R339: LDC p7, c0, [r1], #8 with the second word aborted
theorem test_ldc_aborted : after (runArm 0xECB10702 { abortCp with pc := 0x100 })
    (fun t => (t.cpEvents.drop 1, t.bankReg .svc 1, t.reg 14, t.pc)) = some ([.received 0xA0], 0x1000, 0x108, 0x10) := by
  decide
theorem witness_ldm1 : ∃ o : LdmOps, o.cond = .al ∧ o.list ≠ 0#16 ∧ o.rn ≠ 15#4 ∧
    (o.w = true → listed o.list o.rn = false) ∧ listed o.list 15#4 = true :=
  ⟨⟨.al, true, false, true, 13, 0x8001⟩, by decide⟩
theorem witness_ldm1NoPc : ∃ o : LdmOps, o.cond = .al ∧ o.list ≠ 0#16 ∧ o.rn ≠ 15#4 ∧
    (o.w = true → listed o.list o.rn = false) ∧ listed o.list 15#4 = false :=
  ⟨⟨.al, false, true, false, 0, 0x7FFF⟩, by decide⟩
theorem witness_ldm2 : ∃ o : Ldm15Ops, o.cond = .al ∧ o.list ≠ 0#15 ∧ o.rn ≠ 15#4 ∧ o.w = false ∧
    irqS.mode ≠ .usr ∧ irqS.mode ≠ .sys ∧ irqS.thumb = false := ⟨⟨.al, false, true, false, 0, 0x6000⟩, by decide⟩
theorem witness_ldm3 : ∃ (o : Ldm15Ops) (p : Word), condPassed o.cond irqS.cpsr = true ∧ o.rn ≠ 15#4 ∧
    (o.w = true → listed (0b1#1 ++ o.list : BitVec 16) o.rn = false) ∧ irqS.spsrOf irqS.mode = some p :=
  ⟨⟨.al, false, true, true, 13, 0⟩, 0x10, by decide⟩
theorem witness_stm1 : ∃ o : LdmOps, o.cond = .al ∧ o.list ≠ 0#16 ∧ o.rn ≠ 15#4 :=
  ⟨⟨.al, true, false, true, 13, 0xFFFF⟩, by decide⟩
theorem witness_stm2 : ∃ o : LdmOps, o.cond = .al ∧ o.list ≠ 0#16 ∧ o.rn ≠ 15#4 ∧ o.w = false ∧
    irqS.mode ≠ .usr ∧ irqS.mode ≠ .sys := ⟨⟨.al, true, false, false, 13, 0xFFFF⟩, by decide⟩
theorem witness_thumbMultiple : ∃ o : TMultiOps, o.list ≠ 0#8 ∧ listed (o.list.setWidth 16) (low o.rb) = false :=
  ⟨⟨7, 0x7F⟩, by decide⟩
theorem witness_thumbMultipleBase : ∃ o : TMultiOps, o.list ≠ 0#8 ∧ listed (o.list.setWidth 16) (low o.rb) = true :=
  ⟨⟨0, 3⟩, by decide⟩
-- R428: the loaded word wins
theorem test_t_ldmia_base : after (runThumb 0xC803 (withRegs [(0, 0x1000)] (withWords blockData State.reset)))
    (fun t => (t.reg 0, t.reg 1)) = some (0xA0, 0xA1) := by decide
theorem witness_pushPop : ∃ o : TStackOps, (0b0#1 ++ bit o.extra ++ 0#6 ++ o.list : BitVec 16) ≠ 0#16 ∧
    (bit o.extra ++ 0#7 ++ o.list : BitVec 16) ≠ 0#16 := ⟨⟨true, 0⟩, by decide⟩
theorem witness_pushPopLow : ∃ o : TStackOps, o.extra = false ∧
    (0b0#1 ++ bit o.extra ++ 0#6 ++ o.list : BitVec 16) ≠ 0#16 ∧
    (bit o.extra ++ 0#7 ++ o.list : BitVec 16) ≠ 0#16 := ⟨⟨false, 1⟩, by decide⟩
theorem witness_swap : ∃ o : SwpOps, o.cond = .al ∧ o.rn ≠ 15#4 ∧ o.rd ≠ 15#4 ∧ o.rm ≠ 15#4 ∧ o.rn ≠ o.rd ∧
    o.rn ≠ o.rm := ⟨⟨.al, 2, 0, 0⟩, by decide⟩
theorem witness_mrs : ∃ o : MrsOps, condPassed o.cond irqS.cpsr = true ∧ irqS.thumb = false ∧ o.rd ≠ 15#4 ∧
    o.spsr = false := ⟨⟨.al, false, 14⟩, by decide⟩
theorem witness_mrsSpsr : ∃ (o : MrsOps) (p : Word), condPassed o.cond irqS.cpsr = true ∧ irqS.thumb = false ∧
    o.rd ≠ 15#4 ∧ o.spsr = true ∧ irqS.spsrOf irqS.mode = some p := ⟨⟨.al, true, 14⟩, 0x10, by decide⟩
theorem witness_msr : ∃ o : MsrRegOps, condPassed o.cond userS.cpsr = true ∧ userS.thumb = false ∧ o.rm ≠ 15#4 ∧
    o.spsr = false := ⟨⟨.al, false, 0b1111, 0⟩, by decide⟩
theorem witness_msrSpsr : ∃ (o : MsrImmOps) (p : Word), condPassed o.cond irqS.cpsr = true ∧ irqS.thumb = false ∧
    o.spsr = true ∧ irqS.spsrOf irqS.mode = some p := ⟨⟨.al, true, 0b1000, 0, 0⟩, 0x10, by decide⟩
theorem witness_swi : condPassed .al armS.cpsr = true ∧ armS.thumb = false ∧ thumbS.thumb = true := by decide
/-- Debug enabled: after reset in monitor mode, and in halt mode. -/
def monitorS : State := { armS with cfg := { Cfg.default with dbgen := true } }
/-- Halt mode. -/
def haltS : State := { monitorS with ice := { Ice.afterReset with control := 0 } }
theorem witness_bkptException : (armS.cfg.dbgen = false ∨ bitAt armS.ice.control 4 = true) ∧
    (monitorS.cfg.dbgen = false ∨ bitAt monitorS.ice.control 4 = true) := by decide
theorem witness_bkptHalt : haltS.cfg.dbgen = true ∧ bitAt haltS.ice.control 4 = false := by decide
/-- User mode with both interrupts asserted and enabled. -/
def interruptS : State := { userS with pins := { Pins.inactive with nFIQ := false, nIRQ := false } }
theorem witness_fiq : plainBoundary interruptS ∧ interruptS.pins.nFIQ = false ∧ psrF interruptS.cpsr = false :=
  ⟨plain_of _ (by decide), by decide⟩
theorem witness_irq : ∃ s : State, plainBoundary s ∧ psrF s.cpsr = true ∧ s.pins.nFIQ = false ∧
    s.pins.nIRQ = false ∧ psrI s.cpsr = false :=
  ⟨{ interruptS with cpsr := 0x50 }, plain_of _ (by decide), by decide⟩
theorem witness_undefinedWord : undisturbed (placed 0xE7F000F0) ∧ headBits (placed 0xE7F000F0) 0xE7F000F0 ∧
    decoded (placed 0xE7F000F0) 0xE7F000F0 = .error .archUndefined ∧
    Cond.ofBits (fld 0xE7F000F0#32 28 4) = some .al ∧ condPassed .al (placed 0xE7F000F0).cpsr = true :=
  ⟨undisturbed_placed _, headBits_of _ _ (by decide) rfl (by decide), by decide⟩
theorem witness_undefinedFails : undisturbed (placed 0x07F000F0) ∧ headBits (placed 0x07F000F0) 0x07F000F0 ∧
    decoded (placed 0x07F000F0) 0x07F000F0 = .error .archUndefined ∧ (placed 0x07F000F0).thumb = false ∧
    Cond.ofBits (fld 0x07F000F0#32 28 4) = some .eq ∧ condPassed .eq (placed 0x07F000F0).cpsr = false :=
  ⟨undisturbed_placed _, headBits_of _ _ (by decide) rfl (by decide), by decide⟩
theorem witness_undefinedUnconditional : undisturbed (placed 0xF7F000F0) ∧
    headBits (placed 0xF7F000F0) 0xF7F000F0 ∧ (∃ e, decoded (placed 0xF7F000F0) 0xF7F000F0 = .error e ∧
      e ≠ .breakpointCondition) ∧ Cond.ofBits (fld 0xF7F000F0#32 28 4) = none :=
  ⟨undisturbed_placed _, headBits_of _ _ (by decide) rfl (by decide), ⟨.unconditional, by decide⟩, by decide⟩
theorem witness_undefinedThumb : ∃ s : State, undisturbed s ∧ headBits s 0xDE00 ∧ s.thumb = true ∧
    ∃ e, decoded s 0xDE00 = .error e ∧ e ≠ .breakpointCondition :=
  ⟨thumbS.withFetchWord 16 0xDE00, undisturbed_of _ (plain_of _ (by decide)) (by decide),
    headBits_of _ _ (by decide) rfl (by decide), by decide, ⟨.thumbCond, by decide⟩⟩
-- 95_test_vectors.md, undefined words of cond = 1111
theorem test_undefined_unconditional : after (runArm 0xF7F000F0 { State.reset with pc := 0x100 })
    (fun t => (t.reg 14, t.cpsr, t.pc)) = some (0x104, 0xDB, 4) := by decide
theorem witness_prefetchAbort : undisturbed abortS ∧ abortS.liveQueue = [] ∧ abortS.thumb = false ∧
    abortS.cfg.abort .fetch .word (align4 abortS.pc) abortS.privileged (~~~psrM abortS.cpsr) = true :=
  ⟨undisturbed_of _ (plain_of _ (by decide)) (by decide), by decide⟩
theorem witness_prefetchAbortQueued : ∃ s : State, undisturbed s ∧
    ∃ f rest, s.liveQueue = f :: rest ∧ f.aborted = true :=
  ⟨{ armS with fetchQ := [{ entry 0xE3A01005 with aborted := true }] },
    undisturbed_of _ (plain_of _ (by decide)) (by decide), _, [], rfl, rfl⟩
theorem witness_refusedBreakpoint : undisturbed (placed 0x01200070) ∧ headBits (placed 0x01200070) 0x01200070 ∧
    (placed 0x01200070).thumb = false ∧ fld 0x01200070#32 20 8 = 0x12#8 ∧ fld 0x01200070#32 4 4 = 0x7#4 ∧
    fld 0x01200070#32 28 4 ≠ 0xE#4 ∧ fld 0x01200070#32 28 4 ≠ 0xF#4 :=
  ⟨undisturbed_placed _, headBits_of _ _ (by decide) rfl (by decide), by decide⟩
-- 30_encoding.md R118: BKPT is allocated with cond = 1110 only
theorem test_bkpt_condition : refusalOf (runArm 0x01200070 State.reset) = some .breakpointCondition := by decide
/-- MOV r0, r13 directly after a user-bank transfer in Supervisor mode. -/
def hazardS : State := { placed 0xE1A0000D with bankHazard := true }
theorem witness_refusedBanked : undisturbed hazardS ∧ headBits hazardS 0xE1A0000D ∧
    decoded hazardS 0xE1A0000D = .ok (.movShift ⟨.al, false, 0, 0, .lsl, 13⟩) ∧ hazardS.bankHazard = true ∧
    passes (condOf (.movShift ⟨.al, false, 0, 0, .lsl, 13⟩)) hazardS ∧
    (sources (.movShift ⟨.al, false, 0, 0, .lsl, 13⟩)).any (banked hazardS.mode) = true :=
  ⟨undisturbed_of _ (plain_of _ (by decide)) (by decide), headBits_of _ _ (by decide) rfl (by decide), by decide,
    by decide, fun k h => by cases h; rfl, by decide⟩
-- R283: an interrupt between uses the note up
theorem test_interrupt_clears_hazard : after (step { hazardS with cpsr := 0x13, pins := { Pins.inactive with nIRQ := false } })
    (fun t => (t.bankHazard, t.pc)) = some (false, 0x18) := by decide
theorem witness_absent : isCoprocessor (.mcr ⟨.al, 0, 0, 0, 15, 0, 0⟩) (some .al) 15 ∧
    passes (some .al) armS ∧ armS.cpScript = [] ∧ armS.cfg.dbgen = false :=
  ⟨.inr (.inl ⟨_, .inl rfl, rfl, rfl⟩), fun k h => by cases h; rfl, rfl, rfl⟩
theorem witness_absentAnswer : isCoprocessor (.stc2 ⟨true, true, false, false, 1, 2, 3, 4⟩) none 3 ∧
    passes none armS ∧ ({ armS with cpScript := [.absent] } : State).cpScript = .absent :: [] :=
  ⟨.inr (.inr (.inr (.inr (.inr (.inr ⟨_, .inr rfl, rfl, rfl⟩))))), (fun k h => by cases h), rfl⟩
theorem witness_commsOnly : isCoprocessor (.mcr ⟨.al, 0, 3, 0, 14, 0, 0⟩) (some .al) 14 ∧
    ¬ commsForm (.mcr ⟨.al, 0, 3, 0, 14, 0, 0⟩) := by
  refine ⟨.inr (.inl ⟨_, .inl rfl, rfl, rfl⟩), ?_⟩
  rintro ⟨o, h, -, -, -, -, h'⟩
  rcases h with h | h <;> cases h
  revert h'; decide
/-- A coprocessor that answers WAIT, and one that takes two words. -/
def waitS : State := { armS with cpScript := [.wait] }
/-- A coprocessor that accepts. -/
def acceptS : State := { armS with cpScript := [.accept 1 [5, 6]] }
theorem witness_busy : isCoprocessor (.mrrc ⟨.al, 0, 1, 7, 0, 0⟩) (some .al) 7 ∧ passes (some .al) waitS ∧
    waitS.cpScript = .wait :: [] :=
  ⟨.inr (.inr (.inl ⟨_, .inr rfl, rfl, rfl⟩)), fun k h => by cases h; rfl, rfl⟩
theorem witness_busyWatched : ({ waitS with dbg := { Debug.idle with watch := .armed 0b0110 } } : State).dbg.watch = .armed 0b0110 ∧
    (∀ m, waitS.dbg.watch ≠ .armed m) := ⟨rfl, fun m h => by cases h⟩
theorem witness_coprocessor : accepts acceptS 1 [5, 6] [] ∧ acceptS.thumb = false ∧ calm acceptS ∧
    noAborts acceptS ∧ acceptS.mem.wf = true ∧ condPassed .al acceptS.cpsr = true ∧ (7#4 : BitVec 4) ≠ 14#4 :=
  ⟨rfl, by decide, calm_of _ rfl rfl, noAborts_of _ rfl, rfl, by decide, by decide⟩
-- 46_coprocessor.md R343: p15 sees the word in the GO cycles; 20_memory.md R86, R95: in a C cycle
theorem test_mcr_p15 : after (runArm 0xEE010F10 (withRegs [(0, 9)] acceptS))
    (fun t => (t.cpEvents.drop 1, t.bus.map fun c => (c.kind, c.write, c.data))) =
    some ([.driven 9, .received 9], [(.coprocessor, true, 9)]) := by decide
-- R86, R336: MRRC p7 takes its two words in two C cycles
theorem test_mrrc_cycles : after (runArm 0xEC510700 acceptS)
    (fun t => (t.reg 0, t.reg 1, t.bus.map fun c => (c.kind, c.write, c.data))) =
    some (5, 6, [(.coprocessor, false, 5), (.coprocessor, false, 6)]) := by decide
-- R86: STMIA r0, {r1, r2} is an N cycle and an S cycle
theorem test_stm_cycles : after (runArm 0xE8800006 (withRegs [(0, 0x1000)] armS)) (fun t => t.bus.map (·.kind)) =
    some [.nonsequential, .sequential] := by decide
theorem witness_mcrr : ∃ o : McrrOps, condPassed o.cond acceptS.cpsr = true ∧ o.cp ≠ 14#4 ∧ o.rd ≠ 15#4 ∧
    o.rn ≠ 15#4 ∧ o.rd ≠ o.rn := ⟨⟨.al, 14, 0, 7, 0, 0⟩, by decide⟩
theorem witness_ldc : ∃ o : LdcOps, condPassed o.cond acceptS.cpsr = true ∧ o.cp ≠ 14#4 ∧
    ((mode5 o.p o.u o.w o.imm8 (acceptS.reg o.rn)).writeback.isSome = true → o.rn ≠ 15#4) :=
  ⟨⟨.al, true, true, false, true, 1, 0, 7, 4⟩, by decide⟩
theorem witness_comms : armS.pins.nTRST = true ∧
    (∃ o : McrOps, condPassed o.cond armS.cpsr = true ∧ o.cp = 14#4 ∧ o.op1 = 0#3 ∧ o.op2 = 0#3 ∧
      o.crm = 0#4 ∧ o.rd ≠ 15#4 ∧ o.crn = 0#4) ∧
    (∃ o : McrOps, condPassed o.cond armS.cpsr = true ∧ o.cp = 14#4 ∧ o.op1 = 0#3 ∧ o.op2 = 0#3 ∧
      o.crm = 0#4 ∧ o.rd ≠ 15#4 ∧ o.crn = 1#4) ∧
    (∃ o : McrOps, condPassed o.cond armS.cpsr = true ∧ o.cp = 14#4 ∧ o.op1 = 0#3 ∧ o.op2 = 0#3 ∧
      o.crm = 0#4 ∧ o.rd ≠ 15#4 ∧ o.crn = 2#4) :=
  ⟨by decide, ⟨⟨.al, 0, 0, 0, 14, 0, 0⟩, by decide⟩, ⟨⟨.al, 0, 1, 0, 14, 0, 0⟩, by decide⟩, ⟨⟨.al, 0, 2, 0, 14, 0, 0⟩, by decide⟩⟩
theorem witness_commsFlags : ∃ o : McrOps, condPassed o.cond armS.cpsr = true ∧ o.cp = 14#4 ∧ o.op1 = 0#3 ∧ o.op2 = 0#3 ∧
    o.crm = 0#4 ∧ o.rd = 15#4 ∧ o.crn = 1#4 := ⟨⟨.al, 0, 1, 15, 14, 0, 0⟩, by decide⟩
theorem witness_thumbAddress : thumbS.thumb = true := by decide
theorem witness_thumbHigh : (⟨8, 14⟩ : THiOps).rd ≠ 15#4 ∧ (⟨8, 15⟩ : THiOps).rd = 15#4 ∧ thumbS.thumb = true := by
  decide
theorem witness_idcode : armS.tap.instr = .idcode ∧ (List.replicate 32 false).length = 32 := by decide
theorem witness_scanChain2 : ∃ (s : State) (a : BitVec 5) (d : Word), s.tap.instr = .intest ∧ s.tap.chain = 2#5 ∧
    s.tap.scan2 = (0b1#1 ++ a ++ d : BitVec 38) :=
  ⟨{ armS with tap := { Tap.afterReset with ir := 0b1100, chain := 2, scan2 := 0x2000000000 } }, 0, 0, by decide⟩
/-- A debug request in halt mode. -/
def requestS : State := { haltS with pins := { Pins.inactive with edbgrq := true } }
theorem witness_debugRequest : quietPins requestS ∧ requestS.cfg.dbgen = true ∧ requestS.dbg.active = false ∧
    requestS.dbg.watch = .idle ∧ Mode.ofBits (psrM requestS.cpsr) ≠ none ∧ requestS.ice.monitor = false ∧
    requestS.pins.edbgrq = true := ⟨by unfold quietPins; decide, by decide⟩
/-- Monitor mode with debug control bit 1 set, EDBGRQ LOW. -/
def requestBitS : State := { monitorS with ice := { Ice.afterReset with control := 0b010010 } }
theorem witness_monitorRequest : quietPins requestBitS ∧ requestBitS.cfg.dbgen = true ∧ requestBitS.dbg.active = false ∧
    requestBitS.dbg.watch = .idle ∧ Mode.ofBits (psrM requestBitS.cpsr) ≠ none ∧ requestBitS.ice.monitor = true ∧
    requestBitS.ice.comparing = false ∧ requestBitS.pins.edbgrq = false ∧ bitAt requestBitS.ice.control 1 = true :=
  ⟨by unfold quietPins; decide, by decide⟩
theorem witness_monitorAllowed : monitorAllowed requestBitS := by
  refine ⟨by decide, by decide, fun h => ?_⟩
  revert h; decide
-- 60_exceptions.md R560, R564: debug control bit 1 enters debug state in monitor mode
theorem test_monitor_request : after (step requestBitS) (fun t => (t.dbg.active, t.ice.moe, t.cpsr)) =
    some (true, 0b1001, 0xD3) := by decide
/-- Core reset in halt mode with vector catch bit 0 set, about to be released. -/
def releaseS (nTRST : Bool) : State :=
  { haltS with ice := { Ice.afterReset with control := 0, vectorCatch := 1 }
               pins := { Pins.inactive with nRESET := false }
               pinStream := [⟨{ Pins.inactive with nTRST := nTRST }, []⟩]
               dbg := haltS.resetCore.dbg }
-- R604: the fetch from the reset vector is breakpointed, unless debug reset is applied at the release
theorem test_reset_caught : after (step (releaseS true)) (fun t => (t.dbg.active, t.ice.moe, t.pc)) =
    some (true, 0b0100, 0xC) := by decide
theorem test_reset_not_caught : after (step (releaseS false)) (fun t => (t.dbg.active, t.pc)) = some (false, 4) := by
  decide
theorem witness_boundary : armS.cfg.dbgen = false := rfl
/-- EmbeddedICE-RT with unit 1 on the data interface, its data and control not compared. -/
def unit1On (control : BitVec 9) (a mask : Word) : Ice :=
  { Ice.afterReset with control := 0, offLatch := false, unit1 := { WatchUnit.afterReset with
      control := control, addrValue := a, addrMask := mask, dataMask := 0xFFFFFFFF, controlMask := 0b11110111 } }
-- R555: the RANGE input of unit 0 compares the bus that unit 1's bit 3 selects
theorem test_range_bus : ((unit1On 0b000001000 0x1000 0).rangeOut ⟨false, 0x1000, 0x2000, 0, true, 0, false⟩,
    (unit1On 0b000001000 0x1000 0).rangeOut ⟨false, 0x2000, 0x1000, 0, true, 0, false⟩) = (false, true) := by decide
-- R555, R567: a system speed LDR r0, [r1] is compared; debug state is entered again with MOE 0b1011
theorem test_system_speed_compared : after (restartCore { haltS with
      ice := unit1On 0b100001000 0 0xFFFFFFFF
      dbg := { Debug.idle with active := true, pending := some 0xE5910000, pendingSystem := true } })
    (fun t => (t.ice.unit1.chainOut, t.ice.moe, t.dbg.active, t.dbg.watch)) = some (true, 0b1011, true, .idle) := by decide
/-- In halt mode the access before the instruction at the pc was watchpointed. -/
def watchedS (w : Word) : State :=
  { withWords [(0x100, w)] { haltS with pc := 0x100 } with dbg := { Debug.idle with watch := .hit 0b0110 } }
-- 46_coprocessor.md R329, held by watchRuns = false: the instruction after the access, MOV r1, #5, is not executed
theorem test_watch_not_executed : after (step { watchedS 0xE3A01005 with cfg := { haltS.cfg with watchRuns := false } })
    (fun t => (t.dbg.active, t.ice.moe, t.reg 1)) = some (true, 0b0110, 0) := by decide
-- R563, R328: the entry waits for a busy-waiting CDP p7
theorem test_watch_waits : after (step { watchedS 0xEE000700 with cpScript := [.wait] })
    (fun t => (t.dbg.watch, t.dbg.active, t.pc)) = some (.waiting 0b0110, false, 0x100) := by decide
-- R328, R569: an IRQ has it abandoned and is entered before debug state, r14_irq = A + 4
theorem test_watch_wait_abandoned : after (step { watchedS 0xEE000700 with
      cpScript := [.wait], cpsr := 0x13, pins := { Pins.inactive with nIRQ := false },
      dbg := { Debug.idle with watch := .waiting 0b0110 } })
    (fun t => (t.dbg.active, t.ice.moe, psrM t.cpsr, t.bankReg .irq 14)) = some (true, 0b0110, 0b10010, 0x104) := by decide
-- R569: BKPT directly after a watchpointed access, with an IRQ pending
theorem test_watch_bkpt_irq : after (step { watchedS 0xE1200070 with
      cpsr := 0x13, pins := { Pins.inactive with nIRQ := false } })
    (fun t => (t.dbg.active, t.dbg.entryBoth, psrM t.cpsr, t.bankReg .irq 14)) = some (true, true, 0b10010, 0x104) := by
  decide
-- 60_exceptions.md R561, R564: entry on EDBGRQ in halt mode
theorem test_debug_request : after (step requestS) (fun t => (t.dbg.active, t.ice.moe, t.cpsr)) =
    some (true, 0b1010, 0xD3) := by decide
theorem test_bkpt_halt : after (runArm 0xE1200070 haltS) (fun t => (t.dbg.active, t.ice.moe)) =
    some (true, 0b0011) := by decide
theorem witness_debugReturn : haltS.thumb = false ∧ haltS.pcAligned := ⟨by decide, by unfold State.pcAligned; decide⟩

theorem witness_refusedShifts : (∃ o : AluRegOps, condPassed o.cond armS.cpsr = true ∧ o.rs = 15#4) ∧
    (∃ o : MovRegOps, condPassed o.cond armS.cpsr = true ∧ o.rd = 15#4) ∧
    (∃ o : CmpRegOps, condPassed o.cond armS.cpsr = true ∧ o.rn = 15#4) :=
  ⟨⟨⟨.al, true, 1, 14, 15, .ror, 3⟩, by decide⟩, ⟨⟨.al, true, 15, 2, .lsl, 3⟩, by decide⟩,
    ⟨⟨.al, 15, 2, .lsl, 3⟩, by decide⟩⟩
theorem witness_multiplyAlternatives : (∃ o : MulOps, o.cond = .al ∧ o.rd ≠ 15#4 ∧ o.rs ≠ 15#4 ∧ o.rd = o.rm) ∧
    (∃ o : MlaOps, o.cond = .al ∧ o.rd ≠ 15#4 ∧ o.rn ≠ 15#4 ∧ o.rs ≠ 15#4 ∧ o.rd = o.rm) ∧
    (∃ o : MullOps, o.cond = .al ∧ o.rdHi ≠ 15#4 ∧ o.rs ≠ 15#4 ∧ o.rm ≠ 15#4 ∧ o.rdHi = o.rdLo) ∧
    (∃ o : SmlalXyOps, o.cond = .al ∧ o.rdHi ≠ 15#4 ∧ o.rs ≠ 15#4 ∧ o.rm ≠ 15#4 ∧ o.rdHi = o.rdLo) ∧
    (∃ o : TAluOps, o.rd = o.rs ∧ thumbS.thumb = true) :=
  ⟨⟨⟨.al, true, 0, 1, 0⟩, by decide⟩, ⟨⟨.al, true, 0, 1, 2, 0⟩, by decide⟩, ⟨⟨.al, true, 0, 0, 1, 2⟩, by decide⟩,
    ⟨⟨.al, 0, 0, 1, true, true, 2⟩, by decide⟩, ⟨⟨3, 3⟩, by decide⟩⟩
theorem witness_refusedOperands : (⟨.al, false, 1, 2, 15⟩ : MulOps).rm = 15#4 ∧
    (⟨.al, false, 1, 2, 3, 15⟩ : MlaOps).rm = 15#4 ∧ (⟨.al, false, 15, 2, 3, 4⟩ : MullOps).rdHi = 15#4 ∧
    (⟨.al, 15, 1, 2⟩ : QOps).rn = 15#4 ∧ (⟨.al, 1, 2, true, true, 15⟩ : SmulXyOps).rm = 15#4 ∧
    (⟨.al, 1, 2, 15, true, true, 3⟩ : SmlaXyOps).rs = 15#4 ∧ (⟨.al, 15, 1, true, 2⟩ : SmulWOps).rd = 15#4 ∧
    (⟨.al, 1, 15, 2, true, 3⟩ : SmlaWOps).rn = 15#4 ∧ (⟨.al, 1, 15, 2, true, true, 3⟩ : SmlalXyOps).rdLo = 15#4 ∧
    (⟨.al, 1, 15⟩ : ClzOps).rm = 15#4 ∧ (⟨.al, true, 15⟩ : MrsOps).rd = 15#4 ∧
    (⟨.al, true, 1, 15⟩ : MsrRegOps).rm = 15#4 ∧ (⟨.al, 15⟩ : BxOps).rm = 15#4 ∧ (⟨15⟩ : TBxOps).rm = 15#4 ∧
    (⟨1, 15⟩ : THiOps).rd = 15#4 ∧ condPassed .al armS.cpsr = true := by decide
theorem witness_refusedBase : (∃ o : MemImmPreOps, o.cond = .al ∧ (addressMemImmPre o armS).writeback.isSome = true ∧
      o.rn = o.rd) ∧
    (∃ o : MemImmPostOps, o.cond = .al ∧ (addressMemImmPost o armS).writeback.isSome = true ∧ o.rn = 15#4) ∧
    (∃ o : MemRegPreOps, o.cond = .al ∧ o.rm = 15#4) ∧
    (∃ o : MemRegPostOps, o.cond = .al ∧ o.rm ≠ 15#4 ∧ (addressMemRegPost o armS).writeback.isSome = true ∧
      o.rm = o.rn) ∧
    (∃ o : ExtImmOps, o.cond = .al ∧ (addressExtImm o armS).writeback.isSome = true ∧ o.rn = o.rd) ∧
    (∃ o : ExtRegOps, o.cond = .al ∧ o.rm = 15#4) :=
  ⟨⟨⟨.al, true, true, 1, 1, 0⟩, by decide⟩, ⟨⟨.al, true, 15, 1, 0⟩, by decide⟩,
    ⟨⟨.al, true, true, 1, 2, 0, .lsl, 15⟩, by decide⟩, ⟨⟨.al, true, 1, 2, 0, .lsl, 1⟩, by decide⟩,
    ⟨⟨.al, false, true, false, 1, 1, 0⟩, by decide⟩, ⟨⟨.al, true, true, false, 1, 2, 15⟩, by decide⟩⟩
theorem witness_refusedPc : (∃ o : MemImmPreOps, o.cond = .al ∧ o.rd = 15#4 ∧
      baseFree (addressMemImmPre o armS) o.rn o.rd none ∧ fld (addressMemImmPre o armS).addr 0 2 ≠ 0b00#2) ∧
    (∃ o : MemRegPostOps, o.cond = .al ∧ o.rd = 15#4 ∧ baseFree (addressMemRegPost o armS) o.rn o.rd (some o.rm)) ∧
    (∃ o : ExtImmOps, o.cond = .al ∧ o.rd = 15#4 ∧ baseFree (addressExtImm o armS) o.rn o.rd none) :=
  ⟨⟨⟨.al, true, false, 1, 15, 1⟩, rfl, rfl, by unfold baseFree; decide, by decide⟩,
    ⟨⟨.al, true, 1, 15, 0, .lsl, 2⟩, rfl, rfl, by unfold baseFree; decide⟩,
    ⟨⟨.al, true, true, false, 1, 15, 1⟩, rfl, rfl, by unfold baseFree; decide⟩⟩
theorem witness_refusedTransfers :
    (∃ o : Ldm15Ops, o.cond = .al ∧ o.list = 0#15) ∧ (∃ o : Ldm15Ops, o.cond = .al ∧ o.rn = 15#4) ∧
    (∃ o : LdmOps, o.cond = .al ∧ o.list = 0#16) ∧
    (∃ o : Ldm15Ops, condPassed o.cond userS.cpsr = true ∧ o.list ≠ 0#15 ∧ o.rn ≠ 15#4 ∧ userS.mode = .usr) ∧
    (∃ o : LdmOps, o.cond = .al ∧ o.list ≠ 0#16 ∧ o.rn ≠ 15#4 ∧ o.w = true) ∧
    (∃ o : TMultiOps, o.list = 0#8) ∧ (∃ o : TStackOps, o.list = 0#8 ∧ o.extra = false) ∧
    (∃ o : SwpOps, o.cond = .al ∧ o.rd = 15#4) ∧
    (∃ o : SwpOps, o.cond = .al ∧ o.rn ≠ 15#4 ∧ o.rm ≠ 15#4 ∧ o.rn = o.rd) :=
  ⟨⟨⟨.al, true, true, false, 1, 0⟩, by decide⟩, ⟨⟨.al, true, true, false, 15, 1⟩, by decide⟩,
    ⟨⟨.al, true, true, false, 1, 0⟩, by decide⟩, ⟨⟨.al, true, true, false, 1, 1⟩, by decide⟩, ⟨⟨.al, true, true, true, 1, 1⟩, by decide⟩, ⟨⟨0, 0⟩, rfl⟩,
    ⟨⟨false, 0⟩, by decide⟩, ⟨⟨.al, 1, 15, 2⟩, by decide⟩, ⟨⟨.al, 1, 1, 2⟩, by decide⟩⟩
theorem witness_refusedDoublewords : (∃ o : ExtImmOps, o.cond = .al ∧ o.rd = 14#4) ∧
    (∃ o : ExtRegOps, o.cond = .al ∧ bitAt o.rd 0 = false ∧ o.rd ≠ 14#4 ∧ o.rm = 15#4) ∧
    (∃ o : ExtRegOps, o.cond = .al ∧ bitAt o.rd 0 = false ∧ o.rd ≠ 14#4 ∧ o.rm ≠ 15#4 ∧
      (addressExtReg o armS).writeback.isSome = true ∧ o.rn = o.rd + 1#4) ∧
    (∃ o : ExtRegOps, o.cond = .al ∧ bitAt o.rd 0 = false ∧ o.rd ≠ 14#4 ∧ o.rm = o.rd + 1#4 ∧
      (addressExtReg o armS).writeback.isSome = false) :=
  ⟨⟨⟨.al, true, true, false, 1, 14, 1⟩, by decide⟩, ⟨⟨.al, true, true, false, 1, 2, 15⟩, by decide⟩,
    ⟨⟨.al, false, true, false, 3, 2, 4⟩, by decide⟩, ⟨⟨.al, true, true, false, 1, 2, 3⟩, by decide⟩⟩
theorem witness_refusedCoprocessor : accepts acceptS 1 [5, 6] [] ∧ condPassed .al acceptS.cpsr = true ∧
    (∃ o : McrrOps, o.cond = .al ∧ o.cp ≠ 14#4 ∧ o.rn = 15#4) ∧
    (∃ o : McrrOps, o.cond = .al ∧ o.cp ≠ 14#4 ∧ o.rd ≠ 15#4 ∧ o.rd = o.rn) ∧
    (∃ o : LdcOps, o.cond = .al ∧ o.cp ≠ 14#4 ∧ o.rn = 15#4 ∧
      (mode5 o.p o.u o.w o.imm8 (acceptS.reg o.rn)).writeback.isSome = true) ∧
    (∃ o : Ldc2Ops, o.cp ≠ 14#4 ∧ o.rn = 15#4 ∧
      (mode5 o.p o.u o.w o.imm8 (acceptS.reg o.rn)).writeback.isSome = true) :=
  ⟨rfl, by decide, ⟨⟨.al, 15, 0, 7, 0, 0⟩, by decide⟩, ⟨⟨.al, 1, 1, 7, 0, 0⟩, by decide⟩,
    ⟨⟨.al, false, true, false, true, 15, 0, 7, 2⟩, by decide⟩, ⟨⟨false, true, false, true, 15, 0, 7, 2⟩, by decide⟩⟩
theorem witness_alternativeBranch : (∃ (o : BxOps) (s : State), condPassed o.cond s.cpsr = true ∧ s.thumb = false ∧
      ¬exchangeable (s.reg o.rm) ∧ o.rm ≠ 15#4) ∧
    (∃ (o : TBxOps) (s : State), s.thumb = true ∧ ¬exchangeable (s.reg o.rm) ∧ o.rm ≠ 15#4) :=
  ⟨⟨⟨.al, 0⟩, withRegs [(0, 0x8002)] armS, by decide, by decide, by unfold exchangeable; decide, by decide⟩,
    ⟨⟨0⟩, withRegs [(0, 2)] thumbS, by decide, by unfold exchangeable; decide, by decide⟩⟩
theorem witness_branchAlternatives : (∃ o : AluImmOps, condPassed o.cond armS.cpsr = true ∧ o.rd = 15#4 ∧
      o.s = false ∧ fld (addSpec.value (armS.reg o.rn) (rotImm o.rot o.imm8) (psrC armS.cpsr)) 0 2 ≠ 0b00#2) ∧
    (∃ o : AluImmOps, condPassed o.cond userS.cpsr = true ∧ userS.thumb = false ∧ o.rd = 15#4 ∧ o.s = true ∧
      userS.spsrOf userS.mode = none) ∧
    (∃ o : AluShiftOps, o.cond = .al ∧ o.rd = 15#4 ∧ o.s = true ∧ userS.spsrOf userS.mode = none) ∧
    (∃ o : MovImmOps, o.cond = .al ∧ o.rd = 15#4 ∧ o.s = false ∧
      fld (movSpec.value 0 (rotImm o.rot o.imm8) (psrC armS.cpsr)) 0 2 ≠ 0b00#2) ∧
    (∃ o : MovShiftOps, o.cond = .al ∧ o.rd = 15#4 ∧ o.s = true ∧ userS.spsrOf userS.mode = none) :=
  ⟨⟨⟨.al, false, 0, 15, 0, 2⟩, by decide⟩, ⟨⟨.al, true, 14, 15, 0, 4⟩, by decide⟩,
    ⟨⟨.al, true, 14, 15, 0, .lsl, 1⟩, by decide⟩, ⟨⟨.al, false, 15, 0, 3⟩, by decide⟩,
    ⟨⟨.al, true, 15, 0, .lsl, 14⟩, by decide⟩⟩
theorem witness_alternatives :
    (∃ o : MrsOps, condPassed o.cond userS.cpsr = true ∧ o.rd ≠ 15#4 ∧ o.spsr = true) ∧
    (∃ o : MsrImmOps, condPassed o.cond userS.cpsr = true ∧ o.spsr = true) ∧
    (∃ o : MsrRegOps, condPassed o.cond userS.cpsr = true ∧ o.rm ≠ 15#4 ∧ o.spsr = true) ∧
    (∃ o : LdmOps, o.cond = .al ∧ o.rn ≠ 15#4 ∧ o.w = true ∧ listed o.list o.rn = true) ∧
    (∃ o : Ldm15Ops, o.cond = .al ∧ o.rn ≠ 15#4 ∧ userS.spsrOf userS.mode = none) ∧
    (∃ o : Ldm15Ops, o.cond = .al ∧ o.rn ≠ 15#4 ∧ o.w = true ∧ listed (0b1#1 ++ o.list : BitVec 16) o.rn = true) ∧
    (∃ o : SwpOps, o.cond = .al ∧ o.rn ≠ 15#4 ∧ o.rd ≠ 15#4 ∧ o.rn ≠ o.rd ∧ o.rn = o.rm) :=
  ⟨⟨⟨.al, true, 0⟩, by decide⟩, ⟨⟨.al, true, 15, 0, 0⟩, by decide⟩, ⟨⟨.al, true, 15, 0⟩, by decide⟩,
    ⟨⟨.al, false, true, true, 0, 3⟩, by decide⟩, ⟨⟨.al, false, true, true, 0, 3⟩, by decide⟩,
    ⟨⟨.al, false, true, true, 0, 3⟩, by decide⟩, ⟨⟨.al, 1, 0, 1⟩, by decide⟩⟩

end Sys2Proof.Tests
end

section
/-! SUPPORT. What every next state of an outcome has, and the rule of each frame that several meanings share: the next
states it can answer, with the guard each stands under. Any property of the next states is proved through these rules. -/

namespace Sys2Proof.Proofs

open Sys2Proof.Machine

/-- The outcome's next state, if it has one, satisfies `P`; nothing is asked of a fault or a refusal. -/
def Ensures (P : State → Prop) : Out → Prop
  | .next t => P t
  | .fault _ => True
  | .refused _ => True

theorem ensures_iff {P : State → Prop} {o : Out} : Ensures P o ↔ ∀ t, o = .next t → P t := by
  cases o <;> simp [Ensures]

theorem ensures_refused (P : State → Prop) (r : Refusal) : Ensures P (.refused r) := trivial

/-- A refused case asks nothing. -/
theorem ensures_unless {P : State → Prop} {c : Prop} [Decidable c] {r : Refusal} {o : Out} (h : ¬c → Ensures P o) :
    Ensures P (if c then .refused r else o) := by
  split
  next => exact ensures_refused P r
  next hc => exact h hc

/-- A conditional instruction advances or runs (R112). -/
theorem ensures_ifPassed {P : State → Prop} {c : Cond} {k : State → Out} {s : State}
    (failed : condPassed c s.cpsr = false → P s.advance) (passed : condPassed c s.cpsr = true → Ensures P (k s)) :
    Ensures P (s.ifPassed c k) := by
  unfold State.ifPassed
  split
  next hc => exact passed hc
  next hc => exact failed (by simpa using hc)

/-- A register-specified shift runs without r15 only (R164). -/
theorem ensures_registerShift {P : State → Prop} {c : Cond} {regs : List Reg} {k : State → Out} {s : State}
    (failed : condPassed c s.cpsr = false → P s.advance)
    (passed : condPassed c s.cpsr = true → regs.contains 15#4 = false → Ensures P (k s)) :
    Ensures P (registerShift c regs k s) :=
  ensures_ifPassed failed fun hc => ensures_unless fun hr => passed hc (by simpa using hr)

/-- A multiply runs without r15 only, and advances (R217). -/
theorem ensures_multiplyFrame {P : State → Prop} {c : Cond} {regs : List Reg} {k : State → State} {s : State}
    (failed : condPassed c s.cpsr = false → P s.advance)
    (passed : condPassed c s.cpsr = true → regs.contains 15#4 = false → P (k s).advance) :
    Ensures P (multiplyFrame c regs k s) :=
  ensures_ifPassed failed fun hc => ensures_unless fun hr => passed hc (by simpa using hr)

theorem ensures_loadSingle {P : State → Prop} {k : LoadKind} {pcOk user : Bool} {rn rd : Reg} {rm : Option Reg}
    {a : Addressed} {s : State}
    (h : addressRefusal a.writeback.isSome rn rd rm = none → ¬(rd = 15#4 ∧ pcOk = false) →
      ¬(rd = 15#4 ∧ fld a.addr 0 2 ≠ 0b00#2) → P (s.loadInto k user rn rd a)) :
    Ensures P (loadSingle k pcOk user rn rd rm a s) := by
  unfold loadSingle
  split
  next => exact ensures_refused _ _
  next hr => exact ensures_unless fun hp => ensures_unless fun ha => h hr hp ha

theorem ensures_storeSingle {P : State → Prop} {z : Size} {pcOk user : Bool} {rn rd : Reg} {rm : Option Reg}
    {a : Addressed} {s : State}
    (h : addressRefusal a.writeback.isSome rn rd rm = none → ¬(rd = 15#4 ∧ pcOk = false) →
      P (s.storeFrom z user rn rd a)) :
    Ensures P (storeSingle z pcOk user rn rd rm a s) := by
  unfold storeSingle
  split
  next => exact ensures_refused _ _
  next hr => exact ensures_unless fun hp => h hr hp

/-- An LDRD of an odd register is Undefined (R272). -/
theorem ensures_loadDoubleword {P : State → Prop} {rn rd : Reg} {rm : Option Reg} {a : Addressed} {s : State}
    (odd : bitAt rd 0 = true → P s.undefinedInstr)
    (even : bitAt rd 0 = false → doubleRefusal true a.writeback.isSome rn rd rm = none → P (s.loadDouble rn rd a)) :
    Ensures P (loadDoubleword rn rd rm a s) := by
  unfold loadDoubleword
  split
  next hodd => exact odd hodd
  next heven =>
    split
    next => exact ensures_refused _ _
    next hr => exact even (by simpa using heven) hr

/-- An STRD of an odd register is Undefined (R273). -/
theorem ensures_storeDoubleword {P : State → Prop} {rn rd : Reg} {rm : Option Reg} {a : Addressed} {s : State}
    (odd : bitAt rd 0 = true → P s.undefinedInstr)
    (even : bitAt rd 0 = false → doubleRefusal false a.writeback.isSome rn rd rm = none → P (s.storeDouble rn rd a)) :
    Ensures P (storeDoubleword rn rd rm a s) := by
  unfold storeDoubleword
  split
  next hodd => exact odd hodd
  next heven =>
    split
    next => exact ensures_refused _ _
    next hr => exact even (by simpa using heven) hr

/-- The three answers of a coprocessor, and coprocessor 14 (R326 to R328, R345). -/
theorem ensures_coprocessor {P : State → Prop} {instr : Word} {cp : BitVec 4} {k : Nat → List Word → State → Out}
    {s : State} (inside : cp = 14#4 → P s.undefinedInstr)
    (absent : cp ≠ 14#4 → s.cpAnswer.1 = .absent → P (s.cpAnswer.2.cpOffer instr).undefinedInstr)
    (wait : cp ≠ 14#4 → s.cpAnswer.1 = .wait → P (s.cpAnswer.2.cpOffer instr).busyWait)
    (accept : ∀ more ws, cp ≠ 14#4 → s.cpAnswer.1 = .accept more ws →
      Ensures P (k more ws (s.cpAnswer.2.cpOffer instr))) :
    Ensures P (coprocessor instr cp k s) := by
  unfold coprocessor
  split
  next hcp => exact inside hcp
  next hcp =>
    dsimp only
    split
    next ha => exact absent hcp ha
    next ha => exact wait hcp ha
    next ha => exact accept _ _ hcp ha

end Sys2Proof.Proofs
end

section
/-! PROOF. No instruction touches what surrounds the core (R8, R62, R480): one lemma per shared operation and
frame, then the instructions by the frame they are written in. -/

namespace Sys2Proof.Proofs

open Sys2Proof.Machine

/-- What surrounds the core is the same in both states. -/
structure SameSurroundings (s t : State) : Prop where
  cfg : t.cfg = s.cfg
  pins : t.pins = s.pins
  pinStream : t.pinStream = s.pinStream
  tap : t.tap = s.tap
  fiqReg : t.fiqReg = s.fiqReg
  irqReg : t.irqReg = s.irqReg

/-- The outcome's next state stands in the surroundings of `s`. -/
abbrev KeepsSurroundings (s : State) (o : Out) : Prop := Ensures (SameSurroundings s) o

theorem SameSurroundings.trans {s t u : State} (h : SameSurroundings s t) (h' : SameSurroundings t u) :
    SameSurroundings s u :=
  ⟨h'.cfg.trans h.cfg, h'.pins.trans h.pins, h'.pinStream.trans h.pinStream, h'.tap.trans h.tap,
    h'.fiqReg.trans h.fiqReg, h'.irqReg.trans h.irqReg⟩

/-! ### Updates of the state -/

theorem advance_sameSurroundings (s : State) : SameSurroundings s s.advance := by constructor <;> rfl

theorem loadPcLast_sameSurroundings (regs : List Reg) (s : State) (v : Word) :
    SameSurroundings s (loadPcLast regs s v) := by
  unfold loadPcLast; split <;> constructor <;> simp

/-- A block load keeps what its last action keeps. -/
theorem loadMultiple_sameSurroundings (s : State) (m : Mode) (p u w : Bool) (rn : Reg) (regs : List Reg)
    {fin : State → Word → State} (h : ∀ t v, SameSurroundings t (fin t v)) :
    SameSurroundings s (s.loadMultiple m p u w rn regs fin) where
  cfg := s.loadMultiple_cfg m p u w rn regs fin fun t v => (h t v).cfg
  pins := s.loadMultiple_pins m p u w rn regs fin fun t v => (h t v).pins
  pinStream := s.loadMultiple_pinStream m p u w rn regs fin fun t v => (h t v).pinStream
  tap := s.loadMultiple_tap m p u w rn regs fin fun t v => (h t v).tap
  fiqReg := s.loadMultiple_fiqReg m p u w rn regs fin fun t v => (h t v).fiqReg
  irqReg := s.loadMultiple_irqReg m p u w rn regs fin fun t v => (h t v).irqReg

/-- A block store keeps what its last action keeps. -/
theorem storeMultiple_sameSurroundings (s : State) (p u w : Bool) (rn : Reg) (vs : List Word) {fin : State → State}
    (h : ∀ t, SameSurroundings t (fin t)) : SameSurroundings s (s.storeMultiple p u w rn vs fin) := by
  unfold State.storeMultiple
  dsimp only
  split
  · refine SameSurroundings.trans ?_ (h _)
    split <;> constructor <;> simp
  · constructor <;> simp

/-! ### The frames that instructions share -/

theorem ifPassed_keepsSurroundings {s : State} {c : Cond} {k : State → Out} (h : KeepsSurroundings s (k s)) :
    KeepsSurroundings s (s.ifPassed c k) :=
  ensures_ifPassed (fun _ => advance_sameSurroundings s) fun _ => h

theorem registerShift_keepsSurroundings {s : State} {c : Cond} {regs : List Reg} {k : State → Out}
    (h : KeepsSurroundings s (k s)) : KeepsSurroundings s (registerShift c regs k s) :=
  ensures_registerShift (fun _ => advance_sameSurroundings s) fun _ _ => h

theorem dataProcessing_keepsSurroundings (op : AluOp) (c : Cond) (f : Bool) (rn rd : Reg) (b : State → Shifted)
    (s : State) : KeepsSurroundings s (dataProcessing op c f rn rd b s) :=
  ifPassed_keepsSurroundings (by constructor <;> simp)

theorem dataMove_keepsSurroundings (op : AluOp) (c : Cond) (f : Bool) (rd : Reg) (b : State → Shifted) (s : State) :
    KeepsSurroundings s (dataMove op c f rd b s) :=
  ifPassed_keepsSurroundings (by constructor <;> simp)

theorem dataCompare_keepsSurroundings (op : AluOp) (c : Cond) (rn : Reg) (b : State → Shifted) (s : State) :
    KeepsSurroundings s (dataCompare op c rn b s) :=
  ifPassed_keepsSurroundings (by constructor <;> simp)

theorem multiplyFrame_keepsSurroundings {s : State} {c : Cond} {regs : List Reg} {k : State → State}
    (h : SameSurroundings s (k s)) : KeepsSurroundings s (multiplyFrame c regs k s) :=
  ensures_multiplyFrame (fun _ => advance_sameSurroundings s) fun _ _ => h.trans (advance_sameSurroundings _)

theorem loadSingle_keepsSurroundings (k : LoadKind) (pcOk user : Bool) (rn rd : Reg) (rm : Option Reg) (a : Addressed)
    (s : State) : KeepsSurroundings s (loadSingle k pcOk user rn rd rm a s) :=
  ensures_loadSingle fun _ _ _ => by constructor <;> simp

theorem storeSingle_keepsSurroundings (z : Size) (pcOk user : Bool) (rn rd : Reg) (rm : Option Reg) (a : Addressed)
    (s : State) : KeepsSurroundings s (storeSingle z pcOk user rn rd rm a s) :=
  ensures_storeSingle fun _ _ => by constructor <;> simp

theorem loadDoubleword_keepsSurroundings (rn rd : Reg) (rm : Option Reg) (a : Addressed) (s : State) :
    KeepsSurroundings s (loadDoubleword rn rd rm a s) :=
  ensures_loadDoubleword (fun _ => by constructor <;> simp) fun _ _ => by constructor <;> simp

theorem storeDoubleword_keepsSurroundings (rn rd : Reg) (rm : Option Reg) (a : Addressed) (s : State) :
    KeepsSurroundings s (storeDoubleword rn rd rm a s) :=
  ensures_storeDoubleword (fun _ => by constructor <;> simp) fun _ _ => by constructor <;> simp

theorem swapFrame_keepsSurroundings (k : LoadKind) (o : SwpOps) (s : State) :
    KeepsSurroundings s (swapFrame k o s) :=
  ifPassed_keepsSurroundings (ensures_unless fun _ => ensures_unless fun _ => by constructor <;> simp)

/-- A handshake keeps what the accepted instruction keeps. -/
theorem coprocessor_keepsSurroundings {instr : Word} {cp : BitVec 4} {k : Nat → List Word → State → Out} {s : State}
    (h : ∀ more ws, KeepsSurroundings s (k more ws (s.cpAnswer.2.cpOffer instr))) :
    KeepsSurroundings s (coprocessor instr cp k s) :=
  ensures_coprocessor (fun _ => by constructor <;> simp) (fun _ _ => by constructor <;> simp)
    (fun _ _ => by constructor <;> simp) fun more ws _ _ => h more ws

theorem moveToCoprocessor_keepsSurroundings (instr : Word) (cp : BitVec 4) (rd : Reg) (s : State) :
    KeepsSurroundings s (moveToCoprocessor instr cp rd s) :=
  coprocessor_keepsSurroundings fun _ _ => by constructor <;> simp

theorem moveFromCoprocessor_keepsSurroundings (instr : Word) (cp : BitVec 4) (rd : Reg) (s : State) :
    KeepsSurroundings s (moveFromCoprocessor instr cp rd s) :=
  coprocessor_keepsSurroundings fun _ _ => by constructor <;> simp

theorem coprocessorLoad_keepsSurroundings (instr : Word) (cp : BitVec 4) (rn : Reg) (a : State → Addressed)
    (s : State) : KeepsSurroundings s (coprocessorLoad instr cp rn a s) :=
  coprocessor_keepsSurroundings fun _ _ => ensures_unless fun _ => by constructor <;> simp

theorem coprocessorStore_keepsSurroundings (instr : Word) (cp : BitVec 4) (rn : Reg) (a : State → Addressed)
    (s : State) : KeepsSurroundings s (coprocessorStore instr cp rn a s) :=
  coprocessor_keepsSurroundings fun _ _ => ensures_unless fun _ => by constructor <;> simp

theorem thumbResult_keepsSurroundings (rd : LowReg) (r : State → Word × Word) (s : State) :
    KeepsSurroundings s (thumbResult rd r s) := by constructor <;> simp

theorem thumbCompare_keepsSurroundings (r : State → Word × Word) (s : State) :
    KeepsSurroundings s (thumbCompare r s) := by constructor <;> simp

theorem thumbLoad_keepsSurroundings (k : LoadKind) (rd : LowReg) (a : State → Word) (s : State) :
    KeepsSurroundings s (thumbLoad k rd a s) := by constructor <;> simp

theorem thumbStore_keepsSurroundings (z : Size) (rd : LowReg) (a : State → Word) (s : State) :
    KeepsSurroundings s (thumbStore z rd a s) := by constructor <;> simp

/-! ### The meanings with a frame of their own -/

theorem execMrs_keepsSurroundings (o : MrsOps) (s : State) : KeepsSurroundings s (execMrs o s) := by
  refine ifPassed_keepsSurroundings (ensures_unless fun _ => ?_)
  split
  · split <;> constructor <;> simp
  · constructor <;> simp

theorem execMcr_keepsSurroundings (o : McrOps) (s : State) : KeepsSurroundings s (execMcr o s) := by
  refine ifPassed_keepsSurroundings ?_
  split
  · constructor <;> simp
  · exact moveToCoprocessor_keepsSurroundings _ _ _ _

theorem execMrc_keepsSurroundings (o : McrOps) (s : State) : KeepsSurroundings s (execMrc o s) := by
  refine ifPassed_keepsSurroundings ?_
  split
  · constructor <;> simp
  · exact moveFromCoprocessor_keepsSurroundings _ _ _ _

/-- Every instruction keeps what surrounds the core: each by the frame its meaning is written in. -/
theorem exec_keepsSurroundings (i : Instr) (s : State) : KeepsSurroundings s (exec i s) := by
  unfold exec
  cases i with
  | andImm o | andShift o | eorImm o | eorShift o | subImm o | subShift o | rsbImm o | rsbShift o | addImm o
  | addShift o | adcImm o | adcShift o | sbcImm o | sbcShift o | rscImm o | rscShift o | orrImm o | orrShift o
  | bicImm o | bicShift o => exact dataProcessing_keepsSurroundings ..
  | andReg o | eorReg o | subReg o | rsbReg o | addReg o | adcReg o | sbcReg o | rscReg o | orrReg o | bicReg o =>
    exact registerShift_keepsSurroundings (dataProcessing_keepsSurroundings ..)
  | movImm o | movShift o | mvnImm o | mvnShift o => exact dataMove_keepsSurroundings ..
  | movReg o | mvnReg o => exact registerShift_keepsSurroundings (dataMove_keepsSurroundings ..)
  | tstImm o | tstShift o | teqImm o | teqShift o | cmpImm o | cmpShift o | cmnImm o | cmnShift o =>
    exact dataCompare_keepsSurroundings ..
  | tstReg o | teqReg o | cmpReg o | cmnReg o =>
    exact registerShift_keepsSurroundings (dataCompare_keepsSurroundings ..)
  | mul o | mla o | umull o | umlal o | smull o | smlal o | qadd o | qsub o | qdadd o | qdsub o | smulXy o | smlaXy o
  | smulW o | smlaW o | smlalXy o => exact multiplyFrame_keepsSurroundings (by constructor <;> simp)
  | clz o => exact ifPassed_keepsSurroundings (ensures_unless fun _ => by constructor <;> simp)
  | mrs o => exact execMrs_keepsSurroundings o s
  | msrReg o => exact ifPassed_keepsSurroundings (ensures_unless fun _ => by constructor <;> simp)
  | msrImm o | swi o | b o | bl o | bx o => exact ifPassed_keepsSurroundings (by constructor <;> simp)
  | blxReg o => exact ifPassed_keepsSurroundings (ensures_unless fun _ => by constructor <;> simp)
  | blxImm o | bkpt o => constructor <;> simp
  | ldrImmPre o | ldrImmPost o | ldrtImm o | ldrRegPre o | ldrRegPost o | ldrtReg o | ldrbImmPre o | ldrbImmPost o
  | ldrbtImm o | ldrbRegPre o | ldrbRegPost o | ldrbtReg o | ldrhImm o | ldrhReg o | ldrsbImm o | ldrsbReg o
  | ldrshImm o | ldrshReg o => exact ifPassed_keepsSurroundings (loadSingle_keepsSurroundings ..)
  | strImmPre o | strImmPost o | strtImm o | strRegPre o | strRegPost o | strtReg o | strbImmPre o | strbImmPost o
  | strbtImm o | strbRegPre o | strbRegPost o | strbtReg o | strhImm o | strhReg o =>
    exact ifPassed_keepsSurroundings (storeSingle_keepsSurroundings ..)
  | ldrdImm o | ldrdReg o => exact ifPassed_keepsSurroundings (loadDoubleword_keepsSurroundings ..)
  | strdImm o | strdReg o => exact ifPassed_keepsSurroundings (storeDoubleword_keepsSurroundings ..)
  | pldImm o => constructor <;> simp
  | pldReg o => exact ensures_unless fun _ => by constructor <;> simp
  | swp o | swpb o => exact swapFrame_keepsSurroundings ..
  | ldm1 o =>
    exact ifPassed_keepsSurroundings (ensures_unless fun _ =>
      loadMultiple_sameSurroundings _ _ _ _ _ _ _ (loadPcLast_sameSurroundings _))
  | ldm2 o =>
    exact ifPassed_keepsSurroundings (ensures_unless fun _ => ensures_unless fun _ =>
      loadMultiple_sameSurroundings _ _ _ _ _ _ _ fun _ _ => by constructor <;> simp)
  | ldm3 o =>
    exact ifPassed_keepsSurroundings (ensures_unless fun _ =>
      loadMultiple_sameSurroundings _ _ _ _ _ _ _ fun _ _ => by constructor <;> simp)
  | stm1 o => exact ifPassed_keepsSurroundings (ensures_unless fun _ => by constructor <;> simp)
  | stm2 o =>
    exact ifPassed_keepsSurroundings (ensures_unless fun _ => ensures_unless fun _ =>
      storeMultiple_sameSurroundings _ _ _ _ _ _ fun _ => by constructor <;> simp)
  | cdp o => exact ifPassed_keepsSurroundings (coprocessor_keepsSurroundings fun _ _ => by constructor <;> simp)
  | cdp2 o => exact coprocessor_keepsSurroundings fun _ _ => by constructor <;> simp
  | mcr o => exact execMcr_keepsSurroundings o s
  | mrc o => exact execMrc_keepsSurroundings o s
  | mcr2 o => exact moveToCoprocessor_keepsSurroundings ..
  | mrc2 o => exact moveFromCoprocessor_keepsSurroundings ..
  | mcrr o =>
    exact ifPassed_keepsSurroundings (coprocessor_keepsSurroundings fun _ _ =>
      ensures_unless fun _ => by constructor <;> simp)
  | mrrc o =>
    exact ifPassed_keepsSurroundings (coprocessor_keepsSurroundings fun _ _ =>
      ensures_unless fun _ => ensures_unless fun _ => by constructor <;> simp)
  | ldc o => exact ifPassed_keepsSurroundings (coprocessorLoad_keepsSurroundings ..)
  | stc o => exact ifPassed_keepsSurroundings (coprocessorStore_keepsSurroundings ..)
  | ldc2 o => exact coprocessorLoad_keepsSurroundings ..
  | stc2 o => exact coprocessorStore_keepsSurroundings ..
  | tLslImm o | tLsrImm o | tAsrImm o | tAddReg o | tSubReg o | tAddImm3 o | tSubImm3 o | tMovImm o | tAddImm8 o
  | tSubImm8 o | tAnd o | tEor o | tLslReg o | tLsrReg o | tAsrReg o | tAdc o | tSbc o | tRor o | tNeg o | tOrr o
  | tMul o | tBic o | tMvn o => exact thumbResult_keepsSurroundings ..
  | tCmpImm o | tTst o | tCmpLow o | tCmn o => exact thumbCompare_keepsSurroundings ..
  | tCmpHi o => exact ensures_unless fun _ => thumbCompare_keepsSurroundings ..
  | tAddHi o | tMovHi o | tAddPc o | tAddSp o | tIncSp o | tDecSp o => constructor <;> simp
  | tLdrPc o | tLdrReg o | tLdrhReg o | tLdrbReg o | tLdrsbReg o | tLdrshReg o | tLdrImm o | tLdrbImm o | tLdrhImm o
  | tLdrSp o => exact thumbLoad_keepsSurroundings ..
  | tStrReg o | tStrhReg o | tStrbReg o | tStrImm o | tStrbImm o | tStrhImm o | tStrSp o =>
    exact thumbStore_keepsSurroundings ..
  | tPush o | tStmia o => exact ensures_unless fun _ => by constructor <;> simp
  | tPop o =>
    exact ensures_unless fun _ => loadMultiple_sameSurroundings _ _ _ _ _ _ _ (loadPcLast_sameSurroundings _)
  | tLdmia o =>
    exact ensures_unless fun _ => loadMultiple_sameSurroundings _ _ _ _ _ _ _ fun t _ => advance_sameSurroundings t
  | tBCond o => exact ifPassed_keepsSurroundings (by constructor <;> simp)
  | tBlxReg o => exact ensures_unless fun _ => by constructor <;> simp
  | tBx o | tB o | tBlPrefix o | tBlSuffix o | tBlxSuffix o | tSwi o | tBkpt o => constructor <;> simp

/-- Settles O13: whatever `exec` answers stands in the surroundings it started from. -/
theorem execKeepsSurroundings : Obligations.ExecKeepsSurroundings := by
  unfold Obligations.ExecKeepsSurroundings
  intro i s t h
  obtain ⟨hcfg, hpins, hstream, htap, hfiq, hirq⟩ := ensures_iff.mp (exec_keepsSurroundings i s) t h
  exact ⟨hcfg, hpins, hstream, htap, hfiq, hirq⟩

end Sys2Proof.Proofs
end

section
/-! SUPPORT. What a step can do to the pc, to the instruction set in force and to the debug registers that hold a
reserved bit, said once: the moves of `Reaches`. Every instruction and every part of a boundary is a chain of these
moves, so an invariant of the three is proved by one induction over the chain. -/

namespace Sys2Proof.Proofs

open Sys2Proof.Machine

/-! ### The view and its moves -/

/-- The debug registers that hold a reserved bit: debug control, vector catch and the two control masks (R48, R50,
U4). -/
def settings (i : Ice) : BitVec 6 × BitVec 8 × BitVec 8 × BitVec 8 :=
  (i.control, i.vectorCatch, i.unit0.controlMask, i.unit1.controlMask)

/-- The two states have the same pc, instruction set and debug registers with a reserved bit. -/
structure SameView (s t : State) : Prop where
  pc : t.pc = s.pc
  thumb : t.thumb = s.thumb
  ice : settings t.ice = settings s.ice

/-- A chain of moves from `s`: nothing in view changes, the pc goes on in sequence, the pc and the T bit are written
together, the debugger writes a debug register, or debug reset clears them. -/
inductive Reaches (s : State) : State → Prop
  | refl : Reaches s s
  | same {t u : State} : Reaches s t → SameView t u → Reaches s u
  | advance {t : State} : Reaches s t → Reaches s t.advance
  | jump {t : State} (p v : Word) : Reaches s t → Reaches s ((t.setCpsr p).branchTo (alignPc (psrT p) v))
  | debugWrite {t : State} (a : BitVec 5) (d : Word) : Reaches s t → Reaches s { t with ice := t.ice.write a d }
  | debugReset {t : State} : Reaches s t → Reaches s t.debugReset

theorem SameView.refl (s : State) : SameView s s := ⟨rfl, rfl, rfl⟩

theorem SameView.trans {s t u : State} (h : SameView s t) (h' : SameView t u) : SameView s u :=
  ⟨h'.pc.trans h.pc, h'.thumb.trans h.thumb, h'.ice.trans h.ice⟩

theorem SameView.reaches {s t : State} (h : SameView s t) : Reaches s t := .same .refl h

theorem Reaches.trans {s t u : State} (h : Reaches s t) (h' : Reaches t u) : Reaches s u := by
  induction h' with
  | refl => exact h
  | same _ v ih => exact ih.same v
  | advance _ ih => exact ih.advance
  | jump p v _ ih => exact ih.jump p v
  | debugWrite a d _ ih => exact ih.debugWrite a d
  | debugReset _ ih => exact ih.debugReset

/-! ### The T bit under writes of the other CPSR bits -/

theorem psrT_setBit (p : Word) {i : Nat} (b : Bool) (h : i ≠ 5) : psrT (setBit p i b) = psrT p := by
  have h' : 5 ≠ i := h.symm
  cases b <;> simp [psrT, bitAt, setBit, h']

@[simp] theorem psrT_setPsrT (p : Word) (b : Bool) : psrT (setPsrT p b) = b := by
  cases b <;> simp [psrT, bitAt, setPsrT, setBit]

@[simp] theorem psrT_setPsrNZ (p r : Word) : psrT (setPsrNZ p r) = psrT p := by simp [setPsrNZ, psrT_setBit]

@[simp] theorem psrT_setPsrNZCV (p : Word) (n z c v : Bool) : psrT (setPsrNZCV p n z c v) = psrT p := by
  simp [setPsrNZCV, psrT_setBit]

@[simp] theorem psrT_longFlags (p : Word) (r : BitVec 64) : psrT (longFlags p r) = psrT p := by
  simp [longFlags, psrT_setBit]

@[simp] theorem psrT_stickyQ (p : Word) (b : Bool) : psrT (stickyQ p b) = psrT p := by
  unfold stickyQ; split <;> simp [setPsrQ, psrT_setBit]

theorem psrT_logicalOp (f : Word → Word → Word) (a : Word) (b : Shifted) (p : Word) :
    psrT (logicalOp f a b p).2 = psrT p := by
  simp [logicalOp, logicFlags, psrT_setBit]

theorem psrT_arithmeticOp (f : Word → Word → Bool → AddResult) (a : Word) (b : Shifted) (p : Word) :
    psrT (arithmeticOp f a b p).2 = psrT p := by
  simp [arithmeticOp, arithFlags]

/-- MSR never writes the T bit (U12's alternative). -/
theorem psrT_maskedWrite (s : State) (m : BitVec 4) (p v : Word) :
    psrT ((p &&& ~~~s.cpsrMask m) ||| (v &&& s.cpsrMask m)) = psrT p := by
  simp [psrT, bitAt, State.cpsrMask]

/-- An exception is taken in ARM state (R460). -/
@[simp] theorem psrT_newCpsr (k : ExcKind) (p : Word) : psrT (k.newCpsr p) = false := by
  unfold ExcKind.newCpsr
  dsimp only
  split <;> simp [psrT_setBit]

@[simp] theorem psrT_resetCpsr (free : Word) : psrT (resetCpsr free) = false := by
  simp [psrT, bitAt, resetCpsr]

@[simp] theorem setCpsr_thumb (s : State) (p : Word) : (s.setCpsr p).thumb = psrT p := rfl

@[simp] theorem writeProduct_thumb (s : State) (f : Bool) (rd : Reg) (v : Word) :
    (s.writeProduct f rd v).thumb = s.thumb := by
  unfold State.writeProduct; dsimp only; split <;> simp [State.thumb]

@[simp] theorem writeLongFlags_thumb (s : State) (f : Bool) (hi lo : Reg) (p : BitVec 64) :
    (s.writeLongFlags f hi lo p).thumb = s.thumb := by
  unfold State.writeLongFlags; dsimp only; split <;> simp [State.thumb]

@[simp] theorem writeSticky_thumb (s : State) (rd : Reg) (v : Word) (q : Bool) :
    (s.writeSticky rd v q).thumb = s.thumb := by
  simp [State.writeSticky, State.thumb]

@[simp] theorem writeMrc_thumb (s : State) (rd : Reg) (w : Word) : (s.writeMrc rd w).thumb = s.thumb := by
  unfold State.writeMrc; split <;> simp [State.thumb]

@[simp] theorem writePsr_thumb (s : State) (spsr : Bool) (m : BitVec 4) (v : Word) :
    (s.writePsr spsr m v).thumb = s.thumb := by
  unfold State.writePsr
  split
  · split <;> simp
  · exact psrT_maskedWrite s m s.cpsr v

/-! ### The debug registers under accesses -/

/-- A comparison changes the CHAINOUT latches only (R49, R557). -/
@[simp] theorem settings_compare (i : Ice) (v : BusView) (ext : BitVec 2) :
    settings (i.compare v ext).1 = settings i := by
  unfold Ice.compare; split <;> rfl

@[simp] theorem settings_observe (s : State) (c : BusCycle) (d : Word) (a : Bool) :
    settings (s.observe c d a).ice = settings s.ice := by
  unfold State.observe
  dsimp only
  split <;> simp

@[simp] theorem settings_dataRead (s : State) (q : Req) : settings (s.dataRead q).2.ice = settings s.ice := by
  unfold State.dataRead; split <;> simp

@[simp] theorem settings_dataWrite (s : State) (q : Req) (v : Word) :
    settings (s.dataWrite q v).2.ice = settings s.ice := by
  unfold State.dataWrite
  dsimp only
  split
  · rfl
  · split <;> simp

@[simp] theorem settings_readWords (n : Nat) (s : State) (a : Word) (q : Bool) (b : BitVec 4) :
    settings (readWords n s a q b).2.ice = settings s.ice := by
  induction n generalizing s a q with
  | zero => rfl
  | succ n ih => simp [readWords, ih]

@[simp] theorem settings_writeWords (vs : List Word) (s : State) (a : Word) (q : Bool) (b : BitVec 4) :
    settings (writeWords vs s a q b).2.ice = settings s.ice := by
  induction vs generalizing s a q with
  | nil => rfl
  | cons v vs ih => simp [writeWords, ih]

@[simp] theorem settings_cp14AfterRead (s : State) (n : BitVec 4) :
    settings (s.cp14AfterRead n).ice = settings s.ice := by
  unfold State.cp14AfterRead; split <;> rfl

@[simp] theorem settings_cp14Write (s : State) (n : BitVec 4) (v : Word) :
    settings (s.cp14Write n v).ice = settings s.ice := by
  unfold State.cp14Write
  split
  · rfl
  · split <;> rfl

/-! ### The writes of the pc -/

/-- Every vector is a word address (R455, R456). -/
theorem align4_vector (c : Cfg) (k : ExcKind) : align4 (c.vectorBase + k.offset) = c.vectorBase + k.offset := by
  unfold Cfg.vectorBase
  split <;> cases k <;> decide

theorem Reaches.writePc {s t : State} (h : Reaches s t) (v : Word) : Reaches s (t.writePc v) := h.jump t.cpsr v

theorem Reaches.branchExchange {s t : State} (h : Reaches s t) (v : Word) : Reaches s (t.branchExchange v) := by
  have hj := h.jump (setPsrT t.cpsr (bitAt v 0)) v
  rwa [psrT_setPsrT] at hj

theorem Reaches.loadPc {s t : State} (h : Reaches s t) (v : Word) : Reaches s (t.loadPc v) := by
  unfold State.loadPc
  split
  · exact h.writePc v
  · exact h.branchExchange v

theorem Reaches.exceptionReturn {s t : State} (h : Reaches s t) (v : Word) : Reaches s (t.exceptionReturn v) := by
  unfold State.exceptionReturn
  split
  next p _ => exact h.jump p v
  next => exact h.writePc v

theorem Reaches.takeException {s t : State} (h : Reaches s t) (k : ExcKind) (r : Word) :
    Reaches s (t.takeException k r) := by
  refine (h.jump (k.newCpsr t.cpsr) (t.cfg.vectorBase + k.offset)).same ⟨?_, rfl, by simp⟩
  simp [State.takeException, alignPc, align4_vector]

theorem Reaches.dataAbort {s t : State} (h : Reaches s t) : Reaches s t.dataAbort := by
  unfold State.dataAbort
  dsimp only
  split
  next => exact (h.takeException .dataAbort (t.pc + 8#32)).same ⟨rfl, rfl, rfl⟩
  next => exact h.takeException _ _

/-- Debug entry goes three instructions on (R570). -/
theorem Reaches.enterDebug {s t : State} (h : Reaches s t) (m : BitVec 4) : Reaches s (t.enterDebug m) :=
  h.advance.advance.advance.same ⟨rfl, rfl, rfl⟩

theorem Reaches.softBreakpoint {s t : State} (h : Reaches s t) : Reaches s t.softBreakpoint := by
  unfold State.softBreakpoint
  split
  · exact h.enterDebug _
  · exact h.takeException _ _

end Sys2Proof.Proofs
end

section
/-! PROOF. Every instruction is a chain of the moves of `Reaches`: one lemma per shared operation and frame, then the
instructions by the frame they are written in. The one instruction that needs to be of the set in force is the Thumb BL
suffix, which aligns its target for Thumb state. -/

namespace Sys2Proof.Proofs

open Sys2Proof.Machine

theorem Ensures.mono {P Q : State → Prop} {o : Out} (h : Ensures P o) (hPQ : ∀ t, P t → Q t) : Ensures Q o := by
  cases o with
  | next t => exact hPQ t h
  | fault _ => trivial
  | refused _ => trivial

/-! ### Single transfers, bursts and block transfers -/

theorem loadInto_reaches (s : State) (k : LoadKind) (user : Bool) (rn rd : Reg) (a : Addressed) :
    Reaches s (s.loadInto k user rn rd a) := by
  unfold State.loadInto
  dsimp only
  split
  next => exact (SameView.reaches (by constructor <;> simp)).dataAbort
  next =>
    split
    · exact (SameView.reaches (by constructor <;> simp)).loadPc _
    · exact (SameView.reaches (by constructor <;> simp)).advance

theorem storeFrom_reaches (s : State) (z : Size) (user : Bool) (rn rd : Reg) (a : Addressed) :
    Reaches s (s.storeFrom z user rn rd a) := by
  unfold State.storeFrom
  dsimp only
  split
  · exact (SameView.reaches (by constructor <;> simp)).advance
  · exact (SameView.reaches (by constructor <;> simp)).dataAbort

theorem loadDouble_reaches (s : State) (rn rd : Reg) (a : Addressed) : Reaches s (s.loadDouble rn rd a) := by
  unfold State.loadDouble
  dsimp only
  split
  · exact (SameView.reaches (by constructor <;> simp)).advance
  · refine (SameView.reaches ?_).dataAbort
    split <;> constructor <;> simp

theorem storeDouble_reaches (s : State) (rn rd : Reg) (a : Addressed) : Reaches s (s.storeDouble rn rd a) := by
  unfold State.storeDouble
  dsimp only
  split
  · exact (SameView.reaches (by constructor <;> simp)).advance
  · exact (SameView.reaches (by constructor <;> simp)).dataAbort

/-- A block load ends in the move its last action is. -/
theorem loadMultiple_reaches (s : State) (m : Mode) (p u w : Bool) (rn : Reg) (regs : List Reg)
    {fin : State → Word → State} (h : ∀ t v, Reaches s t → Reaches s (fin t v)) :
    Reaches s (s.loadMultiple m p u w rn regs fin) := by
  unfold State.loadMultiple State.finishLoad State.readList
  dsimp only
  split
  · refine h _ _ (SameView.reaches ?_)
    split <;> constructor <;> simp
  · exact (SameView.reaches (by constructor <;> simp)).dataAbort

theorem loadPcLast_reaches {s t : State} (regs : List Reg) (v : Word) (h : Reaches s t) :
    Reaches s (loadPcLast regs t v) := by
  unfold loadPcLast
  split
  · exact h.loadPc v
  · exact h.advance

/-- A block store ends in the move its last action is. -/
theorem storeMultiple_reaches (s : State) (p u w : Bool) (rn : Reg) (vs : List Word) {fin : State → State}
    (h : ∀ t, Reaches s t → Reaches s (fin t)) : Reaches s (s.storeMultiple p u w rn vs fin) := by
  unfold State.storeMultiple
  dsimp only
  split
  · refine h _ (Reaches.advance (SameView.reaches ?_))
    split <;> constructor <;> simp
  · exact (SameView.reaches (by constructor <;> simp)).dataAbort

theorem storeRegs_reaches (s : State) (p u w : Bool) (rn : Reg) (regs : List Reg) :
    Reaches s (s.storeRegs p u w rn regs) := by
  unfold State.storeRegs
  split
  · exact (SameView.reaches (by constructor <;> simp)).trans (storeMultiple_reaches s.draw.2 _ _ _ _ _ fun _ h => h)
  · exact storeMultiple_reaches s _ _ _ _ _ fun _ h => h

theorem swap_reaches (s : State) (k : LoadKind) (rn rd rm : Reg) : Reaches s (s.swap k rn rd rm) := by
  unfold State.swap
  dsimp only
  split
  · exact (SameView.reaches (by constructor <;> simp)).advance
  · exact (SameView.reaches (by constructor <;> simp)).dataAbort
  · refine (SameView.reaches ?_).dataAbort
    split <;> constructor <;> simp

theorem loadCoprocessor_reaches (s : State) (n : Nat) (rn : Reg) (a : Addressed) :
    Reaches s (s.loadCoprocessor n rn a) := by
  unfold State.loadCoprocessor
  dsimp only
  split
  · exact (SameView.reaches (by constructor <;> simp)).advance
  · exact (SameView.reaches (by constructor <;> simp)).dataAbort

theorem storeCoprocessor_reaches (s : State) (vs : List Word) (rn : Reg) (a : Addressed) :
    Reaches s (s.storeCoprocessor vs rn a) := by
  unfold State.storeCoprocessor
  dsimp only
  split
  · exact (SameView.reaches (by constructor <;> simp)).advance
  · exact (SameView.reaches (by constructor <;> simp)).dataAbort

/-! ### Results -/

/-- Flags are written over a result, and the T bit is kept. -/
theorem setCpsr_advance_reaches {s t : State} {p : Word} (h : SameView s t) (hT : psrT p = psrT s.cpsr) :
    Reaches s (t.setCpsr p).advance :=
  have flagged : SameView s (t.setCpsr p) := ⟨h.pc, hT, h.ice⟩
  flagged.reaches.advance

theorem writeResult_reaches (s : State) (f : Bool) (rd : Reg) {r : Word × Word} (hT : psrT r.2 = psrT s.cpsr) :
    Reaches s (s.writeResult f rd r) := by
  unfold State.writeResult
  split
  · split
    · exact Reaches.refl.exceptionReturn _
    · exact Reaches.refl.writePc _
  · split
    · exact setCpsr_advance_reaches (by constructor <;> simp) hT
    · exact (SameView.reaches (by constructor <;> simp)).advance

theorem writeHigh_reaches (s : State) (rd : Reg) (v : Word) : Reaches s (s.writeHigh rd v) := by
  unfold State.writeHigh
  split
  · exact Reaches.refl.writePc v
  · exact (SameView.reaches (by constructor <;> simp)).advance

/-! ### The frames that instructions share -/

theorem ifPassed_reaches {s : State} {c : Cond} {k : State → Out} (h : Ensures (Reaches s) (k s)) :
    Ensures (Reaches s) (s.ifPassed c k) :=
  ensures_ifPassed (fun _ => Reaches.refl.advance) fun _ => h

theorem registerShift_reaches {s : State} {c : Cond} {regs : List Reg} {k : State → Out}
    (h : Ensures (Reaches s) (k s)) : Ensures (Reaches s) (registerShift c regs k s) :=
  ensures_registerShift (fun _ => Reaches.refl.advance) fun _ _ => h

/-- An operation's flags leave the T bit as it is. -/
def KeepsT (op : AluOp) : Prop := ∀ a b p, psrT (op a b p).2 = psrT p

theorem dataProcessing_reaches {op : AluOp} (hT : KeepsT op) (c : Cond) (f : Bool) (rn rd : Reg)
    (b : State → Shifted) (s : State) : Ensures (Reaches s) (dataProcessing op c f rn rd b s) :=
  ifPassed_reaches (writeResult_reaches s f rd (hT _ _ _))

theorem dataMove_reaches {op : AluOp} (hT : KeepsT op) (c : Cond) (f : Bool) (rd : Reg) (b : State → Shifted)
    (s : State) : Ensures (Reaches s) (dataMove op c f rd b s) :=
  ifPassed_reaches (writeResult_reaches s f rd (hT _ _ _))

theorem dataCompare_reaches {op : AluOp} (hT : KeepsT op) (c : Cond) (rn : Reg) (b : State → Shifted) (s : State) :
    Ensures (Reaches s) (dataCompare op c rn b s) :=
  ifPassed_reaches (setCpsr_advance_reaches (.refl s) (hT _ _ _))

theorem multiplyFrame_reaches {s : State} {c : Cond} {regs : List Reg} {k : State → State} (h : SameView s (k s)) :
    Ensures (Reaches s) (multiplyFrame c regs k s) :=
  ensures_multiplyFrame (fun _ => Reaches.refl.advance) fun _ _ => h.reaches.advance

theorem loadSingle_reaches (k : LoadKind) (pcOk user : Bool) (rn rd : Reg) (rm : Option Reg) (a : Addressed)
    (s : State) : Ensures (Reaches s) (loadSingle k pcOk user rn rd rm a s) :=
  ensures_loadSingle fun _ _ _ => loadInto_reaches ..

theorem storeSingle_reaches (z : Size) (pcOk user : Bool) (rn rd : Reg) (rm : Option Reg) (a : Addressed)
    (s : State) : Ensures (Reaches s) (storeSingle z pcOk user rn rd rm a s) :=
  ensures_storeSingle fun _ _ => storeFrom_reaches ..

theorem loadDoubleword_reaches (rn rd : Reg) (rm : Option Reg) (a : Addressed) (s : State) :
    Ensures (Reaches s) (loadDoubleword rn rd rm a s) :=
  ensures_loadDoubleword (fun _ => Reaches.refl.takeException _ _) fun _ _ => loadDouble_reaches ..

theorem storeDoubleword_reaches (rn rd : Reg) (rm : Option Reg) (a : Addressed) (s : State) :
    Ensures (Reaches s) (storeDoubleword rn rd rm a s) :=
  ensures_storeDoubleword (fun _ => Reaches.refl.takeException _ _) fun _ _ => storeDouble_reaches ..

theorem swapFrame_reaches (k : LoadKind) (o : SwpOps) (s : State) : Ensures (Reaches s) (swapFrame k o s) :=
  ifPassed_reaches (ensures_unless fun _ => ensures_unless fun _ => swap_reaches ..)

/-- An accepted coprocessor instruction goes on from the state its offer left. -/
theorem coprocessor_reaches {instr : Word} {cp : BitVec 4} {k : Nat → List Word → State → Out} {s : State}
    (h : ∀ more ws t, Reaches s t → Ensures (Reaches s) (k more ws t)) :
    Ensures (Reaches s) (coprocessor instr cp k s) :=
  have offered : Reaches s (s.cpAnswer.2.cpOffer instr) := SameView.reaches (by constructor <;> simp)
  ensures_coprocessor (fun _ => Reaches.refl.takeException _ _) (fun _ _ => offered.takeException _ _)
    (fun _ _ => offered.same (by constructor <;> simp)) fun _ _ _ _ => h _ _ _ offered

theorem moveToCoprocessor_reaches (instr : Word) (cp : BitVec 4) (rd : Reg) (s : State) :
    Ensures (Reaches s) (moveToCoprocessor instr cp rd s) :=
  coprocessor_reaches fun _ _ _ h => (h.same (by constructor <;> simp)).advance

theorem moveFromCoprocessor_reaches (instr : Word) (cp : BitVec 4) (rd : Reg) (s : State) :
    Ensures (Reaches s) (moveFromCoprocessor instr cp rd s) :=
  coprocessor_reaches fun _ _ _ h => (h.same (by constructor <;> simp)).advance

theorem coprocessorLoad_reaches (instr : Word) (cp : BitVec 4) (rn : Reg) (a : State → Addressed) (s : State) :
    Ensures (Reaches s) (coprocessorLoad instr cp rn a s) :=
  coprocessor_reaches fun _ _ _ h => ensures_unless fun _ => h.trans (loadCoprocessor_reaches ..)

theorem coprocessorStore_reaches (instr : Word) (cp : BitVec 4) (rn : Reg) (a : State → Addressed) (s : State) :
    Ensures (Reaches s) (coprocessorStore instr cp rn a s) :=
  coprocessor_reaches fun _ _ _ h => ensures_unless fun _ =>
    (h.same (by constructor <;> simp)).trans (storeCoprocessor_reaches ..)

theorem thumbResult_reaches (rd : LowReg) {r : State → Word × Word} {s : State} (hT : psrT (r s).2 = psrT s.cpsr) :
    Ensures (Reaches s) (thumbResult rd r s) :=
  setCpsr_advance_reaches (by constructor <;> simp) hT

theorem thumbCompare_reaches {r : State → Word × Word} {s : State} (hT : psrT (r s).2 = psrT s.cpsr) :
    Ensures (Reaches s) (thumbCompare r s) :=
  setCpsr_advance_reaches (.refl s) hT

/-! ### The meanings with a frame of their own -/

theorem execMrs_reaches (o : MrsOps) (s : State) : Ensures (Reaches s) (execMrs o s) := by
  refine ifPassed_reaches (ensures_unless fun _ => ?_)
  split
  · split <;> exact (SameView.reaches (by constructor <;> simp)).advance
  · exact (SameView.reaches (by constructor <;> simp)).advance

theorem execMcr_reaches (o : McrOps) (s : State) : Ensures (Reaches s) (execMcr o s) := by
  refine ifPassed_reaches ?_
  split
  · exact (SameView.reaches (by constructor <;> simp)).advance
  · exact moveToCoprocessor_reaches ..

theorem execMrc_reaches (o : McrOps) (s : State) : Ensures (Reaches s) (execMrc o s) := by
  refine ifPassed_reaches ?_
  split
  · exact (SameView.reaches (by constructor <;> simp)).advance
  · exact moveFromCoprocessor_reaches ..

theorem execTBlSuffix_reaches (o : TBranchOps) {s : State} (h : s.thumb = true) :
    Ensures (Reaches s) (execTBlSuffix o s) := by
  have linked : Reaches s (s.setReg 14#4 s.thumbLink) := SameView.reaches (by constructor <;> simp)
  have hw := linked.writePc (s.reg 14#4 + (zext o.imm11 <<< 1))
  rwa [State.writePc, State.setReg_thumb, h] at hw

/-- Every instruction of the set in force is a chain of moves: each by the frame its meaning is written in. -/
theorem exec_reaches (i : Instr) (s : State) (hset : s.thumb = false → armRow i = true) :
    Ensures (Reaches s) (exec i s) := by
  have linked (v : Word) : Reaches s (s.setReg 14#4 v) := SameView.reaches (by constructor <;> simp)
  unfold exec
  cases i with
  | andImm o | andShift o | eorImm o | eorShift o | orrImm o | orrShift o | bicImm o | bicShift o =>
    exact dataProcessing_reaches (psrT_logicalOp _) ..
  | subImm o | subShift o | rsbImm o | rsbShift o | addImm o | addShift o | adcImm o | adcShift o | sbcImm o
  | sbcShift o | rscImm o | rscShift o => exact dataProcessing_reaches (psrT_arithmeticOp _) ..
  | andReg o | eorReg o | orrReg o | bicReg o =>
    exact registerShift_reaches (dataProcessing_reaches (psrT_logicalOp _) ..)
  | subReg o | rsbReg o | addReg o | adcReg o | sbcReg o | rscReg o =>
    exact registerShift_reaches (dataProcessing_reaches (psrT_arithmeticOp _) ..)
  | movImm o | movShift o | mvnImm o | mvnShift o => exact dataMove_reaches (psrT_logicalOp _) ..
  | movReg o | mvnReg o => exact registerShift_reaches (dataMove_reaches (psrT_logicalOp _) ..)
  | tstImm o | tstShift o | teqImm o | teqShift o => exact dataCompare_reaches (psrT_logicalOp _) ..
  | cmpImm o | cmpShift o | cmnImm o | cmnShift o => exact dataCompare_reaches (psrT_arithmeticOp _) ..
  | tstReg o | teqReg o => exact registerShift_reaches (dataCompare_reaches (psrT_logicalOp _) ..)
  | cmpReg o | cmnReg o => exact registerShift_reaches (dataCompare_reaches (psrT_arithmeticOp _) ..)
  | mul o | mla o | umull o | umlal o | smull o | smlal o | qadd o | qsub o | qdadd o | qdsub o | smulXy o | smlaXy o
  | smulW o | smlaW o | smlalXy o => exact multiplyFrame_reaches (by constructor <;> simp)
  | clz o =>
    exact ifPassed_reaches (ensures_unless fun _ => (SameView.reaches (by constructor <;> simp)).advance)
  | mrs o => exact execMrs_reaches o s
  | msrReg o =>
    exact ifPassed_reaches (ensures_unless fun _ => (SameView.reaches (by constructor <;> simp)).advance)
  | msrImm o => exact ifPassed_reaches (SameView.reaches (by constructor <;> simp)).advance
  | swi o => exact ifPassed_reaches (Reaches.refl.takeException _ _)
  | bkpt o => exact Reaches.refl.softBreakpoint
  | b o => exact ifPassed_reaches (Reaches.refl.writePc _)
  | bl o => exact ifPassed_reaches ((linked _).writePc _)
  | bx o => exact ifPassed_reaches (Reaches.refl.branchExchange _)
  | blxReg o => exact ifPassed_reaches (ensures_unless fun _ => (linked _).branchExchange _)
  | blxImm o =>
    have hj := (linked (s.pc + 4#32)).jump (setPsrT s.cpsr true)
      (branchTarget s.pc o.imm24 + (if o.h then 2#32 else 0#32))
    rwa [psrT_setPsrT] at hj
  | ldrImmPre o | ldrImmPost o | ldrtImm o | ldrRegPre o | ldrRegPost o | ldrtReg o | ldrbImmPre o | ldrbImmPost o
  | ldrbtImm o | ldrbRegPre o | ldrbRegPost o | ldrbtReg o | ldrhImm o | ldrhReg o | ldrsbImm o | ldrsbReg o
  | ldrshImm o | ldrshReg o => exact ifPassed_reaches (loadSingle_reaches ..)
  | strImmPre o | strImmPost o | strtImm o | strRegPre o | strRegPost o | strtReg o | strbImmPre o | strbImmPost o
  | strbtImm o | strbRegPre o | strbRegPost o | strbtReg o | strhImm o | strhReg o =>
    exact ifPassed_reaches (storeSingle_reaches ..)
  | ldrdImm o | ldrdReg o => exact ifPassed_reaches (loadDoubleword_reaches ..)
  | strdImm o | strdReg o => exact ifPassed_reaches (storeDoubleword_reaches ..)
  | pldImm o => exact (SameView.reaches (by constructor <;> simp)).advance
  | pldReg o => exact ensures_unless fun _ => (SameView.reaches (by constructor <;> simp)).advance
  | swp o | swpb o => exact swapFrame_reaches ..
  | ldm1 o =>
    exact ifPassed_reaches (ensures_unless fun _ => loadMultiple_reaches _ _ _ _ _ _ _ fun _ _ =>
      loadPcLast_reaches _ _)
  | ldm2 o =>
    exact ifPassed_reaches (ensures_unless fun _ => ensures_unless fun _ =>
      loadMultiple_reaches _ _ _ _ _ _ _ fun _ _ h => (h.same (by constructor <;> simp)).advance)
  | ldm3 o =>
    exact ifPassed_reaches (ensures_unless fun _ => loadMultiple_reaches _ _ _ _ _ _ _ fun _ v h =>
      h.exceptionReturn v)
  | stm1 o => exact ifPassed_reaches (ensures_unless fun _ => storeRegs_reaches ..)
  | stm2 o =>
    exact ifPassed_reaches (ensures_unless fun _ => ensures_unless fun _ =>
      storeMultiple_reaches _ _ _ _ _ _ fun _ h => h.same (by constructor <;> simp))
  | cdp o => exact ifPassed_reaches (coprocessor_reaches fun _ _ _ h => h.advance)
  | cdp2 o => exact coprocessor_reaches fun _ _ _ h => h.advance
  | mcr o => exact execMcr_reaches o s
  | mrc o => exact execMrc_reaches o s
  | mcr2 o => exact moveToCoprocessor_reaches ..
  | mrc2 o => exact moveFromCoprocessor_reaches ..
  | mcrr o =>
    exact ifPassed_reaches (coprocessor_reaches fun _ _ _ h => ensures_unless fun _ =>
      (h.same (by constructor <;> simp)).advance)
  | mrrc o =>
    exact ifPassed_reaches (coprocessor_reaches fun _ _ _ h => ensures_unless fun _ => ensures_unless fun _ =>
      (h.same (by constructor <;> simp)).advance)
  | ldc o => exact ifPassed_reaches (coprocessorLoad_reaches ..)
  | stc o => exact ifPassed_reaches (coprocessorStore_reaches ..)
  | ldc2 o => exact coprocessorLoad_reaches ..
  | stc2 o => exact coprocessorStore_reaches ..
  | tLslImm o | tLsrImm o | tAsrImm o | tMovImm o | tAnd o | tEor o | tLslReg o | tLsrReg o | tAsrReg o | tRor o
  | tOrr o | tBic o | tMvn o => exact thumbResult_reaches _ (psrT_logicalOp _ _ _ _)
  | tAddReg o | tSubReg o | tAddImm3 o | tSubImm3 o | tAddImm8 o | tSubImm8 o | tAdc o | tSbc o | tNeg o =>
    exact thumbResult_reaches _ (psrT_arithmeticOp _ _ _ _)
  | tMul o => exact thumbResult_reaches _ (psrT_setPsrNZ _ _)
  | tTst o => exact thumbCompare_reaches (psrT_logicalOp _ _ _ _)
  | tCmpImm o | tCmpLow o | tCmn o => exact thumbCompare_reaches (psrT_arithmeticOp _ _ _ _)
  | tCmpHi o => exact ensures_unless fun _ => thumbCompare_reaches (psrT_arithmeticOp _ _ _ _)
  | tAddHi o | tMovHi o => exact writeHigh_reaches ..
  | tAddPc o | tAddSp o | tIncSp o | tDecSp o | tBlPrefix o =>
    exact (SameView.reaches (by constructor <;> simp)).advance
  | tLdrPc o | tLdrReg o | tLdrhReg o | tLdrbReg o | tLdrsbReg o | tLdrshReg o | tLdrImm o | tLdrbImm o | tLdrhImm o
  | tLdrSp o => exact loadInto_reaches ..
  | tStrReg o | tStrhReg o | tStrbReg o | tStrImm o | tStrbImm o | tStrhImm o | tStrSp o => exact storeFrom_reaches ..
  | tPush o | tStmia o => exact ensures_unless fun _ => storeRegs_reaches ..
  | tPop o =>
    exact ensures_unless fun _ => loadMultiple_reaches _ _ _ _ _ _ _ fun _ _ => loadPcLast_reaches _ _
  | tLdmia o => exact ensures_unless fun _ => loadMultiple_reaches _ _ _ _ _ _ _ fun _ _ h => h.advance
  | tBCond o => exact ifPassed_reaches (Reaches.refl.writePc _)
  | tB o => exact Reaches.refl.writePc _
  | tBx o => exact Reaches.refl.branchExchange _
  | tBlxReg o => exact ensures_unless fun _ => (linked _).branchExchange _
  | tBlSuffix o => exact execTBlSuffix_reaches o (by simpa [armRow] using hset)
  | tBlxSuffix o =>
    have hj := (linked s.thumbLink).jump (setPsrT s.cpsr false) (s.reg 14#4 + (zext o.imm10 <<< 2))
    rwa [psrT_setPsrT] at hj
  | tSwi o => exact Reaches.refl.takeException _ _
  | tBkpt o => exact Reaches.refl.softBreakpoint

end Sys2Proof.Proofs
end

section
/-! PROOF. Every step is a chain of the moves of `Reaches`: the decoder answers instructions of its own set, the head of
the queue is of the set in force, and each part of a boundary is a chain of moves. -/

namespace Sys2Proof.Proofs

open Sys2Proof.Machine

theorem ensures_andThen {P Q : State → Prop} {o : Out} {k : State → Out} (h : Ensures P o)
    (hk : ∀ t, P t → Ensures Q (k t)) : Ensures Q (andThen o k) := by
  cases o with
  | next t => exact hk t h
  | fault _ => trivial
  | refused _ => trivial

/-- What is reached from a state with the same view is reached. -/
theorem SameView.ensures {s t : State} {o : Out} (v : SameView s t) (h : Ensures (Reaches t) o) :
    Ensures (Reaches s) o :=
  h.mono fun _ => v.reaches.trans

/-! ### The ARM decoder answers rows of the ARM set -/

/-- The decoded word is a row of the ARM set, if it is an instruction. -/
def ofArmSet : Except Reject Instr → Bool
  | .ok i => armRow i
  | .error _ => true

section
variable (c : Cond) (w : Word)

theorem armRow_decodeAluImm : armRow (decodeAluImm c w) = true := by
  simp only [decodeAluImm, apply_ite armRow]
  simp only [armRow, ite_self]

theorem armRow_decodeAluShift : armRow (decodeAluShift c w) = true := by
  simp only [decodeAluShift, apply_ite armRow]
  simp only [armRow, ite_self]

theorem armRow_decodeAluReg : armRow (decodeAluReg c w) = true := by
  simp only [decodeAluReg, apply_ite armRow]
  simp only [armRow, ite_self]

theorem armRow_decodeDspMul : armRow (decodeDspMul c w) = true := by
  unfold decodeDspMul
  dsimp only
  split_ifs <;> rfl

theorem armRow_decodeExtra : armRow (decodeExtra c w) = true := by
  unfold decodeExtra
  dsimp only
  split_ifs <;> rfl

theorem armRow_decodeMemImm : armRow (decodeMemImm c w) = true := by
  unfold decodeMemImm
  dsimp only
  split_ifs <;> rfl

theorem armRow_decodeMemReg : armRow (decodeMemReg c w) = true := by
  unfold decodeMemReg
  dsimp only
  split_ifs <;> rfl

theorem armRow_decodeMultiple : armRow (decodeMultiple c w) = true := by
  unfold decodeMultiple
  dsimp only
  split_ifs <;> rfl

theorem armRow_decode111 : armRow (decode111 c w) = true := by
  unfold decode111
  split_ifs <;> rfl

theorem ofArmSet_decodeMisc : ofArmSet (decodeMisc c w) = true := by
  unfold decodeMisc
  dsimp only
  split_ifs <;> rfl

theorem ofArmSet_decodeMultiply : ofArmSet (decodeMultiply c w) = true := by
  unfold decodeMultiply
  dsimp only
  split_ifs <;> rfl

theorem ofArmSet_decode000 : ofArmSet (decode000 c w) = true := by
  unfold decode000
  split_ifs
  · exact ofArmSet_decodeMultiply c w
  · exact armRow_decodeExtra c w
  · exact armRow_decodeDspMul c w
  · exact ofArmSet_decodeMisc c w
  · exact armRow_decodeAluShift c w
  · exact armRow_decodeAluReg c w

theorem ofArmSet_decode001 : ofArmSet (decode001 c w) = true := by
  unfold decode001
  split_ifs
  · rfl
  · rfl
  · exact armRow_decodeAluImm c w

theorem ofArmSet_decode110 : ofArmSet (decode110 c w) = true := by
  unfold decode110
  split_ifs <;> rfl

theorem ofArmSet_decodeCond : ofArmSet (decodeCond c w) = true := by
  unfold decodeCond
  dsimp only
  split_ifs
  · exact ofArmSet_decode000 c w
  · exact ofArmSet_decode001 c w
  · exact armRow_decodeMemImm c w
  · exact armRow_decodeMemReg c w
  · rfl
  · exact armRow_decodeMultiple c w
  · rfl
  · rfl
  · exact ofArmSet_decode110 c w
  · exact armRow_decode111 c w

theorem ofArmSet_decodeUncond : ofArmSet (decodeUncond w) = true := by
  unfold decodeUncond
  split_ifs <;> rfl

end

theorem armRow_of_decodeArm {w : Word} {i : Instr} (h : decodeArm w = .ok i) : armRow i = true := by
  have hset : ofArmSet (decodeArm w) = true := by
    unfold decodeArm
    split
    · exact ofArmSet_decodeCond _ w
    · exact ofArmSet_decodeUncond w
  rwa [h] at hset

/-! ### Instructions as a boundary runs them -/

theorem execNext_reaches (i : Instr) (s : State) (hset : s.thumb = false → armRow i = true) :
    Ensures (Reaches s) (execNext i s) :=
  ensures_unless fun _ =>
    SameView.ensures (t := { s with bankHazard := false }) ⟨rfl, rfl, rfl⟩ (exec_reaches i _ hset)

/-- A word scanned in is of the set in force. -/
theorem armRow_of_scannedKind {s : State} {w : Word} {i : Instr} {k : Kind} (h : s.scannedKind w = some (i, k))
    (ht : s.thumb = false) : armRow i = true := by
  unfold State.scannedKind at h
  split at h
  next => cases h
  next j hj =>
    split at h
    · cases h
    · cases h
      exact armRow_of_decodeArm (by simpa [State.scannedInstr, ht] using hj)

theorem runScanned_reaches (w : Word) (s : State) : Ensures (Reaches s) (runScanned w s) := by
  unfold runScanned
  split
  next => exact ensures_refused _ _
  next i k hk => exact ensures_unless fun _ => execNext_reaches i s (armRow_of_scannedKind hk)

/-- The head of the queue, if there is one, was fetched for the set in force. -/
def HeadFits (s : State) : Prop := ∀ f ∈ s.fetchQ.head?, f.thumb = s.thumb

theorem fetch_headFits {s : State} (h : HeadFits s) (a : Word) : HeadFits (s.fetch a) := by
  intro f hf
  cases hq : s.fetchQ with
  | nil =>
    simp only [State.fetch, hq, List.nil_append, List.head?_cons, Option.mem_def, Option.some.injEq] at hf
    subst hf
    rfl
  | cons g gs =>
    simp only [State.fetch, hq, List.cons_append, List.head?_cons, Option.mem_def, Option.some.injEq] at hf
    subst hf
    exact h g (by simp [hq])

theorem prefetch_headFits (n : Nat) (a : Word) {s : State} (h : HeadFits s) : HeadFits (prefetch n a s) := by
  induction n generalizing a s with
  | zero => exact h
  | succ n ih => exact ih _ (fetch_headFits h a)

theorem fillQueue_headFits (s : State) : HeadFits s.fillQueue := by
  refine prefetch_headFits _ _ fun f hf => ?_
  have live := List.head?_dropWhile_not (fun f : Fetched => !(f.addr == s.pc && f.thumb == s.thumb)) s.fetchQ
  have hq : s.liveQueue.head? = some f := hf
  rw [State.liveQueue] at hq
  rw [hq] at live
  obtain ⟨_, ht⟩ : f.addr = s.pc ∧ f.thumb = s.thumb := by simpa using live
  exact ht

theorem fetch_sameView (s : State) (a : Word) : SameView s (s.fetch a) := by
  refine ⟨rfl, rfl, ?_⟩
  simp only [State.fetch, State.fetchCompare]
  split <;> simp

theorem prefetch_sameView (n : Nat) (a : Word) (s : State) : SameView s (prefetch n a s) := by
  induction n generalizing a s with
  | zero => exact .refl s
  | succ n ih => exact (fetch_sameView s a).trans (ih _ _)

theorem fillQueue_sameView (s : State) : SameView s s.fillQueue :=
  SameView.trans (t := { s with fetchQ := s.liveQueue }) ⟨rfl, rfl, rfl⟩ (prefetch_sameView _ _ _)

theorem executeHead_reaches {f : Fetched} {s : State} (hf : f.thumb = s.thumb) :
    Ensures (Reaches s) (executeHead f s) := by
  have cleared : SameView s { s with bankHazard := false } := ⟨rfl, rfl, rfl⟩
  unfold executeHead
  split
  next =>
    refine ensures_unless fun _ => ?_
    dsimp only
    split
    · exact cleared.reaches.takeException _ _
    · exact cleared.reaches.advance
  next i hi =>
    refine execNext_reaches i s fun ht => armRow_of_decodeArm (w := f.bits) ?_
    rwa [Fetched.instr, hf, ht] at hi

/-! ### The head of the queue -/

theorem guardAccess_ensures {P : State → Prop} (s : State) (z : Size) (a : Word) {k : Out} (h : Ensures P k) :
    Ensures P (s.guardAccess z a k) := by
  unfold State.guardAccess
  split
  · exact h
  · split <;> trivial

theorem guardCycles_ensures {P : State → Prop} {s : State} (h : P s) (cs : List BusCycle) :
    Ensures P (s.guardCycles cs) := by
  induction cs with
  | nil => exact h
  | cons c cs ih =>
    unfold State.guardCycles
    split
    · exact guardAccess_ensures s _ _ ih
    · exact ih

theorem entryException_reaches (s : State) : Reaches s s.entryException := by
  unfold State.entryException
  split
  · exact Reaches.refl.takeException _ _
  · split
    · exact Reaches.refl.takeException _ _
    · split
      · split
        · exact Reaches.refl.takeException _ _
        · exact Reaches.refl
      · exact Reaches.refl

theorem breakpointHit_reaches (s : State) (m : BitVec 4) : Reaches s (s.breakpointHit m) := by
  unfold State.breakpointHit
  split
  · exact (Reaches.refl.takeException .prefetchAbort (s.pc + 4#32)).same ⟨rfl, rfl, rfl⟩
  · split
    next w _ => exact ((entryException_reaches s).enterDebug w).same ⟨rfl, rfl, rfl⟩
    next => exact Reaches.refl.enterDebug m

theorem runHead_reaches {f : Fetched} {s : State} (hf : f.thumb = s.thumb) : Ensures (Reaches s) (runHead f s) := by
  refine guardAccess_ensures s _ _ ?_
  split
  · exact Reaches.refl.takeException _ _
  · split
    next m _ => exact breakpointHit_reaches s m
    next => exact ensures_andThen (executeHead_reaches hf) fun t ht => guardCycles_ensures ht t.bus

theorem runNext_reaches {s : State} (h : HeadFits s) : Ensures (Reaches s) (runNext s) := by
  unfold runNext
  split
  next => exact Reaches.refl
  next f _ hq => exact runHead_reaches (h f (by simp [hq]))

/-! ### The core's part of a boundary -/

theorem watchDone_reaches (s : State) (m : BitVec 4) : Reaches s (s.watchDone m) := by
  unfold State.watchDone
  split
  · exact (Reaches.refl.takeException .dataAbort (s.pc + 4#32)).same ⟨rfl, rfl, rfl⟩
  · exact ((entryException_reaches s).enterDebug m).same ⟨rfl, rfl, rfl⟩

theorem normalBoundary_reaches {s : State} (h : HeadFits s) : Ensures (Reaches s) (normalBoundary s) := by
  unfold normalBoundary
  split
  · exact Reaches.refl.enterDebug _
  · split
    · exact Reaches.refl.takeException _ _
    · split
      · exact Reaches.refl.takeException _ _
      · exact runNext_reaches h

theorem watchBoundary_reaches {s : State} (h : HeadFits s) : Ensures (Reaches s) (watchBoundary s) := by
  have armed (m : BitVec 4) :
      Ensures (Reaches s) (runNext { s with dbg := { s.dbg with watch := .armed m } }) :=
    SameView.ensures (t := { s with dbg := { s.dbg with watch := .armed m } }) ⟨rfl, rfl, rfl⟩ (runNext_reaches h)
  unfold watchBoundary
  split
  next => exact normalBoundary_reaches h
  next m _ =>
    split
    · exact armed m
    · exact watchDone_reaches s m
  next m _ =>
    split
    · exact watchDone_reaches s m
    · exact armed m
  next m _ => exact watchDone_reaches s m
  next m _ => exact (Reaches.refl.enterDebug m).same ⟨rfl, rfl, rfl⟩

theorem align4_vectorBase (c : Cfg) : align4 c.vectorBase = c.vectorBase := by
  unfold Cfg.vectorBase
  split <;> decide

/-- Core reset writes the pc and the T bit together (R56). -/
theorem Reaches.resetCore {s t : State} (h : Reaches s t) : Reaches s t.resetCore := by
  have hj := h.jump (resetCpsr (Config.freeWord (t.freeIx + 35))) t.cfg.vectorBase
  refine hj.same ⟨?_, ?_, ?_⟩
  · simp [State.resetCore, alignPc, align4_vectorBase]
  · simp [State.resetCore, State.thumb]
  · simp [State.resetCore]

theorem coreReset_reaches (s : State) : Reaches s s.coreReset := by
  refine (SameView.reaches ?_).resetCore
  rw [cutStores_frame]
  exact ⟨rfl, rfl, rfl⟩

theorem coreBoundary_reaches (s : State) : Ensures (Reaches s) (coreBoundary s) := by
  unfold coreBoundary
  split
  · exact ensures_unless fun _ => coreReset_reaches s
  · split
    · exact Reaches.refl
    · split
      · exact guardCycles_ensures .refl _
      · exact ensures_unless fun _ => (fillQueue_sameView s).ensures (watchBoundary_reaches (fillQueue_headFits s))

/-! ### Debug state at work -/

theorem Reaches.leaveDebug {s t : State} (h : Reaches s t) : Reaches s t.leaveDebug := h.same ⟨rfl, rfl, rfl⟩

/-- After a system speed access the pc goes three or four instructions on (R570). -/
theorem Reaches.reenterDebug {s t : State} (h : Reaches s t) (aborted : Bool) :
    Reaches s (t.reenterDebug aborted) := by
  cases aborted with
  | true => exact h.advance.advance.advance.same ⟨rfl, rfl, rfl⟩
  | false => exact h.advance.advance.advance.advance.same ⟨rfl, rfl, rfl⟩

theorem systemAccess_reaches {i : Instr} {s : State} (hset : s.thumb = false → armRow i = true) :
    Ensures (Reaches s) (systemAccess i s) :=
  ensures_andThen (P := Reaches s)
    (SameView.ensures (t := { s with dbg := { s.dbg with systemSpeed := true } }) ⟨rfl, rfl, rfl⟩
      (execNext_reaches i _ hset))
    fun _ ht => ht.reenterDebug _

theorem restartCore_reaches (s : State) : Ensures (Reaches s) (restartCore s) := by
  unfold restartCore
  split
  · exact Reaches.refl
  · split
    next => exact Reaches.refl.leaveDebug
    next w _ =>
      split
      next i k _ hk =>
        split
        · exact systemAccess_reaches (armRow_of_scannedKind hk)
        · exact ensures_andThen (execNext_reaches i s (armRow_of_scannedKind hk)) fun _ ht => ht.leaveDebug
      next => exact ensures_andThen (runScanned_reaches w s) fun _ ht => ht.leaveDebug

theorem afterScanned_sameView (s before : State) (w : Word) : SameView s (s.afterScanned before w) := by
  unfold State.afterScanned
  split <;> exact ⟨rfl, rfl, rfl⟩

theorem scanInstr_reaches (w : Word) (system : Bool) (data : Word) (s : State) :
    Ensures (Reaches s) (scanInstr w system data s) := by
  unfold scanInstr
  split
  · exact Reaches.refl
  · split
    next =>
      refine SameView.reaches ?_
      split <;> exact ⟨rfl, rfl, rfl⟩
    next p _ =>
      refine ensures_unless fun _ => ?_
      split
      · exact SameView.reaches ⟨rfl, rfl, rfl⟩
      · dsimp only
        split
        · exact SameView.reaches ⟨rfl, rfl, rfl⟩
        · have supplied : SameView s { s with dbg := { s.dbg with dataIn := s.dbg.dataIn ++ [data] } } :=
            ⟨rfl, rfl, rfl⟩
          exact ensures_andThen (supplied.ensures (runScanned_reaches p _)) fun u hu =>
            hu.same (afterScanned_sameView u _ w)

/-! ### The debug port -/

theorem captureDr_frame (s : State) :
    ∃ tap dbg ix, s.captureDr = { s with tap := tap, dbg := dbg, freeIx := ix } := by
  unfold State.captureDr
  cases s.tap.selected with
  | chain1 =>
    simp only [State.captureChain1]
    split <;> exact ⟨_, _, _, rfl⟩
  | bypass | idCode | chainSelect | chain2 | external | reserved => exact ⟨_, _, _, rfl⟩

theorem shiftDr_frame (s : State) (tdi : Bool) :
    ∃ tap dbg ix, s.shiftDr tdi = { s with tap := tap, dbg := dbg, freeIx := ix } := by
  unfold State.shiftDr
  dsimp only
  split <;> exact ⟨_, _, _, rfl⟩

/-- The action of a TAP state changes the TAP's own records, or is the update of scan chain 2 (R546 to R552). -/
theorem tapAct_rule {P : State → Prop} {s : State} (tdi : Bool)
    (records : ∀ tap dbg ix, P { s with tap := tap, dbg := dbg, freeIx := ix }) (chain2 : P s.updateChain2) :
    P (s.tapAct tdi).1 := by
  have unchanged : P s := records s.tap s.dbg s.freeIx
  unfold State.tapAct
  cases s.tap.state with
  | captureDr =>
    dsimp only
    split
    · exact unchanged
    · obtain ⟨tap, dbg, ix, h⟩ := captureDr_frame s
      rw [h]
      exact records tap dbg ix
  | shiftDr =>
    obtain ⟨tap, dbg, ix, h⟩ := shiftDr_frame s tdi
    dsimp only
    rw [h]
    exact records tap dbg ix
  | updateDr =>
    simp only [State.updateDr]
    split
    · exact records _ s.dbg s.freeIx
    · split
      · exact unchanged
      · exact chain2
      · exact unchanged
    · exact unchanged
  | reset | captureIr | shiftIr | updateIr => exact records _ s.dbg s.freeIx
  | idle | selectDr | exit1Dr | pauseDr | exit2Dr | selectIr | exit1Ir | pauseIr | exit2Ir => exact unchanged

theorem settings_afterRead (i : Ice) (a : BitVec 5) : settings (i.afterRead a) = settings i := by
  unfold Ice.afterRead
  split <;> rfl

/-- Scan chain 2 writes a debug register or reads one (R552). -/
theorem updateChain2_reaches (s : State) : Reaches s s.updateChain2 := by
  have enabled : Reaches s { s with ice := { s.ice with offLatch := false } } := SameView.reaches ⟨rfl, rfl, rfl⟩
  unfold State.updateChain2
  dsimp only
  split
  · exact enabled.debugWrite _ _
  · refine SameView.reaches ⟨?_, ?_, settings_afterRead _ _⟩
    · split <;> rfl
    · split <;> rfl

theorem tapClock_reaches (s : State) (c : TapClock) : Reaches s (s.tapClock c).1 := by
  have settled : SameView s s.settleIce := ⟨rfl, rfl, rfl⟩
  have acted : Reaches s.settleIce (s.settleIce.tapAct c.tdi).1 :=
    tapAct_rule c.tdi (fun _ _ _ => SameView.reaches ⟨rfl, rfl, rfl⟩) (updateChain2_reaches _)
  exact (settled.reaches.trans acted).same ⟨rfl, rfl, rfl⟩

theorem tapAction_reaches (a : TapAction) (s : State) : Ensures (Reaches s) (tapAction a s) := by
  unfold tapAction
  split
  next => exact Reaches.refl
  next =>
    split
    · exact scanInstr_reaches ..
    · exact Reaches.refl
  next =>
    split
    · exact restartCore_reaches s
    · exact Reaches.refl
  next => exact ensures_refused _ _

theorem tapClocks_reaches (cs : List TapClock) {s t : State} (h : Reaches s t) :
    Ensures (Reaches s) (tapClocks cs t) := by
  induction cs generalizing t with
  | nil => exact h
  | cons c cs ih =>
    have clocked := h.trans (tapClock_reaches t c)
    exact ensures_andThen ((tapAction_reaches _ _).mono fun _ => clocked.trans) fun _ hu => ih hu

/-- Every step is a chain of moves. -/
theorem step_reaches (s : State) : Ensures (Reaches s) (step s) := by
  have sampled : Reaches s s.sample := SameView.reaches ⟨rfl, rfl, rfl⟩
  refine ensures_andThen (P := Reaches s) ?_ fun t ht => (coreBoundary_reaches t).mono fun _ => ht.trans
  unfold debugPort
  split
  · exact tapClocks_reaches _ sampled
  · exact sampled.debugReset

end Sys2Proof.Proofs
end

section
/-! PROOF. The invariants of a step (R14, R46, R237): the pc aligned for the instruction set in force, and the debug
register bits that read 0. Each is kept by every move of `Reaches`. -/

namespace Sys2Proof.Proofs

open Sys2Proof.Machine

/-! ### The aligned pc -/

theorem pcAligned_iff (s : State) : s.pcAligned ↔ s.pc.toNat % (if s.thumb then 2 else 4) = 0 := by
  unfold State.pcAligned
  split
  · exact Laws.align2_eq_iff s.pc
  · exact Laws.align4_eq_iff s.pc

theorem advance_pcAligned {s : State} (h : s.pcAligned) : s.advance.pcAligned := by
  rw [pcAligned_iff] at h ⊢
  cases ht : s.thumb <;> simp [State.instrSize, ht] at h ⊢ <;> omega

theorem alignPc_aligned (thumb : Bool) (v : Word) :
    if thumb then align2 (alignPc thumb v) = alignPc thumb v else align4 (alignPc thumb v) = alignPc thumb v := by
  cases thumb with
  | true => simp [alignPc, Laws.align2_eq_iff, Laws.align2_toNat]
  | false => simp [alignPc, Laws.align4_eq_iff, Laws.align4_toNat]

theorem reaches_pcAligned {s t : State} (r : Reaches s t) (h : s.pcAligned) : t.pcAligned := by
  induction r with
  | refl => exact h
  | same _ v ih => rwa [State.pcAligned, v.pc, v.thumb]
  | advance _ ih => exact advance_pcAligned ih
  | jump p v _ _ => exact alignPc_aligned (psrT p) v
  | debugWrite _ _ _ ih => exact ih
  | debugReset _ ih => exact ih

/-- Settles O7: every step is a chain of moves, and each move keeps the pc aligned. -/
theorem stepKeepsPcAligned : Obligations.StepKeepsPcAligned := by
  unfold Obligations.StepKeepsPcAligned
  intro s t hs h
  exact reaches_pcAligned (ensures_iff.mp (step_reaches s) t h) hs

/-! ### The reserved debug register bits -/

/-- The reserved bits are bits of the registers in view. -/
theorem fixedBits_of_settings {i j : Ice} (h : settings j = settings i) (hi : i.fixedBits) : j.fixedBits := by
  obtain ⟨hc, hv, h0, h1⟩ : j.control = i.control ∧ j.vectorCatch = i.vectorCatch ∧
      j.unit0.controlMask = i.unit0.controlMask ∧ j.unit1.controlMask = i.unit1.controlMask := by
    simpa [settings] using h
  rwa [Ice.fixedBits, hc, hv, h0, h1]

theorem write_control (i : Ice) (a : BitVec 5) (d : Word) :
    (i.write a d).control = if a = 0b00000#5 then fld d 0 6 &&& 0b110111#6 else i.control := by
  by_cases h : a = 0b00000#5
  · subst h
    rfl
  · simp only [Ice.write, Ice.writeRegister, apply_ite Ice.control, h, if_false, ite_self]

theorem write_vectorCatch (i : Ice) (a : BitVec 5) (d : Word) :
    (i.write a d).vectorCatch = if a = 0b00010#5 then fld d 0 8 &&& 0b11011111#8 else i.vectorCatch := by
  by_cases h : a = 0b00010#5
  · subst h
    rfl
  · simp only [Ice.write, Ice.writeRegister, apply_ite Ice.vectorCatch, h, if_false, ite_self]

theorem write_controlMask0 (i : Ice) (a : BitVec 5) (d : Word) :
    (i.write a d).unit0.controlMask = if a = 0b01101#5 then fld d 0 8 &&& 0b11110111#8 else i.unit0.controlMask := by
  by_cases h : a = 0b01101#5
  · subst h
    rfl
  · simp only [Ice.write, Ice.writeRegister, apply_ite Ice.unit0, apply_ite WatchUnit.controlMask, h, if_false,
      ite_self]

theorem write_controlMask1 (i : Ice) (a : BitVec 5) (d : Word) :
    (i.write a d).unit1.controlMask = if a = 0b10101#5 then fld d 0 8 &&& 0b11110111#8 else i.unit1.controlMask := by
  by_cases h : a = 0b10101#5
  · subst h
    rfl
  · simp only [Ice.write, Ice.writeRegister, apply_ite Ice.unit1, apply_ite WatchUnit.controlMask, h, if_false,
      ite_self]

/-- The debugger's write drops the reserved bits (R46, U14, R52). -/
theorem write_fixedBits {i : Ice} (h : i.fixedBits) (a : BitVec 5) (d : Word) : (i.write a d).fixedBits := by
  obtain ⟨hc, hv, h0, h1⟩ := h
  refine ⟨?_, ?_, ?_, ?_⟩
  · rw [write_control]
    split
    · simp [bitAt]
    · exact hc
  · rw [write_vectorCatch]
    split
    · simp [bitAt]
    · exact hv
  · rw [write_controlMask0]
    split
    · simp [bitAt]
    · exact h0
  · rw [write_controlMask1]
    split
    · simp [bitAt]
    · exact h1

theorem freeIce_fixedBits (ix : Nat) : (freeIce ix).fixedBits := by
  simp [Ice.fixedBits, freeIce, freeUnit, Ice.afterReset, bitAt]

theorem reaches_fixedBits {s t : State} (r : Reaches s t) (h : s.ice.fixedBits) : t.ice.fixedBits := by
  induction r with
  | refl => exact h
  | same _ v ih => exact fixedBits_of_settings v.ice ih
  | advance _ ih => exact ih
  | jump _ _ _ ih => exact ih
  | debugWrite a d _ ih => exact write_fixedBits ih a d
  | debugReset _ _ => exact freeIce_fixedBits _

/-- Settles O8: every step is a chain of moves, and each move leaves the reserved bits 0. -/
theorem stepKeepsDebugFixedBits : Obligations.StepKeepsDebugFixedBits := by
  unfold Obligations.StepKeepsDebugFixedBits
  intro s t hs h
  exact reaches_fixedBits (ensures_iff.mp (step_reaches s) t h) hs

/-- Settles O9: the state after reset has empty memories, the pc 0 and the reset values of the debug registers. -/
theorem resetInvariants : Obligations.ResetInvariants := by
  unfold Obligations.ResetInvariants
  exact ⟨⟨reset_memWf, reset_imemWf⟩, rfl, rfl, rfl, rfl, rfl⟩

end Sys2Proof.Proofs
end

section
/-! PROOF. A core stuck in an illegal mode (R25, D19): the TAP clocks its debug port serves change records of the debug
logic only, and nothing executes. -/

namespace Sys2Proof.Proofs

open Sys2Proof.Machine

/-- The program's state and the pins are the same in both states. -/
structure SameProgram (s t : State) : Prop where
  regs : t.regs = s.regs
  cpsr : t.cpsr = s.cpsr
  pc : t.pc = s.pc
  mem : t.mem = s.mem
  pins : t.pins = s.pins

theorem SameProgram.refl (s : State) : SameProgram s s := ⟨rfl, rfl, rfl, rfl, rfl⟩

theorem SameProgram.trans {s t u : State} (h : SameProgram s t) (h' : SameProgram t u) : SameProgram s u :=
  ⟨h'.regs.trans h.regs, h'.cpsr.trans h.cpsr, h'.pc.trans h.pc, h'.mem.trans h.mem, h'.pins.trans h.pins⟩

theorem stuck_iff (s : State) : s.stuck ↔ s.legalMode = false := by
  simp [State.stuck, State.legalMode]

theorem SameProgram.stuck {s t : State} (h : SameProgram s t) (hs : s.stuck) : t.stuck := by
  rwa [State.stuck, h.cpsr]

/-! ### The TAP clocks -/

theorem updateChain2_sameProgram (s : State) : SameProgram s s.updateChain2 := by
  unfold State.updateChain2
  dsimp only
  split
  · exact ⟨rfl, rfl, rfl, rfl, rfl⟩
  · constructor <;> dsimp only <;> split <;> rfl

theorem tapClock_sameProgram (s : State) (c : TapClock) : SameProgram s (s.tapClock c).1 := by
  obtain ⟨hregs, hcpsr, hpc, hmem, hpins⟩ : SameProgram s.settleIce (s.settleIce.tapAct c.tdi).1 :=
    tapAct_rule c.tdi (fun _ _ _ => ⟨rfl, rfl, rfl, rfl, rfl⟩) (updateChain2_sameProgram _)
  exact ⟨hregs, hcpsr, hpc, hmem, hpins⟩

/-- A stuck core carries out nothing that a TAP clock asks. -/
theorem tapAction_of_stuck (a : TapAction) {s : State} (h : s.stuck) :
    tapAction a s = .next s ∨ tapAction a s = .refused .extest := by
  have hl := (stuck_iff s).mp h
  cases a with
  | extest => exact .inr rfl
  | nothing => exact .inl rfl
  | scanned _ _ _ => exact .inl (by simp [tapAction, hl])
  | restart => exact .inl (by simp [tapAction, hl])

theorem tapClocks_sameProgram (cs : List TapClock) {s : State} (h : s.stuck) :
    Ensures (SameProgram s) (tapClocks cs s) := by
  induction cs generalizing s with
  | nil => exact .refl s
  | cons c cs ih =>
    have clocked := tapClock_sameProgram s c
    have ht := clocked.stuck h
    unfold tapClocks
    rcases tapAction_of_stuck (s.tapClock c).2 ht with ha | ha
    · rw [ha]
      exact (ih ht).mono fun _ => clocked.trans
    · rw [ha]
      exact ensures_refused _ _

theorem debugPort_sameProgram (cs : List TapClock) {s : State} (h : s.stuck) :
    Ensures (SameProgram s) (debugPort cs s) := by
  unfold debugPort
  split
  · exact tapClocks_sameProgram cs h
  · exact ⟨rfl, rfl, rfl, rfl, rfl⟩

/-! ### The step of a stuck core -/

/-- Without reset a stuck core does nothing after the debug port (R25). -/
theorem coreBoundary_of_stuck {s : State} (h : s.stuck) (hr : s.pins.nRESET = true) : coreBoundary s = .next s := by
  simp [coreBoundary, hr, (stuck_iff s).mp h]

theorem step_of_stuck {s : State} (h : s.stuck) (hr : s.sample.pins.nRESET = true) :
    step s = debugPort s.clocks s.sample := by
  have port := debugPort_sameProgram s.clocks (s := s.sample) h
  unfold step boundary
  cases hp : debugPort s.clocks s.sample with
  | next t =>
    have same : SameProgram s.sample t := ensures_iff.mp port t hp
    exact coreBoundary_of_stuck (same.stuck h) (by rwa [same.pins])
  | fault _ => rfl
  | refused _ => rfl

/-- With quiet pins the debug port has nothing to do. -/
theorem debugPort_of_quietPins {s : State} (h : Claims.quietPins s) :
    debugPort s.clocks s.sample = .next s.sample ∧ s.sample.pins.nRESET = true := by
  obtain ⟨hstream, hreset, htrst⟩ := h
  simp [debugPort, State.clocks, State.sample, tapClocks, hstream, hreset, htrst]

/-- Settles O12: a stuck step is the sampling of the inputs and the work of the debug port, and neither changes the
program's state. -/
theorem illegalModeStuck : Obligations.IllegalModeStuck := by
  unfold Obligations.IllegalModeStuck
  constructor
  · intro s hq hs
    obtain ⟨hport, hreset⟩ := debugPort_of_quietPins hq
    exact ⟨s.sample, (step_of_stuck hs hreset).trans hport, rfl, rfl, rfl, rfl, hs⟩
  · intro s t hr hs h
    rw [step_of_stuck hs hr] at h
    have same : SameProgram s.sample t := ensures_iff.mp (debugPort_sameProgram s.clocks (s := s.sample) hs) t h
    exact ⟨same.regs, same.cpsr, same.pc, same.mem, same.stuck hs⟩

end Sys2Proof.Proofs
end

section
/-! PROOF. The register file (R13, R15) and what reset leaves (R56, R57, R546, R550). -/

namespace Sys2Proof.Proofs

open Sys2Proof.Machine

/-- The number of a register in the register file, whichever bank it is of (R13). -/
def registerNumber (i : Fin 30) : Reg :=
  BitVec.ofNat 4 (if i.val < 15 then i.val else if i.val < 22 then i.val - 7 else 13 + i.val % 2)

theorem registerNumber_physIx (m : Mode) : ∀ n : Reg, n ≠ 15#4 → registerNumber (physIx m n) = n := by
  cases m <;> decide

/-- No two register numbers share a register, whatever the banks. -/
theorem number_eq_of_physIx_eq {m m' : Mode} {n n' : Reg} (hn : n ≠ 15#4) (hn' : n' ≠ 15#4)
    (h : physIx m n = physIx m' n') : n = n' := by
  rw [← registerNumber_physIx m n hn, h, registerNumber_physIx m' n' hn']

/-- Settles O16: the banks by their tables, the distinct numbers by `registerNumber`. -/
theorem registers : Obligations.Registers := by
  unfold Obligations.Registers Claims.registerBanks Claims.pcReads
  exact ⟨⟨fun _ _ => rfl, by decide, by decide, by decide, fun _ _ _ _ => number_eq_of_physIx_eq⟩, fun _ => rfl⟩

/-- Settles O10: each field of the state after reset, as it is written there. -/
theorem resetState : Obligations.ResetState := by
  unfold Obligations.ResetState
  exact ⟨by decide, rfl, rfl, rfl, rfl, rfl, rfl, rfl, rfl, rfl, rfl, rfl, rfl⟩

end Sys2Proof.Proofs
end

section
/-! PROOF. Memory (R62, R64, R90, R92): what a write leaves at each byte, what reads give back after it, and that the
lanes of `RDATA` are the bytes of the byte array. -/

namespace Sys2Proof.Proofs

open Sys2Proof.Machine

/-! ### Fields of a word -/

theorem fld_full {n : Nat} (w : BitVec n) : fld w 0 n = w := BitVec.extractLsb'_eq_self

theorem fld_fld {n : Nat} (w : BitVec n) {len lo len' : Nat} (h : lo + len' ≤ len) :
    fld (fld w 0 len) lo len' = fld w lo len' := BitVec.extractLsb'_extractLsb'_of_le h

theorem fld_append_low {m n : Nat} (x : BitVec m) (y : BitVec n) {lo len : Nat} (h : lo + len ≤ n) :
    fld (x ++ y) lo len = fld y lo len := BitVec.extractLsb'_append_eq_of_add_le h

theorem fld_append_high {m n : Nat} (x : BitVec m) (y : BitVec n) {lo len : Nat} (h : n ≤ lo) :
    fld (x ++ y) lo len = fld x (lo - n) len := BitVec.extractLsb'_append_eq_of_le h

/-- Neighbouring fields join. -/
theorem fld_join {n : Nat} (w : BitVec n) (lo k l : Nat) : fld w (lo + k) l ++ fld w lo k = fld w lo (l + k) :=
  BitVec.extractLsb'_append_extractLsb'_eq_extractLsb' rfl

/-! A halfword and a word are the bytes they hold. -/
theorem bytes_of_half {n : Nat} (v : BitVec n) : fld v 8 8 ++ fld v 0 8 = fld v 0 16 := fld_join v 0 8 8

theorem bytes_of_word (v : Word) : fld v 24 8 ++ fld v 16 8 ++ fld v 8 8 ++ fld v 0 8 = v :=
  calc fld v 24 8 ++ fld v 16 8 ++ fld v 8 8 ++ fld v 0 8
      = fld v 16 16 ++ fld v 8 8 ++ fld v 0 8 := by rw [← fld_join v 16 8 8]
    _ = fld v 8 24 ++ fld v 0 8 := by rw [← fld_join v 8 8 16]
    _ = fld v 0 32 := fld_join v 0 8 24
    _ = v := fld_full v

/-- The low bits of a word, zero-extended, are the word masked (R11). -/
theorem zext_fld_zero (v : Word) {n : Nat} (hn : n < 32) : zext (fld v 0 n) = v &&& BitVec.ofNat 32 (2 ^ n - 1) := by
  have hpow : 2 ^ n < 2 ^ 32 := Nat.pow_lt_pow_right (by decide) hn
  apply BitVec.eq_of_toNat_eq
  have hmask : (BitVec.ofNat 32 (2 ^ n - 1)).toNat = 2 ^ n - 1 := by
    rw [BitVec.toNat_ofNat, Nat.mod_eq_of_lt (by omega)]
  have hlow : (zext (fld v 0 n)).toNat = v.toNat % 2 ^ n := by
    simpa [zext, fld] using lt_trans (Nat.mod_lt v.toNat (Nat.two_pow_pos n)) hpow
  rw [hlow, BitVec.toNat_and, hmask, Nat.and_two_pow_sub_one_eq_mod]

/-! ### A write, byte by byte -/

/-- Memory with the `n` bytes from address `b` on replaced, each by the byte for its offset. -/
def putBytes (m : Memory) (b : Word) (f : Nat → Byte) : Nat → Memory
  | 0 => m
  | n + 1 => (putBytes m b f n).putByte (b + BitVec.ofNat 32 n) (f n)

theorem putBytes_wf {m : Memory} (h : m.wf = true) (b : Word) (f : Nat → Byte) (n : Nat) :
    (putBytes m b f n).wf = true := by
  induction n with
  | zero => exact h
  | succ n ih => exact Memory.putByte_wf ih _ _

/-- Addresses wrap at 2^32 (D8), and so do offsets. -/
theorem eq_add_iff_offset (x b : Word) {k : Nat} (hk : k < 2 ^ 32) :
    x = b + BitVec.ofNat 32 k ↔ (x - b).toNat = k := by
  constructor <;> intro h <;> bv_omega

theorem byte_putBytes {m : Memory} (h : m.wf = true) (b x : Word) (f : Nat → Byte) {n : Nat} (hn : n ≤ 2 ^ 32) :
    (putBytes m b f n).byte x = if (x - b).toNat < n then f (x - b).toNat else m.byte x := by
  induction n with
  | zero => rfl
  | succ n ih =>
    rw [putBytes, Memory.byte_putByte (putBytes_wf h b f n), ih (by omega)]
    simp only [eq_add_iff_offset x b (show n < 2 ^ 32 by omega)]
    rcases Nat.lt_trichotomy (x - b).toNat n with hlt | heq | hgt
    · rw [if_neg (by omega), if_pos hlt, if_pos (by omega)]
    · rw [if_pos heq, if_pos (by omega), heq]
    · rw [if_neg (by omega), if_neg (by omega), if_neg (by omega)]

/-- The number of bytes of a transfer (R85). -/
def sizeBytes : Size → Nat
  | .byte => 1
  | .half => 2
  | .word => 4

/-- Which byte of a value of `n` bytes, counted from its low end, stands at offset `i` (R62). -/
def place (big : Bool) (n i : Nat) : Nat := if big then n - 1 - i else i

theorem place_lt (big : Bool) {n i : Nat} (hi : i < n) : place big n i < n := by
  unfold place; split <;> omega

theorem place_place (big : Bool) {n i : Nat} (hi : i < n) : place big n (place big n i) = i := by
  cases big with
  | false => rfl
  | true => simp only [place, if_true]; omega

/-- The byte of the value that goes to an offset of the aligned unit, by byte order (R62). -/
def valueByte (big : Bool) (z : Size) (v : Word) (i : Nat) : Byte := fld v (8 * place big (sizeBytes z) i) 8

theorem write_eq_putBytes (m : Memory) (big : Bool) (z : Size) (a v : Word) :
    m.write big z a v = putBytes m (z.align a) (valueByte big z v) (sizeBytes z) := by
  cases z with
  | byte => cases big <;> simp [Memory.write, putBytes, sizeBytes, valueByte, place, Size.align]
  | half =>
    cases big <;> simp [Memory.write, Memory.putHalf, putBytes, sizeBytes, valueByte, place, Size.align, fld_fld]
  | word => cases big <;> simp [Memory.write, Memory.putWord, putBytes, sizeBytes, valueByte, place, Size.align]

theorem storedByte_eq (big : Bool) (z : Size) (a v x : Word) : Claims.storedByte big z a v x =
    if (x - z.align a).toNat < sizeBytes z then some (valueByte big z v (x - z.align a).toNat) else none := by
  cases z <;> rfl

/-- A write leaves each byte of its aligned unit at its byte of the value, and every other byte alone. -/
theorem byte_write {m : Memory} (h : m.wf = true) (big : Bool) (z : Size) (a v x : Word) :
    (m.write big z a v).byte x = (Claims.storedByte big z a v x).getD (m.byte x) := by
  have hn : sizeBytes z ≤ 2 ^ 32 := by cases z <;> decide
  rw [write_eq_putBytes, byte_putBytes h _ _ _ hn, storedByte_eq]
  split <;> rfl

theorem byte_write_offset {m : Memory} (h : m.wf = true) (big : Bool) (z : Size) (a v : Word) {i : Nat}
    (hi : i < sizeBytes z) : (m.write big z a v).byte (z.align a + BitVec.ofNat 32 i) = valueByte big z v i := by
  have hn : sizeBytes z ≤ 2 ^ 32 := by cases z <;> decide
  have offset := (eq_add_iff_offset _ (z.align a) (lt_of_lt_of_le hi hn)).mp rfl
  rw [byte_write h, storedByte_eq, offset, if_pos hi, Option.getD_some]

/-! ### Reading back -/

/-- What is written is read back: the bits of the size. -/
theorem read_write {m : Memory} (h : m.wf = true) (big : Bool) (z : Size) (a v : Word) :
    (m.write big z a v).read big z a = zext (fld v 0 (8 * sizeBytes z)) := by
  cases z with
  | byte =>
    have hread := byte_write_offset h big .byte a v (i := 0) (by decide)
    cases big <;> simp_all [Memory.read, Size.align, valueByte, place, sizeBytes]
  | half =>
    have h0 := byte_write_offset h big .half a v (i := 0) (by decide)
    have h1 := byte_write_offset h big .half a v (i := 1) (by decide)
    cases big <;> simp_all [Memory.read, Memory.half, Size.align, valueByte, place, sizeBytes, bytes_of_half]
  | word =>
    have h0 := byte_write_offset h big .word a v (i := 0) (by decide)
    have h1 := byte_write_offset h big .word a v (i := 1) (by decide)
    have h2 := byte_write_offset h big .word a v (i := 2) (by decide)
    have h3 := byte_write_offset h big .word a v (i := 3) (by decide)
    cases big <;> simp_all [Memory.read, Memory.word, Size.align, valueByte, place, sizeBytes, bytes_of_word, fld_full,
      zext]

/-- Settles O17: both parts from the bytes that a write leaves. -/
theorem memoryWrites : Obligations.MemoryWrites := by
  unfold Obligations.MemoryWrites
  refine ⟨fun m big z a v h => ?_, fun m big z a v x h => byte_write h big z a v x⟩
  rw [read_write h]
  cases z with
  | byte => exact zext_fld_zero v (by decide)
  | half => exact zext_fld_zero v (by decide)
  | word => exact (congrArg zext (fld_full v)).trans (BitVec.setWidth_eq v)

/-! ### The lanes of `RDATA` -/

theorem byte_lanes (p q r s : Byte) : fld (p ++ q ++ r ++ s) 0 8 = s ∧ fld (p ++ q ++ r ++ s) 8 8 = r ∧
    fld (p ++ q ++ r ++ s) 16 8 = q ∧ fld (p ++ q ++ r ++ s) 24 8 = p := by
  refine ⟨?_, ?_, ?_, ?_⟩
  · rw [fld_append_low _ s (by decide), fld_full]
  · rw [fld_append_high _ s (by decide), fld_append_low _ r (by decide), fld_full]
  · rw [fld_append_high _ s (by decide), fld_append_high _ r (by decide), fld_append_low _ q (by decide), fld_full]
  · rw [fld_append_high _ s (by decide), fld_append_high _ r (by decide), fld_append_high _ q (by decide), fld_full]

/-- The byte lanes of a word of memory, by byte order (R90). -/
theorem fld_word (m : Memory) (big : Bool) (b : Word) {i : Nat} (hi : i < 4) :
    fld (m.word big b) (8 * i) 8 = m.byte (b + BitVec.ofNat 32 (place big 4 i)) := by
  cases big with
  | false =>
    obtain ⟨h0, h1, h2, h3⟩ := byte_lanes (m.byte (b + 3)) (m.byte (b + 2)) (m.byte (b + 1)) (m.byte b)
    interval_cases i <;> simpa [Memory.word, place]
  | true =>
    obtain ⟨h0, h1, h2, h3⟩ := byte_lanes (m.byte b) (m.byte (b + 1)) (m.byte (b + 2)) (m.byte (b + 3))
    interval_cases i <;> simpa [Memory.word, place]

theorem lower_half_word (m : Memory) (big : Bool) (b : Word) :
    fld (m.word big b) 0 16 = m.half big (if big then b + 2 else b) := by
  have h0 := fld_word m big b (i := 0) (by decide)
  have h1 := fld_word m big b (i := 1) (by decide)
  rw [← bytes_of_half]
  cases big <;> simp_all [Memory.half, place, BitVec.add_assoc]

theorem upper_half_word (m : Memory) (big : Bool) (b : Word) :
    fld (m.word big b) 16 16 = m.half big (if big then b else b + 2) := by
  have h2 := fld_word m big b (i := 2) (by decide)
  have h3 := fld_word m big b (i := 3) (by decide)
  rw [← fld_join (m.word big b) 16 8 8]
  cases big <;> simp_all [Memory.half, place, BitVec.add_assoc]

/-- The lane that holds the byte at an address (R90). -/
theorem laneRead_byte (big : Bool) (a r : Word) :
    laneRead big .byte a r = zext (fld r (8 * place big 4 (fld a 0 2).toNat) 8) := by
  have four : ∀ k : BitVec 2, k = 0 ∨ k = 1 ∨ k = 2 ∨ k = 3 := by decide
  unfold laneRead
  cases big <;> rcases four (fld a 0 2) with hk | hk | hk | hk <;> simp [hk, place]

/-- An address is its word's address and its two low bits. -/
theorem align4_add_low (a : Word) : align4 a + BitVec.ofNat 32 (fld a 0 2).toNat = a := by
  apply BitVec.eq_of_toNat_eq
  have hlow : (fld a 0 2).toNat = a.toNat % 4 := by simp [fld]
  have h4 := Laws.align4_toNat a
  rw [BitVec.toNat_add, BitVec.toNat_ofNat, h4, hlow]
  omega

theorem align2_eq (a : Word) : align2 a = if bitAt a 1 then align4 a + 2 else align4 a := by
  have h4 := Laws.align4_toNat a
  have h2 := Laws.align2_toNat a
  apply BitVec.eq_of_toNat_eq
  rw [bitAt, BitVec.getLsbD, Nat.testBit_eq_decide_div_mod_eq]
  split <;> simp_all <;> omega

/-- Settles O18: each lane is the field of the word that holds the bytes at the address. -/
theorem lanesAgree : Obligations.LanesAgree := by
  unfold Obligations.LanesAgree
  intro m big z a
  cases z with
  | word => rfl
  | half =>
    cases big <;> cases hb : bitAt a 1 <;>
      simp [Memory.read, laneRead, lower_half_word, upper_half_word, align2_eq, hb]
  | byte =>
    have hk : (fld a 0 2).toNat < 4 := (fld a 0 2).isLt
    rw [laneRead_byte, fld_word m big _ (place_lt big hk), place_place big hk, align4_add_low]
    rfl

end Sys2Proof.Proofs
end

section
/-! PROOF. Every step keeps the canonical form of both memories (R60, D2): a store keeps it, and whatever else an
instruction or a boundary does leaves the memories alone. One lemma per operation that stores and per frame, then the
instructions by the frame they are written in, then the parts of a boundary. -/

namespace Sys2Proof.Proofs

open Sys2Proof.Machine

/-- Going from `s` to `t` keeps the canonical form of both memories. -/
structure KeepsForm (s t : State) : Prop where
  mem : s.mem.wf = true → t.mem.wf = true
  imem : s.imem.wf = true → t.imem.wf = true

theorem KeepsForm.refl (s : State) : KeepsForm s s := ⟨id, id⟩

theorem KeepsForm.trans {s t u : State} (h : KeepsForm s t) (h' : KeepsForm t u) : KeepsForm s u :=
  ⟨h'.mem ∘ h.mem, h'.imem ∘ h.imem⟩

/-- What keeps the form from `t` on keeps it from `s` on. -/
theorem KeepsForm.ensures {s t : State} {o : Out} (h : KeepsForm s t) (ho : Ensures (KeepsForm t) o) :
    Ensures (KeepsForm s) o :=
  ho.mono fun _ => h.trans

/-! ### The operations that store -/

theorem dataWrite_keepsForm (s : State) (q : Req) (v : Word) : KeepsForm s (s.dataWrite q v).2 :=
  ⟨fun h => State.dataWrite_memWf h q v, fun h => State.dataWrite_imemWf h q v⟩

theorem writeWords_keepsForm (vs : List Word) (s : State) (a : Word) (q : Bool) (b : BitVec 4) :
    KeepsForm s (writeWords vs s a q b).2 := by
  induction vs generalizing s a q with
  | nil => exact .refl s
  | cons v vs ih => exact (dataWrite_keepsForm s _ v).trans (ih _ _ _)

theorem storeFrom_keepsForm (s : State) (z : Size) (user : Bool) (rn rd : Reg) (a : Addressed) :
    KeepsForm s (s.storeFrom z user rn rd a) := by
  have stored := dataWrite_keepsForm s { Req.plain a.addr z with user := user } (s.storeReg rd)
  unfold State.storeFrom
  dsimp only
  split <;> exact stored.trans (by constructor <;> simp)

theorem storeDouble_keepsForm (s : State) (rn rd : Reg) (a : Addressed) : KeepsForm s (s.storeDouble rn rd a) := by
  have stored := writeWords_keepsForm [s.reg rd, s.reg (rd + 1)] s a.addr false 0b0001#4
  unfold State.storeDouble
  dsimp only
  split <;> exact stored.trans (by constructor <;> simp)

theorem storeCoprocessor_keepsForm (s : State) (vs : List Word) (rn : Reg) (a : Addressed) :
    KeepsForm s (s.storeCoprocessor vs rn a) := by
  have stored := writeWords_keepsForm vs s a.addr false 0
  unfold State.storeCoprocessor
  dsimp only
  split <;> exact stored.trans (by constructor <;> simp)

/-- A block store keeps the form if its last action does. -/
theorem storeMultiple_keepsForm (s : State) (p u w : Bool) (rn : Reg) (vs : List Word) {fin : State → State}
    (h : ∀ t, KeepsForm t (fin t)) : KeepsForm s (s.storeMultiple p u w rn vs fin) := by
  have stored := writeWords_keepsForm vs s (mode4 p u vs.length (s.reg rn)).1 false (burstLength vs.length)
  unfold State.storeMultiple
  dsimp only
  split
  · refine (stored.trans ?_).trans (h _)
    split <;> constructor <;> simp
  · exact stored.trans (by constructor <;> simp)

theorem storeRegs_keepsForm (s : State) (p u w : Bool) (rn : Reg) (regs : List Reg) :
    KeepsForm s (s.storeRegs p u w rn regs) := by
  have drawn : KeepsForm s s.draw.2 := ⟨id, id⟩
  unfold State.storeRegs
  split
  · exact drawn.trans (storeMultiple_keepsForm _ _ _ _ _ _ .refl)
  · exact storeMultiple_keepsForm _ _ _ _ _ _ .refl

/-- A swap stores, or has the memories it began with put back. -/
theorem swap_keepsForm (s : State) (k : LoadKind) (rn rd rm : Reg) : KeepsForm s (s.swap k rn rd rm) := by
  have loaded : KeepsForm s (s.dataRead (Req.locked (s.reg rn) k.size)).2 := by constructor <;> simp
  have stored := loaded.trans (dataWrite_keepsForm _ (Req.locked (s.reg rn) k.size) (s.reg rm))
  unfold State.swap
  dsimp only
  split
  · exact stored.trans (by constructor <;> simp)
  · exact stored.trans (by constructor <;> simp)
  · split
    · exact stored.trans (by constructor <;> simp)
    · constructor <;> simp [State.withMemoryOf]

/-- A block load stores nothing: it keeps the form if its last action leaves the memories alone. -/
theorem loadMultiple_keepsForm (s : State) (m : Mode) (p u w : Bool) (rn : Reg) (regs : List Reg)
    {fin : State → Word → State} (hmem : ∀ t v, (fin t v).mem = t.mem) (himem : ∀ t v, (fin t v).imem = t.imem) :
    KeepsForm s (s.loadMultiple m p u w rn regs fin) := by
  constructor
  · rw [State.loadMultiple_mem s m p u w rn regs fin hmem]
    exact id
  · rw [State.loadMultiple_imem s m p u w rn regs fin himem]
    exact id

theorem loadPcLast_mem (regs : List Reg) (s : State) (v : Word) : (loadPcLast regs s v).mem = s.mem := by
  unfold loadPcLast; split <;> simp

theorem loadPcLast_imem (regs : List Reg) (s : State) (v : Word) : (loadPcLast regs s v).imem = s.imem := by
  unfold loadPcLast; split <;> simp

/-! ### The frames that instructions share -/

theorem ifPassed_keepsForm {s : State} {c : Cond} {k : State → Out} (h : Ensures (KeepsForm s) (k s)) :
    Ensures (KeepsForm s) (s.ifPassed c k) :=
  ensures_ifPassed (fun _ => ⟨id, id⟩) fun _ => h

theorem registerShift_keepsForm {s : State} {c : Cond} {regs : List Reg} {k : State → Out}
    (h : Ensures (KeepsForm s) (k s)) : Ensures (KeepsForm s) (registerShift c regs k s) :=
  ensures_registerShift (fun _ => ⟨id, id⟩) fun _ _ => h

theorem dataProcessing_keepsForm (op : AluOp) (c : Cond) (f : Bool) (rn rd : Reg) (b : State → Shifted) (s : State) :
    Ensures (KeepsForm s) (dataProcessing op c f rn rd b s) :=
  ifPassed_keepsForm (by constructor <;> simp)

theorem dataMove_keepsForm (op : AluOp) (c : Cond) (f : Bool) (rd : Reg) (b : State → Shifted) (s : State) :
    Ensures (KeepsForm s) (dataMove op c f rd b s) :=
  ifPassed_keepsForm (by constructor <;> simp)

theorem dataCompare_keepsForm (op : AluOp) (c : Cond) (rn : Reg) (b : State → Shifted) (s : State) :
    Ensures (KeepsForm s) (dataCompare op c rn b s) :=
  ifPassed_keepsForm ⟨id, id⟩

theorem multiplyFrame_keepsForm {s : State} {c : Cond} {regs : List Reg} {k : State → State} (h : KeepsForm s (k s)) :
    Ensures (KeepsForm s) (multiplyFrame c regs k s) :=
  ensures_multiplyFrame (fun _ => ⟨id, id⟩) fun _ _ => h.trans ⟨id, id⟩

theorem loadSingle_keepsForm (k : LoadKind) (pcOk user : Bool) (rn rd : Reg) (rm : Option Reg) (a : Addressed)
    (s : State) : Ensures (KeepsForm s) (loadSingle k pcOk user rn rd rm a s) :=
  ensures_loadSingle fun _ _ _ => by constructor <;> simp

theorem storeSingle_keepsForm (z : Size) (pcOk user : Bool) (rn rd : Reg) (rm : Option Reg) (a : Addressed)
    (s : State) : Ensures (KeepsForm s) (storeSingle z pcOk user rn rd rm a s) :=
  ensures_storeSingle fun _ _ => storeFrom_keepsForm ..

theorem loadDoubleword_keepsForm (rn rd : Reg) (rm : Option Reg) (a : Addressed) (s : State) :
    Ensures (KeepsForm s) (loadDoubleword rn rd rm a s) :=
  ensures_loadDoubleword (fun _ => by constructor <;> simp) fun _ _ => by constructor <;> simp

theorem storeDoubleword_keepsForm (rn rd : Reg) (rm : Option Reg) (a : Addressed) (s : State) :
    Ensures (KeepsForm s) (storeDoubleword rn rd rm a s) :=
  ensures_storeDoubleword (fun _ => by constructor <;> simp) fun _ _ => storeDouble_keepsForm ..

theorem swapFrame_keepsForm (k : LoadKind) (o : SwpOps) (s : State) : Ensures (KeepsForm s) (swapFrame k o s) :=
  ifPassed_keepsForm (ensures_unless fun _ => ensures_unless fun _ => swap_keepsForm ..)

/-- A handshake keeps the form if the accepted instruction does, from the state its offer left. -/
theorem coprocessor_keepsForm {instr : Word} {cp : BitVec 4} {k : Nat → List Word → State → Out} {s : State}
    (h : ∀ more ws t, Ensures (KeepsForm t) (k more ws t)) : Ensures (KeepsForm s) (coprocessor instr cp k s) :=
  have offered : KeepsForm s (s.cpAnswer.2.cpOffer instr) := ⟨id, id⟩
  ensures_coprocessor (fun _ => by constructor <;> simp) (fun _ _ => by constructor <;> simp)
    (fun _ _ => ⟨id, id⟩) fun more ws _ _ => offered.ensures (h more ws _)

theorem moveToCoprocessor_keepsForm (instr : Word) (cp : BitVec 4) (rd : Reg) (s : State) :
    Ensures (KeepsForm s) (moveToCoprocessor instr cp rd s) :=
  coprocessor_keepsForm fun _ _ _ => by constructor <;> simp

theorem moveFromCoprocessor_keepsForm (instr : Word) (cp : BitVec 4) (rd : Reg) (s : State) :
    Ensures (KeepsForm s) (moveFromCoprocessor instr cp rd s) :=
  coprocessor_keepsForm fun _ _ _ => by constructor <;> simp

theorem coprocessorLoad_keepsForm (instr : Word) (cp : BitVec 4) (rn : Reg) (a : State → Addressed) (s : State) :
    Ensures (KeepsForm s) (coprocessorLoad instr cp rn a s) :=
  coprocessor_keepsForm fun _ _ _ => ensures_unless fun _ => by constructor <;> simp

theorem coprocessorStore_keepsForm (instr : Word) (cp : BitVec 4) (rn : Reg) (a : State → Addressed) (s : State) :
    Ensures (KeepsForm s) (coprocessorStore instr cp rn a s) :=
  coprocessor_keepsForm fun more ws t => ensures_unless fun _ =>
    have supplied : KeepsForm t (suppliedWords (more + 1) ws t).2 := by constructor <;> simp
    supplied.trans (storeCoprocessor_keepsForm ..)

/-! ### The instructions -/

theorem execMrs_keepsForm (o : MrsOps) (s : State) : Ensures (KeepsForm s) (execMrs o s) := by
  refine ifPassed_keepsForm (ensures_unless fun _ => ?_)
  split
  · split <;> constructor <;> simp
  · constructor <;> simp

theorem execMcr_keepsForm (o : McrOps) (s : State) : Ensures (KeepsForm s) (execMcr o s) := by
  refine ifPassed_keepsForm ?_
  split
  · constructor <;> simp
  · exact moveToCoprocessor_keepsForm _ _ _ _

theorem execMrc_keepsForm (o : McrOps) (s : State) : Ensures (KeepsForm s) (execMrc o s) := by
  refine ifPassed_keepsForm ?_
  split
  · constructor <;> simp
  · exact moveFromCoprocessor_keepsForm _ _ _ _

/-- Every instruction keeps the form: those that store by `dataWrite`, the others leave the memories alone. -/
theorem exec_keepsForm (i : Instr) (s : State) : Ensures (KeepsForm s) (exec i s) := by
  unfold exec
  cases i with
  | andImm o | andShift o | eorImm o | eorShift o | subImm o | subShift o | rsbImm o | rsbShift o | addImm o
  | addShift o | adcImm o | adcShift o | sbcImm o | sbcShift o | rscImm o | rscShift o | orrImm o | orrShift o
  | bicImm o | bicShift o => exact dataProcessing_keepsForm ..
  | andReg o | eorReg o | subReg o | rsbReg o | addReg o | adcReg o | sbcReg o | rscReg o | orrReg o | bicReg o =>
    exact registerShift_keepsForm (dataProcessing_keepsForm ..)
  | movImm o | movShift o | mvnImm o | mvnShift o => exact dataMove_keepsForm ..
  | movReg o | mvnReg o => exact registerShift_keepsForm (dataMove_keepsForm ..)
  | tstImm o | tstShift o | teqImm o | teqShift o | cmpImm o | cmpShift o | cmnImm o | cmnShift o =>
    exact dataCompare_keepsForm ..
  | tstReg o | teqReg o | cmpReg o | cmnReg o => exact registerShift_keepsForm (dataCompare_keepsForm ..)
  | mul o | mla o | umull o | umlal o | smull o | smlal o | qadd o | qsub o | qdadd o | qdsub o | smulXy o | smlaXy o
  | smulW o | smlaW o | smlalXy o => exact multiplyFrame_keepsForm (by constructor <;> simp)
  | mrs o => exact execMrs_keepsForm o s
  | clz o | msrReg o | blxReg o => exact ifPassed_keepsForm (ensures_unless fun _ => by constructor <;> simp)
  | msrImm o | swi o | b o | bl o | bx o | tBCond o => exact ifPassed_keepsForm (by constructor <;> simp)
  | ldrImmPre o | ldrImmPost o | ldrtImm o | ldrRegPre o | ldrRegPost o | ldrtReg o | ldrbImmPre o | ldrbImmPost o
  | ldrbtImm o | ldrbRegPre o | ldrbRegPost o | ldrbtReg o | ldrhImm o | ldrhReg o | ldrsbImm o | ldrsbReg o
  | ldrshImm o | ldrshReg o => exact ifPassed_keepsForm (loadSingle_keepsForm ..)
  | strImmPre o | strImmPost o | strtImm o | strRegPre o | strRegPost o | strtReg o | strbImmPre o | strbImmPost o
  | strbtImm o | strbRegPre o | strbRegPost o | strbtReg o | strhImm o | strhReg o =>
    exact ifPassed_keepsForm (storeSingle_keepsForm ..)
  | ldrdImm o | ldrdReg o => exact ifPassed_keepsForm (loadDoubleword_keepsForm ..)
  | strdImm o | strdReg o => exact ifPassed_keepsForm (storeDoubleword_keepsForm ..)
  | swp o | swpb o => exact swapFrame_keepsForm ..
  | ldm1 o =>
    exact ifPassed_keepsForm (ensures_unless fun _ =>
      loadMultiple_keepsForm _ _ _ _ _ _ _ (loadPcLast_mem _) (loadPcLast_imem _))
  | ldm2 o =>
    exact ifPassed_keepsForm (ensures_unless fun _ => ensures_unless fun _ =>
      loadMultiple_keepsForm _ _ _ _ _ _ _ (by simp) (by simp))
  | ldm3 o =>
    exact ifPassed_keepsForm (ensures_unless fun _ => loadMultiple_keepsForm _ _ _ _ _ _ _ (by simp) (by simp))
  | stm1 o => exact ifPassed_keepsForm (ensures_unless fun _ => storeRegs_keepsForm ..)
  | stm2 o =>
    exact ifPassed_keepsForm (ensures_unless fun _ => ensures_unless fun _ =>
      storeMultiple_keepsForm _ _ _ _ _ _ fun _ => ⟨id, id⟩)
  | cdp o => exact ifPassed_keepsForm (coprocessor_keepsForm fun _ _ _ => ⟨id, id⟩)
  | cdp2 o => exact coprocessor_keepsForm fun _ _ _ => ⟨id, id⟩
  | mcr o => exact execMcr_keepsForm o s
  | mrc o => exact execMrc_keepsForm o s
  | mcr2 o => exact moveToCoprocessor_keepsForm ..
  | mrc2 o => exact moveFromCoprocessor_keepsForm ..
  | mcrr o =>
    exact ifPassed_keepsForm (coprocessor_keepsForm fun _ _ _ => ensures_unless fun _ => by constructor <;> simp)
  | mrrc o =>
    exact ifPassed_keepsForm (coprocessor_keepsForm fun _ _ _ =>
      ensures_unless fun _ => ensures_unless fun _ => by constructor <;> simp)
  | ldc o => exact ifPassed_keepsForm (coprocessorLoad_keepsForm ..)
  | stc o => exact ifPassed_keepsForm (coprocessorStore_keepsForm ..)
  | ldc2 o => exact coprocessorLoad_keepsForm ..
  | stc2 o => exact coprocessorStore_keepsForm ..
  | tLslImm o | tLsrImm o | tAsrImm o | tAddReg o | tSubReg o | tAddImm3 o | tSubImm3 o | tMovImm o | tAddImm8 o
  | tSubImm8 o | tAnd o | tEor o | tLslReg o | tLsrReg o | tAsrReg o | tAdc o | tSbc o | tRor o | tNeg o | tOrr o
  | tMul o | tBic o | tMvn o => constructor <;> simp
  | tCmpImm o | tTst o | tCmpLow o | tCmn o => exact ⟨id, id⟩
  | tCmpHi o => exact ensures_unless fun _ => ⟨id, id⟩
  | tLdrPc o | tLdrReg o | tLdrhReg o | tLdrbReg o | tLdrsbReg o | tLdrshReg o | tLdrImm o | tLdrbImm o | tLdrhImm o
  | tLdrSp o => constructor <;> simp
  | tStrReg o | tStrhReg o | tStrbReg o | tStrImm o | tStrbImm o | tStrhImm o | tStrSp o =>
    exact storeFrom_keepsForm ..
  | tPush o | tStmia o => exact ensures_unless fun _ => storeRegs_keepsForm ..
  | tPop o =>
    exact ensures_unless fun _ => loadMultiple_keepsForm _ _ _ _ _ _ _ (loadPcLast_mem _) (loadPcLast_imem _)
  | tLdmia o => exact ensures_unless fun _ => loadMultiple_keepsForm _ _ _ _ _ _ _ (by simp) (by simp)
  | pldReg o | tBlxReg o => exact ensures_unless fun _ => by constructor <;> simp
  | pldImm o | blxImm o | bkpt o | tAddHi o | tMovHi o | tAddPc o | tAddSp o | tIncSp o | tDecSp o | tBx o | tB o
  | tBlPrefix o | tBlSuffix o | tBlxSuffix o | tSwi o | tBkpt o => constructor <;> simp

/-! ### The head of the queue -/

theorem execNext_keepsForm (i : Instr) (s : State) : Ensures (KeepsForm s) (execNext i s) :=
  have cleared : KeepsForm s { s with bankHazard := false } := ⟨id, id⟩
  ensures_unless fun _ => cleared.ensures (exec_keepsForm i _)

theorem prefetch_keepsForm (n : Nat) (a : Word) (s : State) : KeepsForm s (prefetch n a s) := by
  induction n generalizing a s with
  | zero => exact .refl s
  | succ n ih =>
    have fetched : KeepsForm s (s.fetch a) := ⟨id, id⟩
    exact fetched.trans (ih _ _)

theorem fillQueue_keepsForm (s : State) : KeepsForm s s.fillQueue :=
  KeepsForm.trans (t := { s with fetchQ := s.liveQueue }) ⟨id, id⟩ (prefetch_keepsForm _ _ _)

theorem executeHead_keepsForm (f : Fetched) (s : State) : Ensures (KeepsForm s) (executeHead f s) := by
  unfold executeHead
  split
  next =>
    refine ensures_unless fun _ => ?_
    dsimp only
    split
    · constructor <;> simp
    · exact ⟨id, id⟩
  next i _ => exact execNext_keepsForm i s

theorem entryException_keepsForm (s : State) : KeepsForm s s.entryException := by
  unfold State.entryException
  split
  · constructor <;> simp [State.interrupt]
  · split
    · constructor <;> simp [State.interrupt]
    · split
      · split
        · constructor <;> simp
        · exact .refl s
      · exact .refl s

theorem breakpointHit_keepsForm (s : State) (m : BitVec 4) : KeepsForm s (s.breakpointHit m) := by
  unfold State.breakpointHit
  split
  · constructor <;> simp [State.debugPrefetchAbort]
  · split
    next => exact (entryException_keepsForm s).trans ⟨id, id⟩
    next => exact ⟨id, id⟩

theorem runHead_keepsForm (f : Fetched) (s : State) : Ensures (KeepsForm s) (runHead f s) := by
  refine guardAccess_ensures s _ _ ?_
  split
  · constructor <;> simp
  · split
    next m _ => exact breakpointHit_keepsForm s m
    next => exact ensures_andThen (executeHead_keepsForm f s) fun t ht => guardCycles_ensures ht t.bus

theorem runNext_keepsForm (s : State) : Ensures (KeepsForm s) (runNext s) := by
  unfold runNext
  split
  next => exact .refl s
  next f _ _ => exact runHead_keepsForm f s

/-! ### The core's part of a boundary -/

theorem watchDone_keepsForm (s : State) (m : BitVec 4) : KeepsForm s (s.watchDone m) := by
  unfold State.watchDone
  split
  · constructor <;> simp [State.watchAbort]
  · exact (entryException_keepsForm s).trans ⟨id, id⟩

theorem normalBoundary_keepsForm (s : State) : Ensures (KeepsForm s) (normalBoundary s) := by
  unfold normalBoundary
  split
  · exact ⟨id, id⟩
  · split
    · constructor <;> simp [State.interrupt]
    · split
      · constructor <;> simp [State.interrupt]
      · exact runNext_keepsForm s

theorem watchBoundary_keepsForm (s : State) : Ensures (KeepsForm s) (watchBoundary s) := by
  have armed (m : BitVec 4) : Ensures (KeepsForm s) (runNext { s with dbg := { s.dbg with watch := .armed m } }) :=
    KeepsForm.ensures (t := { s with dbg := { s.dbg with watch := .armed m } }) ⟨id, id⟩ (runNext_keepsForm _)
  unfold watchBoundary
  split
  next => exact normalBoundary_keepsForm s
  next m _ =>
    split
    · exact armed m
    · exact watchDone_keepsForm s m
  next m _ =>
    split
    · exact watchDone_keepsForm s m
    · exact armed m
  next m _ => exact watchDone_keepsForm s m
  next => exact ⟨id, id⟩

/-- The stores that core reset cuts short keep the form (R602, D4). -/
theorem cutStores_keepsForm (cs : List BusCycle) (s : State) : KeepsForm s (cutStores cs s) :=
  ⟨cutStores_memWf cs, cutStores_imemWf cs⟩

theorem resetCore_keepsForm (s : State) : KeepsForm s s.resetCore := by
  constructor <;> simp [State.resetCore]

theorem coreReset_keepsForm (s : State) : KeepsForm s s.coreReset :=
  (cutStores_keepsForm s.inFlight s).trans (resetCore_keepsForm _)

theorem coreBoundary_keepsForm (s : State) : Ensures (KeepsForm s) (coreBoundary s) := by
  unfold coreBoundary
  split
  · exact ensures_unless fun _ => coreReset_keepsForm s
  · split
    · exact .refl s
    · split
      · exact guardCycles_ensures (.refl s) _
      · exact ensures_unless fun _ => (fillQueue_keepsForm s).ensures (watchBoundary_keepsForm _)

/-! ### Debug state at work -/

theorem runScanned_keepsForm (w : Word) (s : State) : Ensures (KeepsForm s) (runScanned w s) := by
  unfold runScanned
  split
  next => exact ensures_refused _ _
  next i _ _ => exact ensures_unless fun _ => execNext_keepsForm i s

theorem reenterDebug_keepsForm (s : State) (aborted : Bool) : KeepsForm s (s.reenterDebug aborted) := by
  cases aborted <;> exact ⟨id, id⟩

/-- A system speed access stores as the instruction does at any other time (R567). -/
theorem systemAccess_keepsForm (i : Instr) (s : State) : Ensures (KeepsForm s) (systemAccess i s) :=
  have connected : KeepsForm s { s with dbg := { s.dbg with systemSpeed := true } } := ⟨id, id⟩
  ensures_andThen (connected.ensures (execNext_keepsForm i _)) fun t ht => ht.trans (reenterDebug_keepsForm t _)

theorem restartCore_keepsForm (s : State) : Ensures (KeepsForm s) (restartCore s) := by
  have left (t : State) (ht : KeepsForm s t) : KeepsForm s t.leaveDebug := ht.trans ⟨id, id⟩
  unfold restartCore
  split
  · exact .refl s
  · split
    next => exact left s (.refl s)
    next w _ =>
      split
      next i _ _ _ =>
        split
        · exact systemAccess_keepsForm i s
        · exact ensures_andThen (execNext_keepsForm i s) left
      next => exact ensures_andThen (runScanned_keepsForm w s) left

theorem afterScanned_keepsForm (s before : State) (w : Word) : KeepsForm s (s.afterScanned before w) := by
  unfold State.afterScanned
  split <;> exact ⟨id, id⟩

theorem scanInstr_keepsForm (w : Word) (system : Bool) (data : Word) (s : State) :
    Ensures (KeepsForm s) (scanInstr w system data s) := by
  unfold scanInstr
  split
  · exact .refl s
  · split
    next => split <;> exact ⟨id, id⟩
    next p _ =>
      refine ensures_unless fun _ => ?_
      split
      · exact ⟨id, id⟩
      · dsimp only
        split
        · exact ⟨id, id⟩
        · have supplied : KeepsForm s { s with dbg := { s.dbg with dataIn := s.dbg.dataIn ++ [data] } } := ⟨id, id⟩
          exact ensures_andThen (supplied.ensures (runScanned_keepsForm p _)) fun u hu =>
            hu.trans (afterScanned_keepsForm u _ w)

/-! ### The debug port and the step -/

theorem updateChain2_keepsForm (s : State) : KeepsForm s s.updateChain2 := by
  unfold State.updateChain2
  dsimp only
  split
  · exact ⟨id, id⟩
  · split <;> exact ⟨id, id⟩

theorem tapClock_keepsForm (s : State) (c : TapClock) : KeepsForm s (s.tapClock c).1 :=
  have acted : KeepsForm s.settleIce (s.settleIce.tapAct c.tdi).1 :=
    tapAct_rule c.tdi (fun _ _ _ => ⟨id, id⟩) (updateChain2_keepsForm _)
  ⟨acted.mem, acted.imem⟩

theorem tapAction_keepsForm (a : TapAction) (s : State) : Ensures (KeepsForm s) (tapAction a s) := by
  unfold tapAction
  split
  next => exact .refl s
  next =>
    split
    · exact scanInstr_keepsForm ..
    · exact .refl s
  next =>
    split
    · exact restartCore_keepsForm s
    · exact .refl s
  next => exact ensures_refused _ _

theorem tapClocks_keepsForm (cs : List TapClock) (s : State) : Ensures (KeepsForm s) (tapClocks cs s) := by
  induction cs generalizing s with
  | nil => exact .refl s
  | cons c cs ih =>
    exact (tapClock_keepsForm s c).ensures (ensures_andThen (tapAction_keepsForm _ _) fun t ht => ht.ensures (ih t))

theorem debugPort_keepsForm (cs : List TapClock) (s : State) : Ensures (KeepsForm s) (debugPort cs s) := by
  unfold debugPort
  split
  · exact tapClocks_keepsForm cs s
  · exact ⟨id, id⟩

theorem step_keepsForm (s : State) : Ensures (KeepsForm s) (step s) :=
  have sampled : KeepsForm s s.sample := ⟨id, id⟩
  sampled.ensures (ensures_andThen (debugPort_keepsForm _ _) fun t ht => ht.ensures (coreBoundary_keepsForm t))

/-- Settles O6: the debug port and the core's part of a boundary change memory by stores only, and a store keeps the
form. -/
theorem stepKeepsMemoryForm : Obligations.StepKeepsMemoryForm := by
  unfold Obligations.StepKeepsMemoryForm
  intro s t h
  obtain ⟨hmem, himem⟩ := ensures_iff.mp (step_keepsForm s) t h
  exact ⟨hmem, himem⟩

end Sys2Proof.Proofs
end

section
/-! PROOF. Encoder and decoder agree (R110 to R139): the operands of each format are read back from its word, the word
shows the decoder fixed values at the bits it looks at, and these lead through the decision tree to the row. -/

namespace Sys2Proof.Proofs

open Sys2Proof.Machine

/-! ### Fields of a concatenation

`fld_append_low` and `fld_append_high` in the form that `simp` can use on an encoded word: its width is written 16 or 32
and not as the sum that a concatenation has, so the rules leave the width out of their index. -/

@[simp] theorem fld_append_of_le {m n : Nat} (x : BitVec m) (y : BitVec n) {lo len : Nat} (h : lo + len ≤ n) :
    fld (HAppend.hAppend (γ := no_index (BitVec (m + n))) x y) lo len = fld y lo len := fld_append_low x y h

@[simp] theorem fld_append_of_ge {m n : Nat} (x : BitVec m) (y : BitVec n) {lo len : Nat} (h : n ≤ lo) :
    fld (HAppend.hAppend (γ := no_index (BitVec (m + n))) x y) lo len = fld x (lo - n) len := fld_append_high x y h

@[simp] theorem bitAt_append {m n : Nat} (x : BitVec m) (y : BitVec n) (i : Nat) :
    bitAt (HAppend.hAppend (γ := no_index (BitVec (m + n))) x y) i = if i < n then bitAt y i else bitAt x (i - n) := by
  simp [bitAt, BitVec.getLsbD_append]

/-- A field that the encoder cuts in two is joined again. -/
@[simp] theorem extractLsb'_join {k l : Nat} (x : BitVec (k + l)) :
    HAppend.hAppend (γ := no_index (BitVec (k + l))) (x.extractLsb' l k) (x.extractLsb' 0 l) = x := by
  simp

/-- A field of a literal is computed. -/
@[simp] theorem fld_ofNat (n v lo len : Nat) :
    fld (BitVec.ofNat n v) lo len = (BitVec.ofNat n v).extractLsb' lo len := by
  rw [fld]

@[simp] theorem bitAt_bit (b : Bool) : bitAt (bit b) 0 = b := by cases b <;> rfl

@[simp] theorem shiftTy_ofBits_bits (t : ShiftTy) : ShiftTy.ofBits t.bits = t := by cases t <;> rfl

/-! ### The formats

Two lemmas for each: by `read_word` the operands are read back from its word, and `fields` says what the word holds at
the bits the decoder looks at. -/

@[simp] theorem MrsOps.read_word (o : MrsOps) : MrsOps.read o.cond o.word = o := by
  simp [MrsOps.read, MrsOps.word, fld_full]

@[simp] theorem MrsOps.fields (o : MrsOps) :
    fld o.word 25 3 = 0b000#3 ∧ fld o.word 7 1 = 0b0#1 ∧ fld o.word 23 2 = 0b10#2 ∧ fld o.word 20 1 = 0b0#1 ∧
    fld o.word 4 3 = 0b000#3 ∧ fld o.word 21 1 = 0b0#1 := by
  simp [MrsOps.word]

@[simp] theorem MsrRegOps.read_word (o : MsrRegOps) : MsrRegOps.read o.cond o.word = o := by
  simp [MsrRegOps.read, MsrRegOps.word, fld_full]

@[simp] theorem MsrRegOps.fields (o : MsrRegOps) :
    fld o.word 25 3 = 0b000#3 ∧ fld o.word 7 1 = 0b0#1 ∧ fld o.word 23 2 = 0b10#2 ∧ fld o.word 20 1 = 0b0#1 ∧
    fld o.word 4 3 = 0b000#3 ∧ fld o.word 21 1 = 0b1#1 := by
  simp [MsrRegOps.word]

@[simp] theorem MsrImmOps.read_word (o : MsrImmOps) : MsrImmOps.read o.cond o.word = o := by
  simp [MsrImmOps.read, MsrImmOps.word, fld_full]

@[simp] theorem MsrImmOps.fields (o : MsrImmOps) :
    fld o.word 25 3 = 0b001#3 ∧ fld o.word 23 2 = 0b10#2 ∧ fld o.word 20 1 = 0b0#1 ∧ fld o.word 21 1 = 0b1#1 := by
  simp [MsrImmOps.word]

@[simp] theorem BxOps.read_word (op : BitVec 4) (o : BxOps) : BxOps.read o.cond (o.word op) = o := by
  simp [BxOps.read, BxOps.word, fld_full]

@[simp] theorem BxOps.fields (op : BitVec 4) (o : BxOps) :
    fld (o.word op) 25 3 = 0b000#3 ∧ fld (o.word op) 7 1 = fld op 3 1 ∧ fld (o.word op) 23 2 = 0b10#2 ∧
    fld (o.word op) 20 1 = 0b0#1 ∧ fld (o.word op) 4 3 = fld op 0 3 ∧ fld (o.word op) 21 2 = 0b01#2 := by
  simp [BxOps.word]

@[simp] theorem ClzOps.read_word (o : ClzOps) : ClzOps.read o.cond o.word = o := by
  simp [ClzOps.read, ClzOps.word, fld_full]

@[simp] theorem ClzOps.fields (o : ClzOps) :
    fld o.word 25 3 = 0b000#3 ∧ fld o.word 7 1 = 0b0#1 ∧ fld o.word 23 2 = 0b10#2 ∧ fld o.word 20 1 = 0b0#1 ∧
    fld o.word 4 3 = 0b001#3 ∧ fld o.word 21 2 = 0b11#2 := by
  simp [ClzOps.word]

@[simp] theorem QOps.read_word (op : BitVec 2) (o : QOps) : QOps.read o.cond (o.word op) = o := by
  simp [QOps.read, QOps.word, fld_full]

@[simp] theorem QOps.fields (op : BitVec 2) (o : QOps) :
    fld (o.word op) 25 3 = 0b000#3 ∧ fld (o.word op) 7 1 = 0b0#1 ∧ fld (o.word op) 23 2 = 0b10#2 ∧
    fld (o.word op) 20 1 = 0b0#1 ∧ fld (o.word op) 4 3 = 0b101#3 ∧ fld (o.word op) 21 2 = op := by
  simp [QOps.word, fld_full]

@[simp] theorem BkptOps.read_word (o : BkptOps) : BkptOps.read o.word = o := by
  simp [BkptOps.read, BkptOps.word, fld_full]

@[simp] theorem BkptOps.fields (o : BkptOps) :
    fld o.word 28 4 = 0b1110#4 ∧ fld o.word 25 3 = 0b000#3 ∧ fld o.word 7 1 = 0b0#1 ∧ fld o.word 23 2 = 0b10#2 ∧
    fld o.word 20 1 = 0b0#1 ∧ fld o.word 4 3 = 0b111#3 ∧ fld o.word 21 2 = 0b01#2 := by
  simp [BkptOps.word]

@[simp] theorem SmlaXyOps.read_word (o : SmlaXyOps) : SmlaXyOps.read o.cond o.word = o := by
  simp [SmlaXyOps.read, SmlaXyOps.word, fld_full]

@[simp] theorem SmlaXyOps.fields (o : SmlaXyOps) :
    fld o.word 25 3 = 0b000#3 ∧ fld o.word 7 1 = 0b1#1 ∧ fld o.word 4 1 = 0b0#1 ∧ fld o.word 23 2 = 0b10#2 ∧
    fld o.word 20 1 = 0b0#1 ∧ fld o.word 21 2 = 0b00#2 := by
  simp [SmlaXyOps.word, fld_full]

@[simp] theorem SmlaWOps.read_word (o : SmlaWOps) : SmlaWOps.read o.cond o.word = o := by
  simp [SmlaWOps.read, SmlaWOps.word, fld_full]

@[simp] theorem SmlaWOps.fields (o : SmlaWOps) :
    fld o.word 25 3 = 0b000#3 ∧ fld o.word 7 1 = 0b1#1 ∧ fld o.word 4 1 = 0b0#1 ∧ fld o.word 23 2 = 0b10#2 ∧
    fld o.word 20 1 = 0b0#1 ∧ fld o.word 21 2 = 0b01#2 ∧ fld o.word 5 1 = 0b0#1 := by
  simp [SmlaWOps.word, fld_full]

@[simp] theorem SmulWOps.read_word (o : SmulWOps) : SmulWOps.read o.cond o.word = o := by
  simp [SmulWOps.read, SmulWOps.word, fld_full]

@[simp] theorem SmulWOps.fields (o : SmulWOps) :
    fld o.word 25 3 = 0b000#3 ∧ fld o.word 7 1 = 0b1#1 ∧ fld o.word 4 1 = 0b0#1 ∧ fld o.word 23 2 = 0b10#2 ∧
    fld o.word 20 1 = 0b0#1 ∧ fld o.word 21 2 = 0b01#2 ∧ fld o.word 5 1 = 0b1#1 := by
  simp [SmulWOps.word, fld_full]

@[simp] theorem SmlalXyOps.read_word (o : SmlalXyOps) : SmlalXyOps.read o.cond o.word = o := by
  simp [SmlalXyOps.read, SmlalXyOps.word, fld_full]

@[simp] theorem SmlalXyOps.fields (o : SmlalXyOps) :
    fld o.word 25 3 = 0b000#3 ∧ fld o.word 7 1 = 0b1#1 ∧ fld o.word 4 1 = 0b0#1 ∧ fld o.word 23 2 = 0b10#2 ∧
    fld o.word 20 1 = 0b0#1 ∧ fld o.word 21 2 = 0b10#2 := by
  simp [SmlalXyOps.word, fld_full]

@[simp] theorem SmulXyOps.read_word (o : SmulXyOps) : SmulXyOps.read o.cond o.word = o := by
  simp [SmulXyOps.read, SmulXyOps.word, fld_full]

@[simp] theorem SmulXyOps.fields (o : SmulXyOps) :
    fld o.word 25 3 = 0b000#3 ∧ fld o.word 7 1 = 0b1#1 ∧ fld o.word 4 1 = 0b0#1 ∧ fld o.word 23 2 = 0b10#2 ∧
    fld o.word 20 1 = 0b0#1 ∧ fld o.word 21 2 = 0b11#2 := by
  simp [SmulXyOps.word, fld_full]

@[simp] theorem MulOps.read_word (o : MulOps) : MulOps.read o.cond o.word = o := by
  simp [MulOps.read, MulOps.word, fld_full]

@[simp] theorem MulOps.fields (o : MulOps) :
    fld o.word 25 3 = 0b000#3 ∧ fld o.word 7 1 = 0b1#1 ∧ fld o.word 4 1 = 0b1#1 ∧ fld o.word 5 2 = 0b00#2 ∧
    fld o.word 24 1 = 0b0#1 ∧ fld o.word 21 3 = 0b000#3 := by
  simp [MulOps.word]

@[simp] theorem MlaOps.read_word (o : MlaOps) : MlaOps.read o.cond o.word = o := by
  simp [MlaOps.read, MlaOps.word, fld_full]

@[simp] theorem MlaOps.fields (o : MlaOps) :
    fld o.word 25 3 = 0b000#3 ∧ fld o.word 7 1 = 0b1#1 ∧ fld o.word 4 1 = 0b1#1 ∧ fld o.word 5 2 = 0b00#2 ∧
    fld o.word 24 1 = 0b0#1 ∧ fld o.word 21 3 = 0b001#3 := by
  simp [MlaOps.word]

@[simp] theorem MullOps.read_word (op : BitVec 2) (o : MullOps) : MullOps.read o.cond (o.word op) = o := by
  simp [MullOps.read, MullOps.word, fld_full]

@[simp] theorem MullOps.fields (op : BitVec 2) (o : MullOps) :
    fld (o.word op) 25 3 = 0b000#3 ∧ fld (o.word op) 7 1 = 0b1#1 ∧ fld (o.word op) 4 1 = 0b1#1 ∧
    fld (o.word op) 5 2 = 0b00#2 ∧ fld (o.word op) 24 1 = 0b0#1 ∧ fld (o.word op) 21 3 = 0b1#1 ++ op := by
  simp [MullOps.word, fld_full, ← fld_join _ 21 2 1]

@[simp] theorem SwpOps.read_word (b : BitVec 1) (o : SwpOps) : SwpOps.read o.cond (o.word b) = o := by
  simp [SwpOps.read, SwpOps.word, fld_full]

@[simp] theorem SwpOps.fields (b : BitVec 1) (o : SwpOps) :
    fld (o.word b) 25 3 = 0b000#3 ∧ fld (o.word b) 7 1 = 0b1#1 ∧ fld (o.word b) 4 1 = 0b1#1 ∧
    fld (o.word b) 5 2 = 0b00#2 ∧ fld (o.word b) 24 1 = 0b1#1 ∧ fld (o.word b) 20 4 = 0b0#1 ++ b ++ 0b00#2 := by
  simp [SwpOps.word, fld_full, ← fld_join _ 20 2 2, ← fld_join _ 22 1 1]

@[simp] theorem ExtImmOps.read_word (l : BitVec 1) (sh : BitVec 2) (o : ExtImmOps) :
    ExtImmOps.read o.cond (o.word l sh) = o := by
  simp [ExtImmOps.read, ExtImmOps.word, fld_full]

@[simp] theorem ExtImmOps.fields (l : BitVec 1) (sh : BitVec 2) (o : ExtImmOps) :
    fld (o.word l sh) 25 3 = 0b000#3 ∧ fld (o.word l sh) 7 1 = 0b1#1 ∧ fld (o.word l sh) 4 1 = 0b1#1 ∧
    fld (o.word l sh) 5 2 = sh ∧ fld (o.word l sh) 20 1 = l ∧ fld (o.word l sh) 22 1 = 0b1#1 := by
  simp [ExtImmOps.word, fld_full]

@[simp] theorem ExtRegOps.read_word (l : BitVec 1) (sh : BitVec 2) (o : ExtRegOps) :
    ExtRegOps.read o.cond (o.word l sh) = o := by
  simp [ExtRegOps.read, ExtRegOps.word, fld_full]

@[simp] theorem ExtRegOps.fields (l : BitVec 1) (sh : BitVec 2) (o : ExtRegOps) :
    fld (o.word l sh) 25 3 = 0b000#3 ∧ fld (o.word l sh) 7 1 = 0b1#1 ∧ fld (o.word l sh) 4 1 = 0b1#1 ∧
    fld (o.word l sh) 5 2 = sh ∧ fld (o.word l sh) 20 1 = l ∧ fld (o.word l sh) 22 1 = 0b0#1 := by
  simp [ExtRegOps.word, fld_full]

@[simp] theorem AluImmOps.read_word (op : BitVec 4) (o : AluImmOps) : AluImmOps.read o.cond (o.word op) = o := by
  simp [AluImmOps.read, AluImmOps.word, fld_full]

@[simp] theorem AluImmOps.fields (op : BitVec 4) (o : AluImmOps) :
    fld (o.word op) 25 3 = 0b001#3 ∧ fld (o.word op) 23 2 = fld op 2 2 ∧ fld (o.word op) 21 4 = op := by
  simp [AluImmOps.word, fld_full]

@[simp] theorem AluShiftOps.read_word (op : BitVec 4) (o : AluShiftOps) : AluShiftOps.read o.cond (o.word op) = o := by
  simp [AluShiftOps.read, AluShiftOps.word, fld_full]

@[simp] theorem AluShiftOps.fields (op : BitVec 4) (o : AluShiftOps) :
    fld (o.word op) 25 3 = 0b000#3 ∧ fld (o.word op) 4 1 = 0b0#1 ∧ fld (o.word op) 23 2 = fld op 2 2 ∧
    fld (o.word op) 21 4 = op := by
  simp [AluShiftOps.word, fld_full]

@[simp] theorem AluRegOps.read_word (op : BitVec 4) (o : AluRegOps) : AluRegOps.read o.cond (o.word op) = o := by
  simp [AluRegOps.read, AluRegOps.word, fld_full]

@[simp] theorem AluRegOps.fields (op : BitVec 4) (o : AluRegOps) :
    fld (o.word op) 25 3 = 0b000#3 ∧ fld (o.word op) 7 1 = 0b0#1 ∧ fld (o.word op) 4 1 = 0b1#1 ∧
    fld (o.word op) 23 2 = fld op 2 2 ∧ fld (o.word op) 21 4 = op := by
  simp [AluRegOps.word, fld_full]

@[simp] theorem CmpImmOps.read_word (op : BitVec 4) (o : CmpImmOps) : CmpImmOps.read o.cond (o.word op) = o := by
  simp [CmpImmOps.read, CmpImmOps.word, fld_full]

@[simp] theorem CmpImmOps.fields (op : BitVec 4) (o : CmpImmOps) :
    fld (o.word op) 25 3 = 0b001#3 ∧ fld (o.word op) 20 1 = 0b1#1 ∧ fld (o.word op) 21 4 = op := by
  simp [CmpImmOps.word, fld_full]

@[simp] theorem CmpShiftOps.read_word (op : BitVec 4) (o : CmpShiftOps) : CmpShiftOps.read o.cond (o.word op) = o := by
  simp [CmpShiftOps.read, CmpShiftOps.word, fld_full]

@[simp] theorem CmpShiftOps.fields (op : BitVec 4) (o : CmpShiftOps) :
    fld (o.word op) 25 3 = 0b000#3 ∧ fld (o.word op) 4 1 = 0b0#1 ∧ fld (o.word op) 20 1 = 0b1#1 ∧
    fld (o.word op) 21 4 = op := by
  simp [CmpShiftOps.word, fld_full]

@[simp] theorem CmpRegOps.read_word (op : BitVec 4) (o : CmpRegOps) : CmpRegOps.read o.cond (o.word op) = o := by
  simp [CmpRegOps.read, CmpRegOps.word, fld_full]

@[simp] theorem CmpRegOps.fields (op : BitVec 4) (o : CmpRegOps) :
    fld (o.word op) 25 3 = 0b000#3 ∧ fld (o.word op) 7 1 = 0b0#1 ∧ fld (o.word op) 4 1 = 0b1#1 ∧
    fld (o.word op) 20 1 = 0b1#1 ∧ fld (o.word op) 21 4 = op := by
  simp [CmpRegOps.word, fld_full]

@[simp] theorem MovImmOps.read_word (op : BitVec 4) (o : MovImmOps) : MovImmOps.read o.cond (o.word op) = o := by
  simp [MovImmOps.read, MovImmOps.word, fld_full]

@[simp] theorem MovImmOps.fields (op : BitVec 4) (o : MovImmOps) :
    fld (o.word op) 25 3 = 0b001#3 ∧ fld (o.word op) 23 2 = fld op 2 2 ∧ fld (o.word op) 21 4 = op := by
  simp [MovImmOps.word, fld_full]

@[simp] theorem MovShiftOps.read_word (op : BitVec 4) (o : MovShiftOps) : MovShiftOps.read o.cond (o.word op) = o := by
  simp [MovShiftOps.read, MovShiftOps.word, fld_full]

@[simp] theorem MovShiftOps.fields (op : BitVec 4) (o : MovShiftOps) :
    fld (o.word op) 25 3 = 0b000#3 ∧ fld (o.word op) 4 1 = 0b0#1 ∧ fld (o.word op) 23 2 = fld op 2 2 ∧
    fld (o.word op) 21 4 = op := by
  simp [MovShiftOps.word, fld_full]

@[simp] theorem MovRegOps.read_word (op : BitVec 4) (o : MovRegOps) : MovRegOps.read o.cond (o.word op) = o := by
  simp [MovRegOps.read, MovRegOps.word, fld_full]

@[simp] theorem MovRegOps.fields (op : BitVec 4) (o : MovRegOps) :
    fld (o.word op) 25 3 = 0b000#3 ∧ fld (o.word op) 7 1 = 0b0#1 ∧ fld (o.word op) 4 1 = 0b1#1 ∧
    fld (o.word op) 23 2 = fld op 2 2 ∧ fld (o.word op) 21 4 = op := by
  simp [MovRegOps.word, fld_full]

@[simp] theorem MemImmPreOps.read_word (b : BitVec 1) (l : BitVec 1) (o : MemImmPreOps) :
    MemImmPreOps.read o.cond (o.word b l) = o := by
  simp [MemImmPreOps.read, MemImmPreOps.word, fld_full]

@[simp] theorem MemImmPreOps.fields (b : BitVec 1) (l : BitVec 1) (o : MemImmPreOps) :
    fld (o.word b l) 25 3 = 0b010#3 ∧ fld (o.word b l) 24 1 = 0b1#1 ∧ fld (o.word b l) 22 1 = b ∧
    fld (o.word b l) 20 1 = l := by
  simp [MemImmPreOps.word, fld_full]

@[simp] theorem MemImmPostOps.read_word (b : BitVec 1) (t : BitVec 1) (l : BitVec 1) (o : MemImmPostOps) :
    MemImmPostOps.read o.cond (o.word b t l) = o := by
  simp [MemImmPostOps.read, MemImmPostOps.word, fld_full]

@[simp] theorem MemImmPostOps.fields (b : BitVec 1) (t : BitVec 1) (l : BitVec 1) (o : MemImmPostOps) :
    fld (o.word b t l) 25 3 = 0b010#3 ∧ fld (o.word b t l) 24 1 = 0b0#1 ∧ fld (o.word b t l) 22 1 = b ∧
    fld (o.word b t l) 21 1 = t ∧ fld (o.word b t l) 20 1 = l := by
  simp [MemImmPostOps.word, fld_full]

@[simp] theorem MemRegPreOps.read_word (b : BitVec 1) (l : BitVec 1) (o : MemRegPreOps) :
    MemRegPreOps.read o.cond (o.word b l) = o := by
  simp [MemRegPreOps.read, MemRegPreOps.word, fld_full]

@[simp] theorem MemRegPreOps.fields (b : BitVec 1) (l : BitVec 1) (o : MemRegPreOps) :
    fld (o.word b l) 25 3 = 0b011#3 ∧ fld (o.word b l) 4 1 = 0b0#1 ∧ fld (o.word b l) 24 1 = 0b1#1 ∧
    fld (o.word b l) 22 1 = b ∧ fld (o.word b l) 20 1 = l := by
  simp [MemRegPreOps.word, fld_full]

@[simp] theorem MemRegPostOps.read_word (b : BitVec 1) (t : BitVec 1) (l : BitVec 1) (o : MemRegPostOps) :
    MemRegPostOps.read o.cond (o.word b t l) = o := by
  simp [MemRegPostOps.read, MemRegPostOps.word, fld_full]

@[simp] theorem MemRegPostOps.fields (b : BitVec 1) (t : BitVec 1) (l : BitVec 1) (o : MemRegPostOps) :
    fld (o.word b t l) 25 3 = 0b011#3 ∧ fld (o.word b t l) 4 1 = 0b0#1 ∧ fld (o.word b t l) 24 1 = 0b0#1 ∧
    fld (o.word b t l) 22 1 = b ∧ fld (o.word b t l) 21 1 = t ∧ fld (o.word b t l) 20 1 = l := by
  simp [MemRegPostOps.word, fld_full]

@[simp] theorem PldImmOps.read_word (o : PldImmOps) : PldImmOps.read o.word = o := by
  simp [PldImmOps.read, PldImmOps.word, fld_full]

@[simp] theorem PldImmOps.fields (o : PldImmOps) :
    fld o.word 28 4 = 0b1111#4 ∧ fld o.word 25 3 = 0b010#3 ∧ fld o.word 24 4 = 0b0101#4 ∧
    fld o.word 20 3 = 0b101#3 := by
  simp [PldImmOps.word, fld_full]

@[simp] theorem PldRegOps.read_word (o : PldRegOps) : PldRegOps.read o.word = o := by
  simp [PldRegOps.read, PldRegOps.word, fld_full]

@[simp] theorem PldRegOps.fields (o : PldRegOps) :
    fld o.word 28 4 = 0b1111#4 ∧ fld o.word 25 3 = 0b011#3 ∧ fld o.word 24 4 = 0b0111#4 ∧ fld o.word 20 3 = 0b101#3 ∧
    fld o.word 4 1 = 0b0#1 := by
  simp [PldRegOps.word, fld_full]

@[simp] theorem LdmOps.read_word (s : BitVec 1) (l : BitVec 1) (o : LdmOps) : LdmOps.read o.cond (o.word s l) = o := by
  simp [LdmOps.read, LdmOps.word, fld_full]

@[simp] theorem LdmOps.fields (s : BitVec 1) (l : BitVec 1) (o : LdmOps) :
    fld (o.word s l) 25 3 = 0b100#3 ∧ fld (o.word s l) 22 1 = s ∧ fld (o.word s l) 20 1 = l := by
  simp [LdmOps.word, fld_full]

@[simp] theorem Ldm15Ops.read_word (top : BitVec 1) (o : Ldm15Ops) : Ldm15Ops.read o.cond (o.word top) = o := by
  simp [Ldm15Ops.read, Ldm15Ops.word, fld_full]

@[simp] theorem Ldm15Ops.fields (top : BitVec 1) (o : Ldm15Ops) :
    fld (o.word top) 25 3 = 0b100#3 ∧ fld (o.word top) 22 1 = 0b1#1 ∧ fld (o.word top) 20 1 = 0b1#1 ∧
    fld (o.word top) 15 1 = top := by
  simp [Ldm15Ops.word, fld_full]

@[simp] theorem BranchOps.read_word (l : BitVec 1) (o : BranchOps) : BranchOps.read o.cond (o.word l) = o := by
  simp [BranchOps.read, BranchOps.word, fld_full]

@[simp] theorem BranchOps.fields (l : BitVec 1) (o : BranchOps) :
    fld (o.word l) 25 3 = 0b101#3 ∧ fld (o.word l) 24 1 = l := by
  simp [BranchOps.word, fld_full]

@[simp] theorem BlxImmOps.read_word (o : BlxImmOps) : BlxImmOps.read o.word = o := by
  simp [BlxImmOps.read, BlxImmOps.word, fld_full]

@[simp] theorem BlxImmOps.fields (o : BlxImmOps) :
    fld o.word 28 4 = 0b1111#4 ∧ fld o.word 25 3 = 0b101#3 := by
  simp [BlxImmOps.word]

@[simp] theorem CdpOps.read_word (o : CdpOps) : CdpOps.read o.cond o.word = o := by
  simp [CdpOps.read, CdpOps.word, fld_full]

@[simp] theorem CdpOps.fields (o : CdpOps) :
    fld o.word 25 3 = 0b111#3 ∧ fld o.word 24 1 = 0b0#1 ∧ fld o.word 4 1 = 0b0#1 := by
  simp [CdpOps.word, fld_full]

@[simp] theorem McrOps.read_word (l : BitVec 1) (o : McrOps) : McrOps.read o.cond (o.word l) = o := by
  simp [McrOps.read, McrOps.word, fld_full]

@[simp] theorem McrOps.fields (l : BitVec 1) (o : McrOps) :
    fld (o.word l) 25 3 = 0b111#3 ∧ fld (o.word l) 24 1 = 0b0#1 ∧ fld (o.word l) 4 1 = 0b1#1 ∧
    fld (o.word l) 20 1 = l := by
  simp [McrOps.word, fld_full]

@[simp] theorem LdcOps.read_word (l : BitVec 1) (o : LdcOps) : LdcOps.read o.cond (o.word l) = o := by
  simp [LdcOps.read, LdcOps.word, fld_full]

@[simp] theorem LdcOps.fields (l : BitVec 1) (o : LdcOps) :
    fld (o.word l) 25 3 = 0b110#3 ∧ fld (o.word l) 23 2 = bit o.p ++ bit o.u ∧ fld (o.word l) 21 1 = bit o.w ∧
    fld (o.word l) 20 1 = l := by
  simp [LdcOps.word, fld_full, ← fld_join _ 23 1 1]

@[simp] theorem Cdp2Ops.read_word (o : Cdp2Ops) : Cdp2Ops.read o.word = o := by
  simp [Cdp2Ops.read, Cdp2Ops.word, fld_full]

@[simp] theorem Cdp2Ops.fields (o : Cdp2Ops) :
    fld o.word 28 4 = 0b1111#4 ∧ fld o.word 25 3 = 0b111#3 ∧ fld o.word 24 4 = 0b1110#4 ∧
    fld o.word 4 1 = 0b0#1 := by
  simp [Cdp2Ops.word, fld_full]

@[simp] theorem Mcr2Ops.read_word (l : BitVec 1) (o : Mcr2Ops) : Mcr2Ops.read (o.word l) = o := by
  simp [Mcr2Ops.read, Mcr2Ops.word, fld_full]

@[simp] theorem Mcr2Ops.fields (l : BitVec 1) (o : Mcr2Ops) :
    fld (o.word l) 28 4 = 0b1111#4 ∧ fld (o.word l) 25 3 = 0b111#3 ∧ fld (o.word l) 24 4 = 0b1110#4 ∧
    fld (o.word l) 4 1 = 0b1#1 ∧ fld (o.word l) 20 1 = l := by
  simp [Mcr2Ops.word, fld_full]

@[simp] theorem Ldc2Ops.read_word (l : BitVec 1) (o : Ldc2Ops) : Ldc2Ops.read (o.word l) = o := by
  simp [Ldc2Ops.read, Ldc2Ops.word, fld_full]

@[simp] theorem Ldc2Ops.fields (l : BitVec 1) (o : Ldc2Ops) :
    fld (o.word l) 28 4 = 0b1111#4 ∧ fld (o.word l) 25 3 = 0b110#3 ∧ fld (o.word l) 24 4 = 0b110#3 ++ bit o.p ∧
    fld (o.word l) 23 2 = bit o.p ++ bit o.u ∧ fld (o.word l) 21 1 = bit o.w ∧ fld (o.word l) 20 1 = l := by
  simp [Ldc2Ops.word, fld_full, ← fld_join _ 24 1 3, ← fld_join _ 23 1 1]

@[simp] theorem McrrOps.read_word (l : BitVec 1) (o : McrrOps) : McrrOps.read o.cond (o.word l) = o := by
  simp [McrrOps.read, McrrOps.word, fld_full]

@[simp] theorem McrrOps.fields (l : BitVec 1) (o : McrrOps) :
    fld (o.word l) 25 3 = 0b110#3 ∧ fld (o.word l) 23 2 = 0b00#2 ∧ fld (o.word l) 21 1 = 0b0#1 ∧
    fld (o.word l) 22 1 = 0b1#1 ∧ fld (o.word l) 20 1 = l := by
  simp [McrrOps.word, fld_full]

@[simp] theorem SwiOps.read_word (o : SwiOps) : SwiOps.read o.cond o.word = o := by
  simp [SwiOps.read, SwiOps.word, fld_full]

@[simp] theorem SwiOps.fields (o : SwiOps) :
    fld o.word 25 3 = 0b111#3 ∧ fld o.word 24 1 = 0b1#1 := by
  simp [SwiOps.word]

/-! ### The Thumb formats -/

@[simp] theorem TShiftImmOps.read_word (op : BitVec 2) (o : TShiftImmOps) : TShiftImmOps.read (o.word op) = o := by
  simp [TShiftImmOps.read, TShiftImmOps.word, fld_full]

@[simp] theorem TShiftImmOps.fields (op : BitVec 2) (o : TShiftImmOps) :
    fld (o.word op) 13 3 = 0b000#3 ∧ fld (o.word op) 11 2 = op := by
  simp [TShiftImmOps.word, fld_full]

@[simp] theorem TAdd3Ops.read_word (op : BitVec 1) (o : TAdd3Ops) : TAdd3Ops.read (o.word op) = o := by
  simp [TAdd3Ops.read, TAdd3Ops.word, fld_full]

@[simp] theorem TAdd3Ops.fields (op : BitVec 1) (o : TAdd3Ops) :
    fld (o.word op) 13 3 = 0b000#3 ∧ fld (o.word op) 11 2 = 0b11#2 ∧ fld (o.word op) 9 2 = 0b0#1 ++ op := by
  simp [TAdd3Ops.word, fld_full, ← fld_join _ 9 1 1]

@[simp] theorem TAddImm3Ops.read_word (op : BitVec 1) (o : TAddImm3Ops) : TAddImm3Ops.read (o.word op) = o := by
  simp [TAddImm3Ops.read, TAddImm3Ops.word, fld_full]

@[simp] theorem TAddImm3Ops.fields (op : BitVec 1) (o : TAddImm3Ops) :
    fld (o.word op) 13 3 = 0b000#3 ∧ fld (o.word op) 11 2 = 0b11#2 ∧ fld (o.word op) 9 2 = 0b1#1 ++ op := by
  simp [TAddImm3Ops.word, fld_full, ← fld_join _ 9 1 1]

@[simp] theorem TRdImm8Ops.read_word (op : BitVec 5) (o : TRdImm8Ops) : TRdImm8Ops.read (o.word op) = o := by
  simp [TRdImm8Ops.read, TRdImm8Ops.word, fld_full]

@[simp] theorem TRdImm8Ops.fields (op : BitVec 5) (o : TRdImm8Ops) :
    fld (o.word op) 13 3 = fld op 2 3 ∧ fld (o.word op) 12 1 = fld op 1 1 ∧ fld (o.word op) 11 2 = fld op 0 2 ∧
    fld (o.word op) 11 1 = fld op 0 1 := by
  simp [TRdImm8Ops.word]

@[simp] theorem TAluOps.read_word (op : BitVec 4) (o : TAluOps) : TAluOps.read (o.word op) = o := by
  simp [TAluOps.read, TAluOps.word, fld_full]

@[simp] theorem TAluOps.fields (op : BitVec 4) (o : TAluOps) :
    fld (o.word op) 13 3 = 0b010#3 ∧ fld (o.word op) 12 1 = 0b0#1 ∧ fld (o.word op) 11 1 = 0b0#1 ∧
    fld (o.word op) 10 1 = 0b0#1 ∧ fld (o.word op) 6 4 = op := by
  simp [TAluOps.word, fld_full]

@[simp] theorem THiOps.read_word (op : BitVec 2) (o : THiOps) : THiOps.read (o.word op) = o := by
  simp [THiOps.read, THiOps.word, fld_full]

@[simp] theorem THiOps.fields (op : BitVec 2) (o : THiOps) :
    fld (o.word op) 13 3 = 0b010#3 ∧ fld (o.word op) 12 1 = 0b0#1 ∧ fld (o.word op) 11 1 = 0b0#1 ∧
    fld (o.word op) 10 1 = 0b1#1 ∧ fld (o.word op) 8 2 = op := by
  simp [THiOps.word, fld_full]

@[simp] theorem TBxOps.read_word (h1 : BitVec 1) (o : TBxOps) : TBxOps.read (o.word h1) = o := by
  simp [TBxOps.read, TBxOps.word, fld_full]

@[simp] theorem TBxOps.fields (h1 : BitVec 1) (o : TBxOps) :
    fld (o.word h1) 13 3 = 0b010#3 ∧ fld (o.word h1) 12 1 = 0b0#1 ∧ fld (o.word h1) 11 1 = 0b0#1 ∧
    fld (o.word h1) 10 1 = 0b1#1 ∧ fld (o.word h1) 8 2 = 0b11#2 ∧ fld (o.word h1) 7 1 = h1 := by
  simp [TBxOps.word, fld_full]

@[simp] theorem TMemRegOps.read_word (op : BitVec 3) (o : TMemRegOps) : TMemRegOps.read (o.word op) = o := by
  simp [TMemRegOps.read, TMemRegOps.word, fld_full]

@[simp] theorem TMemRegOps.fields (op : BitVec 3) (o : TMemRegOps) :
    fld (o.word op) 13 3 = 0b010#3 ∧ fld (o.word op) 12 1 = 0b1#1 ∧ fld (o.word op) 9 3 = op := by
  simp [TMemRegOps.word, fld_full]

@[simp] theorem TMemImmOps.read_word (op : BitVec 5) (o : TMemImmOps) : TMemImmOps.read (o.word op) = o := by
  simp [TMemImmOps.read, TMemImmOps.word, fld_full]

@[simp] theorem TMemImmOps.fields (op : BitVec 5) (o : TMemImmOps) :
    fld (o.word op) 13 3 = fld op 2 3 ∧ fld (o.word op) 11 2 = fld op 0 2 := by
  simp [TMemImmOps.word]

@[simp] theorem TSpImmOps.read_word (s : BitVec 1) (o : TSpImmOps) : TSpImmOps.read (o.word s) = o := by
  simp [TSpImmOps.read, TSpImmOps.word, fld_full]

@[simp] theorem TSpImmOps.fields (s : BitVec 1) (o : TSpImmOps) :
    fld (o.word s) 13 3 = 0b101#3 ∧ fld (o.word s) 12 1 = 0b1#1 ∧ fld (o.word s) 8 4 = 0b0000#4 ∧
    fld (o.word s) 7 1 = s := by
  simp [TSpImmOps.word, fld_full]

@[simp] theorem TStackOps.read_word (l : BitVec 1) (o : TStackOps) : TStackOps.read (o.word l) = o := by
  simp [TStackOps.read, TStackOps.word, fld_full]

@[simp] theorem TStackOps.fields (l : BitVec 1) (o : TStackOps) :
    fld (o.word l) 13 3 = 0b101#3 ∧ fld (o.word l) 12 1 = 0b1#1 ∧ fld (o.word l) 8 4 = l ++ 0b10#2 ++ bit o.extra ∧
    fld (o.word l) 9 2 = 0b10#2 ∧ fld (o.word l) 11 1 = l := by
  simp [TStackOps.word, fld_full, ← fld_join _ 8 1 3, ← fld_join _ 9 2 1]

@[simp] theorem TCommentOps.read_word (op : BitVec 8) (o : TCommentOps) : TCommentOps.read (o.word op) = o := by
  simp [TCommentOps.read, TCommentOps.word, fld_full]

@[simp] theorem TCommentOps.fields (op : BitVec 8) (o : TCommentOps) :
    fld (o.word op) 13 3 = fld op 5 3 ∧ fld (o.word op) 12 1 = fld op 4 1 ∧ fld (o.word op) 8 4 = fld op 0 4 ∧
    fld (o.word op) 9 2 = fld op 1 2 := by
  simp [TCommentOps.word]

@[simp] theorem TMultiOps.read_word (l : BitVec 1) (o : TMultiOps) : TMultiOps.read (o.word l) = o := by
  simp [TMultiOps.read, TMultiOps.word, fld_full]

@[simp] theorem TMultiOps.fields (l : BitVec 1) (o : TMultiOps) :
    fld (o.word l) 13 3 = 0b110#3 ∧ fld (o.word l) 12 1 = 0b0#1 ∧ fld (o.word l) 11 1 = l := by
  simp [TMultiOps.word, fld_full]

@[simp] theorem TCondBranchOps.read_word (o : TCondBranchOps) : TCondBranchOps.read o.cond o.word = o := by
  simp [TCondBranchOps.read, TCondBranchOps.word, fld_full]

@[simp] theorem TCondBranchOps.fields (o : TCondBranchOps) :
    fld o.word 13 3 = 0b110#3 ∧ fld o.word 12 1 = 0b1#1 ∧ fld o.word 8 4 = o.cond.bits := by
  simp [TCondBranchOps.word, fld_full]

@[simp] theorem TBranchOps.read_word (op : BitVec 5) (o : TBranchOps) : TBranchOps.read (o.word op) = o := by
  simp [TBranchOps.read, TBranchOps.word, fld_full]

@[simp] theorem TBranchOps.fields (op : BitVec 5) (o : TBranchOps) :
    fld (o.word op) 13 3 = fld op 2 3 ∧ fld (o.word op) 11 2 = fld op 0 2 := by
  simp [TBranchOps.word]

@[simp] theorem TBlxSuffixOps.read_word (o : TBlxSuffixOps) : TBlxSuffixOps.read o.word = o := by
  simp [TBlxSuffixOps.read, TBlxSuffixOps.word, fld_full]

@[simp] theorem TBlxSuffixOps.fields (o : TBlxSuffixOps) :
    fld o.word 13 3 = 0b111#3 ∧ fld o.word 11 2 = 0b01#2 ∧ fld o.word 0 1 = 0b0#1 := by
  simp [TBlxSuffixOps.word, fld_full]
/-! ### Fields that hold an operand beside fixed bits -/

/-- With one of P, U, W set a coprocessor transfer is not in the slot of MCRR and MRRC (R126). -/
theorem not_coprocessorSlot {p u w : Bool} (h : coprocessorModeWf p u w = true) :
    ¬(bit p ++ bit u = 0b00#2 ∧ bit w = 0b0#1) := by
  revert p u w
  decide

/-- No value of P makes bits 27:24 of LDC2 and STC2 those of PLD, CDP2, MCR2 or MRC2 (R113). -/
theorem coprocessorTransfer_lead (p : Bool) :
    0b110#3 ++ bit p ≠ 0b0101#4 ∧ 0b110#3 ++ bit p ≠ 0b0111#4 ∧ 0b110#3 ++ bit p ≠ 0b1110#4 := by
  cases p <;> decide

/-- Bits 10:9 keep PUSH and POP out of the slot of the SP adjustments (R135). -/
theorem stack_ne_spAdjust (extra : Bool) : 0b010#3 ++ bit extra ≠ 0b0000#4 ∧ 0b110#3 ++ bit extra ≠ 0b0000#4 := by
  cases extra <;> decide

/-! ### The tables -/

open Laws in
/-- The decoder reads every well-formed instruction back from its word. The cases are the decoder's tables: the fields
of a format lead to the table that holds its rows, and there to the row. -/
theorem decode_encode (i : Instr) (h : i.wf = true) : decode (encode i) = .ok i := by
  cases i with
  | mrs o | msrReg o | bx o | blxReg o | clz o | qadd o | qsub o | qdadd o | qdsub o =>
    simp [encode, decode, decodeArm, cond_ofBits_bits, lead_MrsOps, lead_MsrRegOps, lead_BxOps, lead_ClzOps, lead_QOps,
      decodeCond, decode000, decodeMisc]
  | bkpt o => simp [encode, decode, decodeArm, Cond.ofBits, decodeCond, decode000, decodeMisc]
  | smlaXy o | smlaW o | smulW o | smlalXy o | smulXy o =>
    simp [encode, decode, decodeArm, cond_ofBits_bits, lead_SmlaXyOps, lead_SmlaWOps, lead_SmulWOps, lead_SmlalXyOps,
      lead_SmulXyOps, decodeCond, decode000, decodeDspMul]
  | mul o | mla o | umull o | umlal o | smull o | smlal o | swp o | swpb o =>
    simp [encode, decode, decodeArm, cond_ofBits_bits, lead_MulOps, lead_MlaOps, lead_MullOps, lead_SwpOps, decodeCond,
      decode000, decodeMultiply]
  | strhImm o | strhReg o | ldrhImm o | ldrhReg o | ldrsbImm o | ldrsbReg o | ldrshImm o | ldrshReg o | ldrdImm o
  | ldrdReg o | strdImm o | strdReg o =>
    simp [encode, decode, decodeArm, cond_ofBits_bits, lead_ExtImmOps, lead_ExtRegOps, decodeCond, decode000,
      decodeExtra]
  | msrImm o => simp [encode, decode, decodeArm, cond_ofBits_bits, lead_MsrImmOps, decodeCond, decode001]
  | andImm o | eorImm o | subImm o | rsbImm o | addImm o | adcImm o | sbcImm o | rscImm o | orrImm o | bicImm o
  | tstImm o | teqImm o | cmpImm o | cmnImm o | movImm o | mvnImm o =>
    simp [encode, decode, decodeArm, cond_ofBits_bits, lead_AluImmOps, lead_CmpImmOps, lead_MovImmOps, decodeCond,
      decode001, decodeAluImm]
  | andShift o | eorShift o | subShift o | rsbShift o | addShift o | adcShift o | sbcShift o | rscShift o | orrShift o
  | bicShift o | tstShift o | teqShift o | cmpShift o | cmnShift o | movShift o | mvnShift o =>
    simp [encode, decode, decodeArm, cond_ofBits_bits, lead_AluShiftOps, lead_CmpShiftOps, lead_MovShiftOps, decodeCond,
      decode000, decodeAluShift]
  | andReg o | eorReg o | subReg o | rsbReg o | addReg o | adcReg o | sbcReg o | rscReg o | orrReg o | bicReg o
  | tstReg o | teqReg o | cmpReg o | cmnReg o | movReg o | mvnReg o =>
    simp [encode, decode, decodeArm, cond_ofBits_bits, lead_AluRegOps, lead_CmpRegOps, lead_MovRegOps, decodeCond,
      decode000, decodeAluReg]
  | ldrImmPre o | ldrImmPost o | ldrtImm o | ldrbImmPre o | ldrbImmPost o | ldrbtImm o | strImmPre o | strImmPost o
  | strtImm o | strbImmPre o | strbImmPost o | strbtImm o =>
    simp [encode, decode, decodeArm, cond_ofBits_bits, lead_MemImmPreOps, lead_MemImmPostOps, decodeCond, decodeMemImm]
  | ldrRegPre o | ldrRegPost o | ldrtReg o | ldrbRegPre o | ldrbRegPost o | ldrbtReg o | strRegPre o | strRegPost o
  | strtReg o | strbRegPre o | strbRegPost o | strbtReg o =>
    simp [encode, decode, decodeArm, cond_ofBits_bits, lead_MemRegPreOps, lead_MemRegPostOps, decodeCond, decodeMemReg]
  | ldm1 o | stm1 o | stm2 o | ldm2 o | ldm3 o =>
    simp [encode, decode, decodeArm, cond_ofBits_bits, lead_LdmOps, lead_Ldm15Ops, decodeCond, decodeMultiple]
  | b o | bl o => simp [encode, decode, decodeArm, cond_ofBits_bits, lead_BranchOps, decodeCond]
  | mcrr o | mrrc o => simp [encode, decode, decodeArm, cond_ofBits_bits, lead_McrrOps, decodeCond, decode110]
  | ldc o | stc o =>
    simp [encode, decode, decodeArm, cond_ofBits_bits, lead_LdcOps, decodeCond, decode110, not_coprocessorSlot h]
  | cdp o | mcr o | mrc o | swi o =>
    simp [encode, decode, decodeArm, cond_ofBits_bits, lead_CdpOps, lead_McrOps, lead_SwiOps, decodeCond, decode111]
  | blxImm o | pldImm o | pldReg o | cdp2 o | mcr2 o | mrc2 o =>
    simp [encode, decode, decodeArm, Cond.ofBits, decodeUncond]
  | ldc2 o | stc2 o =>
    simp [encode, decode, decodeArm, Cond.ofBits, decodeUncond, coprocessorTransfer_lead, not_coprocessorSlot h]
  | tLslImm o | tLsrImm o | tAsrImm o | tAddReg o | tSubReg o | tAddImm3 o | tSubImm3 o =>
    simp [encode, decode, decodeThumb, decodeThumb000]
  | tMovImm o | tCmpImm o | tAddImm8 o | tSubImm8 o => simp [encode, decode, decodeThumb, decodeThumb001]
  | tAnd o | tEor o | tLslReg o | tLsrReg o | tAsrReg o | tAdc o | tSbc o | tRor o | tTst o | tNeg o | tCmpLow o
  | tCmn o | tOrr o | tMul o | tBic o | tMvn o =>
    simp [encode, decode, decodeThumb, decodeThumb010, decodeThumbAlu]
  | tAddHi o | tCmpHi o | tMovHi o | tBx o | tBlxReg o =>
    simp [encode, decode, decodeThumb, decodeThumb010, decodeThumbHi]
  | tLdrPc o => simp [encode, decode, decodeThumb, decodeThumb010]
  | tStrReg o | tStrhReg o | tStrbReg o | tLdrsbReg o | tLdrReg o | tLdrhReg o | tLdrbReg o | tLdrshReg o =>
    simp [encode, decode, decodeThumb, decodeThumb010, decodeThumb0101]
  | tStrImm o | tLdrImm o | tStrbImm o | tLdrbImm o => simp [encode, decode, decodeThumb, decodeThumb011]
  | tStrhImm o | tLdrhImm o | tStrSp o | tLdrSp o => simp [encode, decode, decodeThumb, decodeThumb100]
  | tAddPc o | tAddSp o | tIncSp o | tDecSp o | tBkpt o => simp [encode, decode, decodeThumb, decodeThumb101]
  | tPush o | tPop o => simp [encode, decode, decodeThumb, decodeThumb101, stack_ne_spAdjust]
  | tStmia o | tLdmia o => simp [encode, decode, decodeThumb, decodeThumb110]
  | tSwi o => simp [encode, decode, decodeThumb, decodeThumb110, Cond.ofBits]
  | tBCond o =>
    have hal : o.cond ≠ .al := by simpa [Instr.wf] using h
    simp [encode, decode, decodeThumb, decodeThumb110, cond_ofBits_bits, hal]
  | tB o | tBlPrefix o | tBlSuffix o | tBlxSuffix o => simp [encode, decode, decodeThumb, decodeThumb111]

/-- Settles O1: each format's operands are read back, and its fields lead to its row. -/
theorem roundTrip : Obligations.RoundTrip := decode_encode

/-! ### The undefined pattern -/

/-- With a condition the pattern is rejected by name, and with cond = 1111 bits 27:24 and bit 4 leave no row (R129). -/
theorem decodeArm_undefinedPattern {w : Word} (h : fld w 25 3 = 0b011#3) (h4 : fld w 4 1 = 0b1#1) :
    ∃ r, decodeArm w = .error r := by
  have top : fld w 24 4 = 0b011#3 ++ fld w 24 1 := by rw [← h]; exact (fld_join w 24 1 3).symm
  have noRow : ∀ b : BitVec 1, 0b011#3 ++ b ≠ 0b0101#4 ∧ 0b011#3 ++ b ≠ 0b1110#4 := by decide
  unfold decodeArm
  split
  next c _ => exact ⟨.archUndefined, by simp [decodeCond, h, h4]⟩
  next => exact ⟨.unconditional, by simp [decodeUncond, h, h4, top, noRow]⟩

/-- Settles O3: bit 4 as a field, then the decoder on the pattern. -/
theorem undefinedPatternRejected : Obligations.UndefinedPatternRejected := by
  unfold Obligations.UndefinedPatternRejected
  intro w h hbit
  refine decodeArm_undefinedPattern h ?_
  apply BitVec.eq_of_getLsbD_eq
  intro i hi
  obtain rfl : i = 0 := by omega
  simpa [fld, bitAt] using hbit

end Sys2Proof.Proofs
end

section
/-! PROOF. A failed condition (R112): every frame of a conditional instruction asks the condition first, and with the
condition failed only moves the pc on. One lemma per frame, then the instructions by the frame they are written in. -/

namespace Sys2Proof.Proofs

open Sys2Proof.Machine

section
variable {c : Cond} {s : State} (h : condPassed c s.cpsr = false)
include h

theorem ifPassed_of_failed (k : State → Out) : s.ifPassed c k = .next s.advance := by
  simp [State.ifPassed, h]

theorem registerShift_of_failed (regs : List Reg) (k : State → Out) : registerShift c regs k s = .next s.advance :=
  ifPassed_of_failed h _

theorem dataProcessing_of_failed (op : AluOp) (f : Bool) (rn rd : Reg) (b : State → Shifted) :
    dataProcessing op c f rn rd b s = .next s.advance :=
  ifPassed_of_failed h _

theorem dataMove_of_failed (op : AluOp) (f : Bool) (rd : Reg) (b : State → Shifted) :
    dataMove op c f rd b s = .next s.advance :=
  ifPassed_of_failed h _

theorem dataCompare_of_failed (op : AluOp) (rn : Reg) (b : State → Shifted) :
    dataCompare op c rn b s = .next s.advance :=
  ifPassed_of_failed h _

theorem multiplyFrame_of_failed (regs : List Reg) (k : State → State) :
    multiplyFrame c regs k s = .next s.advance :=
  ifPassed_of_failed h _

end

theorem swapFrame_of_failed {o : SwpOps} {s : State} (h : condPassed o.cond s.cpsr = false) (k : LoadKind) :
    swapFrame k o s = .next s.advance :=
  ifPassed_of_failed h _

/-- A conditional instruction whose condition fails advances, each by its frame. -/
theorem exec_of_failed {i : Instr} {c : Cond} {s : State} (hi : condOf i = some c)
    (h : condPassed c s.cpsr = false) : exec i s = .next s.advance := by
  unfold exec
  cases i with
  | andImm _ | andShift _ | eorImm _ | eorShift _ | subImm _ | subShift _ | rsbImm _ | rsbShift _ | addImm _
  | addShift _ | adcImm _ | adcShift _ | sbcImm _ | sbcShift _ | rscImm _ | rscShift _ | orrImm _ | orrShift _
  | bicImm _ | bicShift _ =>
    cases hi
    exact dataProcessing_of_failed h ..
  | movImm _ | movShift _ | mvnImm _ | mvnShift _ =>
    cases hi
    exact dataMove_of_failed h ..
  | tstImm _ | tstShift _ | teqImm _ | teqShift _ | cmpImm _ | cmpShift _ | cmnImm _ | cmnShift _ =>
    cases hi
    exact dataCompare_of_failed h ..
  | andReg _ | eorReg _ | subReg _ | rsbReg _ | addReg _ | adcReg _ | sbcReg _ | rscReg _ | orrReg _ | bicReg _
  | movReg _ | mvnReg _ | tstReg _ | teqReg _ | cmpReg _ | cmnReg _ =>
    cases hi
    exact registerShift_of_failed h ..
  | mul _ | mla _ | umull _ | umlal _ | smull _ | smlal _ | qadd _ | qsub _ | qdadd _ | qdsub _ | smulXy _ | smlaXy _
  | smulW _ | smlaW _ | smlalXy _ =>
    cases hi
    exact multiplyFrame_of_failed h ..
  | swp _ | swpb _ =>
    cases hi
    exact swapFrame_of_failed h _
  | mrs _ | msrReg _ | msrImm _ | bx _ | blxReg _ | clz _ | strhImm _ | strhReg _ | ldrhImm _ | ldrhReg _ | ldrsbImm _
  | ldrsbReg _ | ldrshImm _ | ldrshReg _ | ldrdImm _ | ldrdReg _ | strdImm _ | strdReg _ | ldrImmPre _ | ldrImmPost _
  | ldrtImm _ | ldrRegPre _ | ldrRegPost _ | ldrtReg _ | ldrbImmPre _ | ldrbImmPost _ | ldrbtImm _ | ldrbRegPre _
  | ldrbRegPost _ | ldrbtReg _ | strImmPre _ | strImmPost _ | strtImm _ | strRegPre _ | strRegPost _ | strtReg _
  | strbImmPre _ | strbImmPost _ | strbtImm _ | strbRegPre _ | strbRegPost _ | strbtReg _ | ldm1 _ | ldm2 _ | ldm3 _
  | stm1 _ | stm2 _ | b _ | bl _ | cdp _ | mcr _ | mrc _ | mcrr _ | mrrc _ | ldc _ | stc _ | swi _ | tBCond _ =>
    cases hi
    exact ifPassed_of_failed h _
  | _ => cases hi

/-- Settles O15: to advance is to move the pc by the instruction's length. -/
theorem failedCondition : Obligations.FailedCondition := by
  unfold Obligations.FailedCondition
  intro i s c hi h
  exact exec_of_failed hi h

end Sys2Proof.Proofs
end

section
/-! SUPPORT. A boundary at which only the instruction acts (R31, R476): filling the queue changes its own records
only, the head of the queue is the oldest live entry or the instruction fetched at the pc, and the step runs it. -/

namespace Sys2Proof.Proofs

open Sys2Proof.Machine

/-! ### The boundary before the instruction -/

@[simp] theorem sample_regs (s : State) : s.sample.regs = s.regs := rfl
@[simp] theorem sample_pc (s : State) : s.sample.pc = s.pc := rfl
@[simp] theorem sample_cpsr (s : State) : s.sample.cpsr = s.cpsr := rfl
@[simp] theorem sample_mem (s : State) : s.sample.mem = s.mem := rfl
@[simp] theorem sample_cfg (s : State) : s.sample.cfg = s.cfg := rfl
@[simp] theorem sample_bankHazard (s : State) : s.sample.bankHazard = s.bankHazard := rfl
@[simp] theorem sample_dbg (s : State) : s.sample.dbg = s.dbg := rfl
@[simp] theorem sample_mode (s : State) : s.sample.mode = s.mode := rfl
@[simp] theorem sample_thumb (s : State) : s.sample.thumb = s.thumb := rfl
@[simp] theorem sample_instrSize (s : State) : s.sample.instrSize = s.instrSize := rfl

/-- Fetches change the queue, the record of requests, the comparators' latches, the vector catch in progress and the
counter of free values. -/
theorem prefetch_frame (n : Nat) (a : Word) (s : State) : prefetch n a s =
    { s with fetchQ := (prefetch n a s).fetchQ, ibus := (prefetch n a s).ibus, ice := (prefetch n a s).ice,
             dbg := { s.dbg with catchNext := (prefetch n a s).dbg.catchNext },
             freeIx := (prefetch n a s).freeIx } := by
  induction n generalizing a s with
  | zero => rfl
  | succ n ih => rw [prefetch, ih]; rfl

theorem fillQueue_frame (s : State) : s.fillQueue =
    { s with fetchQ := s.fillQueue.fetchQ, ibus := s.fillQueue.ibus, ice := s.fillQueue.ice,
             dbg := { s.dbg with catchNext := s.fillQueue.dbg.catchNext }, freeIx := s.fillQueue.freeIx } :=
  prefetch_frame _ _ _

@[simp] theorem fillQueue_regs (s : State) : s.fillQueue.regs = s.regs := by rw [fillQueue_frame]
@[simp] theorem fillQueue_pc (s : State) : s.fillQueue.pc = s.pc := by rw [fillQueue_frame]
@[simp] theorem fillQueue_cpsr (s : State) : s.fillQueue.cpsr = s.cpsr := by rw [fillQueue_frame]
@[simp] theorem fillQueue_mem (s : State) : s.fillQueue.mem = s.mem := by rw [fillQueue_frame]
@[simp] theorem fillQueue_cfg (s : State) : s.fillQueue.cfg = s.cfg := by rw [fillQueue_frame]
@[simp] theorem fillQueue_fiqReg (s : State) : s.fillQueue.fiqReg = s.fiqReg := by rw [fillQueue_frame]
@[simp] theorem fillQueue_irqReg (s : State) : s.fillQueue.irqReg = s.irqReg := by rw [fillQueue_frame]
@[simp] theorem fillQueue_bankHazard (s : State) : s.fillQueue.bankHazard = s.bankHazard := by rw [fillQueue_frame]
@[simp] theorem fillQueue_watch (s : State) : s.fillQueue.dbg.watch = s.dbg.watch := by rw [fillQueue_frame]
@[simp] theorem fillQueue_mode (s : State) : s.fillQueue.mode = s.mode := by simp [State.mode]
@[simp] theorem fillQueue_thumb (s : State) : s.fillQueue.thumb = s.thumb := by simp [State.thumb]
@[simp] theorem fillQueue_instrSize (s : State) : s.fillQueue.instrSize = s.instrSize := by simp [State.instrSize]

/-! ### The head of the queue -/

/-- A fetch joins the queue at its end. -/
theorem prefetch_fetchQ (n : Nat) (a : Word) (s : State) : ∃ q, (prefetch n a s).fetchQ = s.fetchQ ++ q := by
  induction n generalizing a s with
  | zero => exact ⟨[], (List.append_nil _).symm⟩
  | succ n ih =>
    obtain ⟨q, hq⟩ := ih (a + s.instrSize) (s.fetch a)
    exact ⟨s.fetched a :: q, hq.trans (List.append_assoc s.fetchQ [s.fetched a] q)⟩

/-- What is prefetched and still wanted stays at the head. -/
theorem fillQueue_live {s : State} {f : Fetched} {rest : List Fetched} (h : s.liveQueue = f :: rest) :
    ∃ q, s.fillQueue.fetchQ = f :: q := by
  obtain ⟨q, hq⟩ := prefetch_fetchQ (3 - s.liveQueue.length)
    (s.pc + BitVec.ofNat 32 s.liveQueue.length * s.instrSize) { s with fetchQ := s.liveQueue }
  exact ⟨rest ++ q, by rw [← List.cons_append, ← h]; exact hq⟩

/-- With nothing prefetched the instruction at the pc is fetched now. -/
theorem fillQueue_fresh {s : State} (h : s.liveQueue = []) :
    ∃ q, s.fillQueue.fetchQ = ({ s with fetchQ := [] } : State).fetched s.pc :: q := by
  obtain ⟨q, hq⟩ := prefetch_fetchQ 2 (s.pc + s.instrSize) (({ s with fetchQ := [] } : State).fetch s.pc)
  refine ⟨q, ?_⟩
  have filled : s.fillQueue = prefetch 3 s.pc { s with fetchQ := [] } := by simp [State.fillQueue, h]
  rw [filled]
  exact hq

/-- An entry that opens the queue has a fetch of its own. -/
theorem fetched_aborted {s : State} (h : s.fetchQ = []) (a : Word) : (s.fetched a).aborted =
    s.cfg.abort .fetch s.fetchSize (s.fetchSize.align a) s.privileged (~~~psrM s.cpsr) := by
  simp [State.fetched, State.sharedFetch, State.fetchCycle, h]

/-- With debug off no fetch is marked (R590). -/
theorem fetched_mark {s : State} (h : s.cfg.dbgen = false) (a : Word) : (s.fetched a).mark = none := by
  simp [State.fetched, State.fetchMark, h]

/-- The entry the next step runs, if no fetch of it aborted: unmarked, with the bits the premise names, and of the set
in force. -/
theorem head_of_headBits {s : State} {w : Word} (h : Claims.undisturbed s) (hw : Claims.headBits s w) :
    ∃ f q, s.sample.fillQueue.fetchQ = f :: q ∧ f.aborted = false ∧ f.mark = none ∧ f.bits = w ∧
      f.thumb = s.thumb := by
  obtain ⟨⟨_, ⟨hdbgen, _⟩, _⟩, _⟩ := h
  have thumb (f : Fetched) (q : List Fetched) (hq : s.sample.fillQueue.fetchQ = f :: q) : f.thumb = s.thumb := by
    have fits : f.thumb = s.sample.fillQueue.thumb := fillQueue_headFits s.sample f (by simp [hq])
    exact fits.trans (fillQueue_thumb _)
  obtain ⟨f, rest, hlive, haborted, hmark, hbits⟩ | ⟨hlive, haborts, hbits⟩ := hw
  · obtain ⟨q, hq⟩ := fillQueue_live (s := s.sample) hlive
    exact ⟨f, q, hq, haborted, hmark, hbits, thumb f q hq⟩
  · obtain ⟨q, hq⟩ := fillQueue_fresh (s := s.sample) hlive
    refine ⟨_, q, hq, ?_, ?_, ?_, thumb _ q hq⟩
    · exact (fetched_aborted rfl _).trans (haborts ..)
    · exact fetched_mark (s := { s.sample with fetchQ := [] }) hdbgen _
    · exact hbits.symm

/-! ### The step -/

/-- Nothing but the instruction acts: the debug port is idle, no debug event or interrupt is pending. -/
theorem step_of_undisturbed {s : State} (h : Claims.undisturbed s) : step s = runNext s.sample.fillQueue := by
  obtain ⟨⟨hquiet, ⟨hdbgen, hactive⟩, hwatch, hmode⟩, _, hfiq, hirq⟩ := h
  obtain ⟨hport, hreset⟩ := debugPort_of_quietPins hquiet
  obtain ⟨hstream, _, _⟩ := hquiet
  have fiq : s.sample.fiqReg = false := by simp [State.sample, hstream, hfiq]
  have irq : s.sample.irqReg = false := by simp [State.sample, hstream, hirq]
  have legal : s.sample.legalMode = true := Option.isSome_iff_ne_none.mpr hmode
  calc step s = coreBoundary s.sample := by rw [step, boundary, hport]; rfl
    _ = watchBoundary s.sample.fillQueue := by
      simp [coreBoundary, hreset, legal, hactive, State.monitorViolation, hdbgen]
    _ = normalBoundary s.sample.fillQueue := by simp [watchBoundary, hwatch]
    _ = runNext s.sample.fillQueue := by simp [normalBoundary, State.fiqPending, State.irqPending, hdbgen, fiq, irq]

section
variable {s : State} (hwin : s.cfg.windows = [])
include hwin

/-- Without windows the memory map stops nothing. -/
theorem guardAccess_of_noWindows (z : Size) (a : Word) (k : Out) : s.guardAccess z a k = k := by
  simp [State.guardAccess, hwin]

theorem guardCycles_of_noWindows (cs : List BusCycle) : s.guardCycles cs = .next s := by
  induction cs with
  | nil => rfl
  | cons c cs ih => simp [State.guardCycles, guardAccess_of_noWindows hwin, ih]

theorem runNext_of_aborted {f : Fetched} {q : List Fetched} (hq : s.fetchQ = f :: q) (ha : f.aborted = true) :
    runNext s = .next s.prefetchAbort := by
  simp [runNext, hq, runHead, guardAccess_of_noWindows hwin, ha]

theorem runNext_of_unmarked {f : Fetched} {q : List Fetched} (hq : s.fetchQ = f :: q) (ha : f.aborted = false)
    (hm : f.mark = none) (hw : s.dbg.watch = .idle) :
    runNext s = andThen (executeHead f s) fun t => t.guardCycles t.bus := by
  simp [runNext, hq, runHead, guardAccess_of_noWindows hwin, ha, State.headMark, hm, hw]

end

/-- The step decodes the bits of the head and runs what they are. -/
theorem step_of_headBits {s : State} {w : Word} (h : Claims.undisturbed s) (hw : Claims.headBits s w) :
    ∃ f : Fetched, f.bits = w ∧ f.thumb = s.thumb ∧ f.instr = Claims.decoded s w ∧
      step s = andThen (executeHead f s.sample.fillQueue) fun t => t.guardCycles t.bus := by
  obtain ⟨f, q, hq, ha, hm, hbits, hthumb⟩ := head_of_headBits h hw
  obtain ⟨⟨_, _, hwatch, _⟩, hwin, _⟩ := id h
  refine ⟨f, hbits, hthumb, by rw [Fetched.instr, Claims.decoded, hbits, hthumb], ?_⟩
  rw [step_of_undisturbed h]
  exact runNext_of_unmarked (by simpa using hwin) hq ha hm (by simpa using hwatch)

end Sys2Proof.Proofs
end

section
/-! SUPPORT. Exception entry (R460, R462): the registers, status registers and pc it leaves, and its CPSR as the spec
writes it, field by field. -/

namespace Sys2Proof.Proofs

open Sys2Proof.Machine

@[simp] theorem takeException_regs (s : State) (k : ExcKind) (r : Word) :
    (s.takeException k r).regs = s.regs.set (physIx k.mode 14#4) r := by
  cases k <;> rfl

@[simp] theorem takeException_pc (s : State) (k : ExcKind) (r : Word) :
    (s.takeException k r).pc = Claims.vectors s + k.offset := rfl

@[simp] theorem takeException_cpsr (s : State) (k : ExcKind) (r : Word) :
    (s.takeException k r).cpsr = k.newCpsr s.cpsr := rfl

/-! ### Bits of a status register -/

/-- A bit of a literal is computed. -/
@[simp] theorem bitAt_ofNat (n v i : Nat) : bitAt (BitVec.ofNat n v) i = (BitVec.ofNat n v).getLsbD i := by rw [bitAt]

theorem bitAt_fld {n : Nat} (w : BitVec n) (lo len i : Nat) :
    bitAt (fld w lo len) i = (decide (i < len) && bitAt w (lo + i)) := by
  simp [bitAt, fld]

theorem bitAt_setBit (p : Word) {i : Nat} (hi : i < 32) (b : Bool) (j : Nat) :
    bitAt (setBit p i b) j = if j = i then b else bitAt p j := by
  have twoPow : (BitVec.twoPow 32 i).getLsbD j = decide (i = j) := by
    simpa using fun e => e ▸ hi
  have above : p.getLsbD j = true → j < 32 := BitVec.lt_of_getLsbD
  by_cases h : j = i
  · subst h
    cases b <;> simp [bitAt, setBit, hi]
  · have h' : i ≠ j := Ne.symm h
    cases b <;> simpa [bitAt, setBit, h, h'] using above

theorem bitAt_setPsrM (p : Word) (m : BitVec 5) (j : Nat) :
    bitAt (setPsrM p m) j = if j < 5 then bitAt m j else bitAt p j := by
  have mask : (0xFFFFFFE0#32).getLsbD j = (decide (j < 32) && !decide (j < 5)) := by
    rw [show 0xFFFFFFE0#32 = BitVec.allOnes 32 <<< 5 by decide, BitVec.getLsbD_shiftLeft, BitVec.getLsbD_allOnes]
    grind
  have above : p.getLsbD j = true → j < 32 := BitVec.lt_of_getLsbD
  have field : m.getLsbD j = true → j < 5 := BitVec.lt_of_getLsbD
  simp only [bitAt, setPsrM, BitVec.getLsbD_or, BitVec.getLsbD_and, BitVec.getLsbD_setWidth, mask]
  grind

theorem bitAt_newCpsr (k : ExcKind) (old : Word) (j : Nat) : bitAt (k.newCpsr old) j =
    if j = 7 then true else if j = 6 then k = .fiq || bitAt old 6 else if j = 5 then false
    else if j < 5 then bitAt k.mode.bits j else bitAt old j := by
  unfold ExcKind.newCpsr
  dsimp only
  split <;> grind [bitAt_setBit, bitAt_setPsrM, setPsrT]

/-- The CPSR of an exception: bits 31:8 kept, I set, F set by FIQ and else kept, ARM state, the exception's mode. -/
theorem newCpsr_eq (k : ExcKind) (old : Word) :
    k.newCpsr old = Claims.enteredCpsr old (k = .fiq) k.mode.bits := by
  apply BitVec.eq_of_getLsbD_eq
  intro i hi
  change bitAt _ i = bitAt _ i
  obtain h | rfl | rfl | rfl | h : i < 5 ∨ i = 5 ∨ i = 6 ∨ i = 7 ∨ 8 ≤ i := by omega
  · simp [bitAt_newCpsr, Claims.enteredCpsr, h, show i ≠ 7 by omega, show i ≠ 6 by omega, show i ≠ 5 by omega]
  · simp [bitAt_newCpsr, Claims.enteredCpsr]
  · simp [bitAt_newCpsr, Claims.enteredCpsr]
  · simp [bitAt_newCpsr, Claims.enteredCpsr]
  · obtain ⟨j, rfl⟩ := Nat.exists_eq_add_of_le' h
    simp [bitAt_newCpsr, Claims.enteredCpsr, bitAt_fld, show j < 24 by omega, show ¬j + 8 < 5 by omega, Nat.add_comm]

/-! ### What an entry leaves -/

theorem undefinedInstr_entry (s : State) :
    s.undefinedInstr.regs = s.regs.set (physIx .und 14#4) (s.pc + s.instrSize) ∧ s.undefinedInstr.spsrUnd = s.cpsr ∧
    s.undefinedInstr.cpsr = Claims.enteredCpsr s.cpsr false 0b11011#5 ∧
    s.undefinedInstr.pc = Claims.vectors s + 0x04#32 :=
  ⟨takeException_regs s .undefined _, rfl, newCpsr_eq .undefined s.cpsr, takeException_pc s .undefined _⟩

theorem prefetchAbort_entry (s : State) :
    s.prefetchAbort.regs = s.regs.set (physIx .abt 14#4) (s.pc + 4#32) ∧ s.prefetchAbort.spsrAbt = s.cpsr ∧
    s.prefetchAbort.cpsr = Claims.enteredCpsr s.cpsr false 0b10111#5 ∧
    s.prefetchAbort.pc = Claims.vectors s + 0x0C#32 :=
  ⟨takeException_regs s .prefetchAbort _, rfl, newCpsr_eq .prefetchAbort s.cpsr, takeException_pc s .prefetchAbort _⟩

end Sys2Proof.Proofs
end

section
/-! PROOF. What a step runs (R139, R465, R466): the instruction that the head of the queue decodes to, the Undefined
exception for bits of no row, the Prefetch Abort for an aborted fetch. -/

namespace Sys2Proof.Proofs

open Sys2Proof.Machine

/-- The state an instruction runs in: the pins sampled, the queue filled, the user-bank note used up. -/
def boundaryState (s : State) : State := { s.sample.fillQueue with bankHazard := false }

section
variable (s : State)

@[simp] theorem boundaryState_regs : (boundaryState s).regs = s.regs := fillQueue_regs s.sample
@[simp] theorem boundaryState_pc : (boundaryState s).pc = s.pc := fillQueue_pc s.sample
@[simp] theorem boundaryState_cpsr : (boundaryState s).cpsr = s.cpsr := fillQueue_cpsr s.sample
@[simp] theorem boundaryState_mem : (boundaryState s).mem = s.mem := fillQueue_mem s.sample
@[simp] theorem boundaryState_cfg : (boundaryState s).cfg = s.cfg := fillQueue_cfg s.sample
@[simp] theorem boundaryState_instrSize : (boundaryState s).instrSize = s.instrSize := fillQueue_instrSize s.sample

end

theorem vectors_of_cfg {s t : State} (h : t.cfg = s.cfg) : Claims.vectors t = Claims.vectors s := by
  simp [Claims.vectors, h]

/-! ### A decoded instruction -/

theorem execNext_of_noConflict {i : Instr} {s : State}
    (h : s.bankHazard = false ∨ (sources i).any (banked s.mode) = false) :
    execNext i s = exec i { s with bankHazard := false } := by
  have noConflict : s.bankConflict i = false := by
    unfold State.bankConflict
    rcases h with h | h <;> rw [h] <;> simp
  simp [execNext, noConflict]

/-- Settles O4: the step runs the head, and the head is the decoded instruction. -/
theorem stepRunsDecoded : Obligations.StepRunsDecoded := by
  unfold Obligations.StepRunsDecoded
  intro s w i h hw hi _ hbank
  obtain ⟨f, _, _, hf, hstep⟩ := step_of_headBits h hw
  have runs : executeHead f s.sample.fillQueue = execNext i s.sample.fillQueue := by
    simp [executeHead, hf, hi]
  rw [hstep, runs, execNext_of_noConflict (by simpa using hbank)]

/-! ### Bits of no row -/

theorem executeHead_of_error {f : Fetched} {s : State} {e : Reject} (hf : f.instr = .error e)
    (he : e ≠ .breakpointCondition) :
    executeHead f s = .next (if f.passes s.cpsr then { s with bankHazard := false }.undefinedInstr
      else { s with bankHazard := false }.advance) := by
  simp only [executeHead, hf, he, if_false]
  split <;> rfl

/-- A step at bits of no row: Undefined if their condition passes, passed over if it fails (R465, D20). -/
theorem step_of_noRow {s : State} {w : Word} {e : Reject} (h : Claims.undisturbed s) (hw : Claims.headBits s w)
    (hd : Claims.decoded s w = .error e) (he : e ≠ .breakpointCondition) :
    ∃ f : Fetched, f.bits = w ∧ f.thumb = s.thumb ∧ step s =
      .next (if f.passes s.cpsr then (boundaryState s).undefinedInstr else (boundaryState s).advance) := by
  obtain ⟨f, hbits, hthumb, hf, hstep⟩ := step_of_headBits h hw
  obtain ⟨_, hwin, _⟩ := h
  refine ⟨f, hbits, hthumb, ?_⟩
  have runs : executeHead f s.sample.fillQueue = .next (if f.passes s.sample.fillQueue.cpsr
      then (boundaryState s).undefinedInstr else (boundaryState s).advance) :=
    executeHead_of_error (hf.trans hd) he
  rw [hstep, runs, fillQueue_cpsr, sample_cpsr]
  refine guardCycles_of_noWindows ?_ _
  split <;> simpa using hwin

/-- Settles the first part of O47, by whether the condition of the bits passes. -/
theorem undefinedWord : Claims.undefinedWord := by
  intro s w e h hw hd he
  obtain ⟨f, hbits, hthumb, hstep⟩ := step_of_noRow h hw hd he
  constructor
  · intro hpass
    have passes : f.passes s.cpsr = true := by
      unfold Fetched.passes
      split
      next => rfl
      next ht =>
        have hcond := hpass.resolve_left (by simpa [← hthumb] using ht)
        split
        next c hc => exact hcond c (hbits ▸ hc)
        next => rfl
    obtain ⟨hregs, hspsr, hcpsr, hpc⟩ := undefinedInstr_entry (boundaryState s)
    rw [if_pos passes] at hstep
    exact ⟨_, hstep, by simpa using hregs, by simpa using hspsr, by simpa using hcpsr,
      hpc.trans (by rw [vectors_of_cfg (boundaryState_cfg s)]), by simp⟩
  · intro c ht hc hfail
    have size : s.instrSize = 4#32 := by simp [State.instrSize, ht]
    have passes : f.passes s.cpsr = false := by simp [Fetched.passes, hthumb, ht, hbits, hc, hfail]
    rw [if_neg (by simp [passes])] at hstep
    exact ⟨_, hstep, by simp, by simp, by simp [State.advance, State.nextPc, size], by simp⟩

/-! ### An aborted fetch -/

/-- The head of the queue is the aborted fetch: the oldest live entry, or the one the boundary makes. -/
theorem head_of_abortedFetch {s : State}
    (h : (∃ f rest, s.liveQueue = f :: rest ∧ f.aborted = true) ∨ (s.liveQueue = [] ∧
      s.cfg.abort .fetch s.fetchSize (s.fetchSize.align s.pc) s.privileged (~~~psrM s.cpsr) = true)) :
    ∃ f q, s.sample.fillQueue.fetchQ = f :: q ∧ f.aborted = true := by
  obtain ⟨f, rest, hlive, ha⟩ | ⟨hlive, ha⟩ := h
  · obtain ⟨q, hq⟩ := fillQueue_live (s := s.sample) hlive
    exact ⟨f, q, hq, ha⟩
  · obtain ⟨q, hq⟩ := fillQueue_fresh (s := s.sample) hlive
    exact ⟨_, q, hq, (fetched_aborted rfl _).trans ha⟩

/-- Settles the second part of O47: the head is the aborted fetch. -/
theorem prefetchAbortTaken : Claims.prefetchAbortTaken := by
  intro s h hf
  have fetch : (if s.thumb && !s.cfg.thumb32 then align2 s.pc else align4 s.pc) = s.fetchSize.align s.pc := by
    unfold State.fetchSize; split <;> rfl
  rw [fetch] at hf
  obtain ⟨f, q, hq, ha⟩ := head_of_abortedFetch hf
  have hstep := step_of_undisturbed h
  obtain ⟨_, hwin, _⟩ := h
  rw [runNext_of_aborted (by simpa using hwin) hq ha] at hstep
  obtain ⟨hregs, hspsr, hcpsr, hpc⟩ := prefetchAbort_entry s.sample.fillQueue
  exact ⟨_, hstep, by simpa using hregs, by simpa using hspsr, by simpa using hcpsr,
    hpc.trans (by rw [vectors_of_cfg (fillQueue_cfg s.sample)]; rfl), by simp⟩

/-- Settles O47: bits of no row by their condition, an aborted fetch by its entry. -/
theorem undefinedAndPrefetchAbort : Obligations.UndefinedAndPrefetchAbort := ⟨undefinedWord, prefetchAbortTaken⟩

end Sys2Proof.Proofs
end

section
/-! SUPPORT. Status words and sums as the spec writes them (R20, R165, R166): the flags bit by bit, the carry over the
naturals, the overflow by the rule of signs. -/

namespace Sys2Proof.Proofs

open Sys2Proof.Machine

/-! ### Bits of a word -/

theorem bitAt_top (x : Word) : bitAt x 31 = x.msb := (BitVec.msb_eq_getLsbD_last x).symm

theorem bitAt_above (x : Word) {i : Nat} (h : 32 ≤ i) : bitAt x i = false := BitVec.getLsbD_of_ge x i h

theorem eq_of_bitAt_eq {p q : Word} (h : ∀ j, bitAt p j = bitAt q j) : p = q :=
  BitVec.eq_of_getLsbD_eq fun j _ => h j

/-! ### The condition flags -/

theorem bitAt_flagWord (n z c v : Bool) (p : Word) (j : Nat) : bitAt (Claims.flagWord n z c v p) j =
    if j = 31 then n else if j = 30 then z else if j = 29 then c else if j = 28 then v else bitAt p j := by
  obtain h | rfl | rfl | rfl | rfl | h : j < 28 ∨ j = 28 ∨ j = 29 ∨ j = 30 ∨ j = 31 ∨ 32 ≤ j := by omega
  · simp [Claims.flagWord, bitAt_fld, h, show j ≠ 31 by omega, show j ≠ 30 by omega, show j ≠ 29 by omega,
      show j ≠ 28 by omega]
  · simp [Claims.flagWord]
  · simp [Claims.flagWord]
  · simp [Claims.flagWord]
  · simp [Claims.flagWord]
  · simp [bitAt_above _ h, show j ≠ 31 by omega, show j ≠ 30 by omega, show j ≠ 29 by omega, show j ≠ 28 by omega]

theorem setPsrNZCV_eq (p : Word) (n z c v : Bool) : setPsrNZCV p n z c v = Claims.flagWord n z c v p := by
  apply eq_of_bitAt_eq
  intro j
  simp only [setPsrNZCV, bitAt_flagWord, bitAt_setBit, Nat.reduceLT]
  grind

/-- A flag that is kept is written with its old value. -/
theorem setPsrNZ_eq (p r : Word) :
    setPsrNZ p r = Claims.flagWord r.msb (decide (r = 0)) (psrC p) (psrV p) p := by
  apply eq_of_bitAt_eq
  intro j
  simp only [setPsrNZ, bitAt_flagWord, bitAt_setBit, Nat.reduceLT, bitAt_top, psrC, psrV, beq_eq_decide]
  grind

/-- The flags of the logical class (R166). -/
theorem logicFlags_eq (p r : Word) (c : Bool) :
    logicFlags p r c = Claims.flagWord r.msb (decide (r = 0)) c (psrV p) p := by
  apply eq_of_bitAt_eq
  intro j
  simp only [logicFlags, setPsrNZ_eq, bitAt_flagWord, bitAt_setBit, Nat.reduceLT]
  grind

/-- The flags of the arithmetic class (R166). -/
theorem arithFlags_eq (p : Word) (r : AddResult) :
    arithFlags p r = Claims.flagWord r.value.msb (decide (r.value = 0)) r.carry r.overflow p := by
  rw [arithFlags, setPsrNZCV_eq, bitAt_top, beq_eq_decide]

/-! ### AddWithCarry -/

theorem addWithCarry_value (x y : Word) (c : Bool) :
    (addWithCarry x y c).value = x + y + (if c then 1#32 else 0#32) := by
  apply BitVec.eq_of_toNat_eq
  cases c <;> simp [addWithCarry, BitVec.toNat_add]

/-- The sum leaves the signed range when both operands have one sign and the result has the other. -/
theorem addWithCarry_overflow (x y : Word) (c : Bool) : (addWithCarry x y c).overflow =
    (decide (x.msb = y.msb) && decide ((addWithCarry x y c).value.msb ≠ x.msb)) := by
  have hv : (addWithCarry x y c).value.toNat = (x.toNat + y.toNat + c.toNat) % 2 ^ 32 := BitVec.toNat_ofNat _ _
  have hx := x.isLt
  have hy := y.isLt
  have hc : c.toNat ≤ 1 := Bool.toNat_le c
  rw [Bool.eq_iff_iff]
  simp only [Bool.and_eq_true, decide_eq_true_eq, ne_eq, BitVec.msb_eq_decide, decide_eq_decide, hv]
  simp only [addWithCarry, BitVec.toInt_eq_toNat_cond, decide_eq_true_eq]
  omega

end Sys2Proof.Proofs
end

section
/-! SUPPORT. ARM data processing (R160 to R187): a passed condition runs the meaning, an operation of the model is an
operation of the spec, and each row of the spec is one operation in its three frames. -/

namespace Sys2Proof.Proofs

open Sys2Proof.Machine

/-! ### The frames with the condition passed -/

section
variable {c : Cond} {s : State} (h : condPassed c s.cpsr = true)
include h

theorem ifPassed_of_passed (k : State → Out) : s.ifPassed c k = k s := by simp [State.ifPassed, h]

theorem registerShift_of_noPc {regs : List Reg} (hr : 15#4 ∉ regs) (k : State → Out) :
    registerShift c regs k s = k s := by
  simp [registerShift, ifPassed_of_passed h, hr]

theorem registerShift_of_pc {regs : List Reg} (hr : 15#4 ∈ regs) (k : State → Out) :
    registerShift c regs k s = .refused .pcRegisterShift := by
  simp [registerShift, ifPassed_of_passed h, hr]

theorem dataProcessing_of_passed (op : AluOp) (f : Bool) (rn rd : Reg) (b : State → Shifted) :
    dataProcessing op c f rn rd b s = .next (s.writeResult f rd (op (s.reg rn) (b s) s.cpsr)) :=
  ifPassed_of_passed h _

theorem dataMove_of_passed (op : AluOp) (f : Bool) (rd : Reg) (b : State → Shifted) :
    dataMove op c f rd b s = .next (s.writeResult f rd (op 0 (b s) s.cpsr)) :=
  ifPassed_of_passed h _

theorem dataCompare_of_passed (op : AluOp) (rn : Reg) (b : State → Shifted) :
    dataCompare op c rn b s = .next (s.setCpsr (op (s.reg rn) (b s) s.cpsr).2).advance :=
  ifPassed_of_passed h _

end

/-! ### Operations -/

/-- An operation of the model computes the result and the flags of an operation of the spec (R166, R170 to R185). -/
def Implements (op : AluOp) (a : Claims.AluSpec) : Prop :=
  ∀ rn b p, op rn b p = (a.value rn b.value (psrC p), a.flags rn b p)

theorem logicalOp_implements (f : Word → Word → Word) : Implements (logicalOp f) (.logical f) :=
  fun _ _ _ => Prod.ext rfl (logicFlags_eq ..)

theorem arithmeticOp_implements (x y : Word → Word → Word) (k : Bool → Bool) :
    Implements (arithmeticOp fun a b c => addWithCarry (x a b) (y a b) (k c)) (.sum x y k) := by
  intro rn b p
  refine Prod.ext (addWithCarry_value ..) ((arithFlags_eq ..).trans ?_)
  rw [addWithCarry_overflow, addWithCarry_value]
  rfl

/-! ### Rows -/

/-- The three forms of a row that writes Rd run one operation, which the spec's row describes. -/
structure AluMeaning (r : Claims.AluRow) (op : AluOp) : Prop where
  spec : Implements op r.op
  imm : ∀ o s, exec (r.imm o) s =
    dataProcessing op o.cond o.s o.rn o.rd (fun s => immOperand o.rot o.imm8 (psrC s.cpsr)) s
  shift : ∀ o s, exec (r.shift o) s =
    dataProcessing op o.cond o.s o.rn o.rd (fun s => s.shiftImmOperand o.ty o.amount o.rm) s
  reg : ∀ o s, exec (r.reg o) s = registerShift o.cond [o.rd, o.rn, o.rm, o.rs]
    (dataProcessing op o.cond o.s o.rn o.rd (fun s => s.shiftRegOperand o.ty o.rm o.rs)) s

/-- The three forms of a move run one operation. -/
structure MovMeaning (r : Claims.MovRow) (op : AluOp) : Prop where
  spec : Implements op r.op
  imm : ∀ o s, exec (r.imm o) s =
    dataMove op o.cond o.s o.rd (fun s => immOperand o.rot o.imm8 (psrC s.cpsr)) s
  shift : ∀ o s, exec (r.shift o) s =
    dataMove op o.cond o.s o.rd (fun s => s.shiftImmOperand o.ty o.amount o.rm) s
  reg : ∀ o s, exec (r.reg o) s = registerShift o.cond [o.rd, o.rm, o.rs]
    (dataMove op o.cond o.s o.rd (fun s => s.shiftRegOperand o.ty o.rm o.rs)) s

/-- The three forms of a comparison run one operation. -/
structure CmpMeaning (r : Claims.CmpRow) (op : AluOp) : Prop where
  spec : Implements op r.op
  imm : ∀ o s, exec (r.imm o) s =
    dataCompare op o.cond o.rn (fun s => immOperand o.rot o.imm8 (psrC s.cpsr)) s
  shift : ∀ o s, exec (r.shift o) s =
    dataCompare op o.cond o.rn (fun s => s.shiftImmOperand o.ty o.amount o.rm) s
  reg : ∀ o s, exec (r.reg o) s = registerShift o.cond [o.rn, o.rm, o.rs]
    (dataCompare op o.cond o.rn (fun s => s.shiftRegOperand o.ty o.rm o.rs)) s

theorem logicalRows_meaning : ∀ r ∈ Claims.logicalRows, ∃ op, AluMeaning r op := by
  simp only [Claims.logicalRows, List.forall_mem_cons]
  exact ⟨⟨aluAnd, logicalOp_implements _, exec_andImm, exec_andShift, exec_andReg⟩,
    ⟨aluEor, logicalOp_implements _, exec_eorImm, exec_eorShift, exec_eorReg⟩,
    ⟨aluOrr, logicalOp_implements _, exec_orrImm, exec_orrShift, exec_orrReg⟩,
    ⟨aluBic, logicalOp_implements _, exec_bicImm, exec_bicShift, exec_bicReg⟩, List.forall_mem_nil _⟩

theorem arithmeticRows_meaning : ∀ r ∈ Claims.arithmeticRows, ∃ op, AluMeaning r op := by
  simp only [Claims.arithmeticRows, List.forall_mem_cons]
  exact ⟨⟨aluSub, arithmeticOp_implements _ _ _, exec_subImm, exec_subShift, exec_subReg⟩,
    ⟨aluRsb, arithmeticOp_implements _ _ _, exec_rsbImm, exec_rsbShift, exec_rsbReg⟩,
    ⟨aluAdd, arithmeticOp_implements _ _ _, exec_addImm, exec_addShift, exec_addReg⟩,
    ⟨aluAdc, arithmeticOp_implements _ _ _, exec_adcImm, exec_adcShift, exec_adcReg⟩,
    ⟨aluSbc, arithmeticOp_implements _ _ _, exec_sbcImm, exec_sbcShift, exec_sbcReg⟩,
    ⟨aluRsc, arithmeticOp_implements _ _ _, exec_rscImm, exec_rscShift, exec_rscReg⟩, List.forall_mem_nil _⟩

theorem aluRows_meaning : ∀ r ∈ Claims.aluRows, ∃ op, AluMeaning r op := fun r hr =>
  (List.mem_append.mp hr).elim (logicalRows_meaning r) (arithmeticRows_meaning r)

theorem movRows_meaning : ∀ r ∈ Claims.movRows, ∃ op, MovMeaning r op := by
  simp only [Claims.movRows, List.forall_mem_cons]
  exact ⟨⟨aluMov, logicalOp_implements _, exec_movImm, exec_movShift, exec_movReg⟩,
    ⟨aluMvn, logicalOp_implements _, exec_mvnImm, exec_mvnShift, exec_mvnReg⟩, List.forall_mem_nil _⟩

theorem cmpRows_meaning : ∀ r ∈ Claims.cmpRows, ∃ op, CmpMeaning r op := by
  simp only [Claims.cmpRows, List.forall_mem_cons]
  exact ⟨⟨aluTst, logicalOp_implements _, exec_tstImm, exec_tstShift, exec_tstReg⟩,
    ⟨aluTeq, logicalOp_implements _, exec_teqImm, exec_teqShift, exec_teqReg⟩,
    ⟨aluCmp, arithmeticOp_implements _ _ _, exec_cmpImm, exec_cmpShift, exec_cmpReg⟩,
    ⟨aluCmn, arithmeticOp_implements _ _ _, exec_cmnImm, exec_cmnShift, exec_cmnReg⟩, List.forall_mem_nil _⟩

end Sys2Proof.Proofs
end

section
/-! PROOF. What data processing leaves (R167, R169, R170 to R187): the result in Rd with the flags if S, the flags of a
comparison, and a result for r15. One lemma per destination, then the rows by their meanings. -/

namespace Sys2Proof.Proofs

open Sys2Proof.Machine

/-! ### The next instruction -/

theorem advance_of_arm {s : State} (ht : s.thumb = false) : s.advance = { s with pc := s.pc + 4#32 } := by
  simp [State.advance, State.nextPc, State.instrSize, ht]

theorem setReg_of_ne_pc (s : State) {rd : Reg} (hd : rd ≠ 15#4) (v : Word) :
    s.setReg rd v = { s with regs := s.regs.set (physIx s.mode rd) v } := by
  simp [State.setReg, State.setBankReg, hd]

/-! ### Results -/

theorem psrT_flags (a : Claims.AluSpec) (rn : Word) (b : Shifted) (p : Word) : psrT (a.flags rn b p) = psrT p := by
  cases a <;> simp [psrT, Claims.AluSpec.flags, bitAt_flagWord]

/-- Rd, the flags if S and the pc change (R187). -/
theorem writeResult_eq_aluNext {op : AluOp} {a : Claims.AluSpec} (hop : Implements op a) {s : State}
    (ht : s.thumb = false) (f : Bool) {rd : Reg} (hd : rd ≠ 15#4) (rn : Word) (b : Shifted) :
    s.writeResult f rd (op rn b s.cpsr) = Claims.aluNext a s f rd rn b := by
  rw [hop]
  cases f with
  | false =>
    have written : s.writeResult false rd (a.value rn b.value (psrC s.cpsr), a.flags rn b s.cpsr) =
        (s.setReg rd (a.value rn b.value (psrC s.cpsr))).advance := by simp [State.writeResult, hd]
    rw [written, advance_of_arm (by simpa using ht), setReg_of_ne_pc s hd]
    rfl
  | true =>
    have written : s.writeResult true rd (a.value rn b.value (psrC s.cpsr), a.flags rn b s.cpsr) =
        ((s.setReg rd (a.value rn b.value (psrC s.cpsr))).setCpsr (a.flags rn b s.cpsr)).advance := by
      simp [State.writeResult, hd]
    rw [written, advance_of_arm (by rw [setCpsr_thumb, psrT_flags]; exact ht), setReg_of_ne_pc s hd]
    rfl

/-- A comparison changes the flags and the pc (R178 to R181). -/
theorem setCpsr_eq_cmpNext {op : AluOp} {a : Claims.AluSpec} (hop : Implements op a) {s : State} (ht : s.thumb = false)
    (rn : Word) (b : Shifted) : (s.setCpsr (op rn b s.cpsr).2).advance = Claims.cmpNext a s rn b := by
  have arm : (s.setCpsr (a.flags rn b s.cpsr)).thumb = false := (psrT_flags a rn b s.cpsr).trans ht
  rw [hop, advance_of_arm arm]
  rfl

/-- The amount of a register shift is the bottom byte of Rs (R163). -/
theorem shiftRegOperand_eq (s : State) (ty : ShiftTy) (rm rs : Reg) :
    s.shiftRegOperand ty rm rs = Claims.regOperand s ty rs rm := by
  simp [State.shiftRegOperand, Claims.regOperand, State.shiftCount, fld]

theorem aluRow_completes {r : Claims.AluRow} (h : ∃ op, AluMeaning r op) : r.completes := by
  obtain ⟨op, hop, himm, hshift, hreg⟩ := h
  refine ⟨fun o s hc ht hd => ?_, fun o s hc ht hd => ?_, fun o s hc ht hd hn hm hs => ?_⟩
  · rw [himm, dataProcessing_of_passed hc, writeResult_eq_aluNext hop ht _ hd]
  · rw [hshift, dataProcessing_of_passed hc, writeResult_eq_aluNext hop ht _ hd, State.shiftImmOperand]
  · rw [hreg, registerShift_of_noPc hc (by simp [hd.symm, hn.symm, hm.symm, hs.symm]), dataProcessing_of_passed hc,
      writeResult_eq_aluNext hop ht _ hd, shiftRegOperand_eq]

theorem movRow_completes {r : Claims.MovRow} (h : ∃ op, MovMeaning r op) : r.completes := by
  obtain ⟨op, hop, himm, hshift, hreg⟩ := h
  refine ⟨fun o s hc ht hd => ?_, fun o s hc ht hd => ?_, fun o s hc ht hd hm hs => ?_⟩
  · rw [himm, dataMove_of_passed hc, writeResult_eq_aluNext hop ht _ hd]
  · rw [hshift, dataMove_of_passed hc, writeResult_eq_aluNext hop ht _ hd, State.shiftImmOperand]
  · rw [hreg, registerShift_of_noPc hc (by simp [hd.symm, hm.symm, hs.symm]), dataMove_of_passed hc,
      writeResult_eq_aluNext hop ht _ hd, shiftRegOperand_eq]

theorem cmpRow_completes {r : Claims.CmpRow} (h : ∃ op, CmpMeaning r op) : r.completes := by
  obtain ⟨op, hop, himm, hshift, hreg⟩ := h
  refine ⟨fun o s hc ht => ?_, fun o s hc ht => ?_, fun o s hc ht hn hm hs => ?_⟩
  · rw [himm, dataCompare_of_passed hc, setCpsr_eq_cmpNext hop ht]
  · rw [hshift, dataCompare_of_passed hc, setCpsr_eq_cmpNext hop ht, State.shiftImmOperand]
  · rw [hreg, registerShift_of_noPc hc (by simp [hn.symm, hm.symm, hs.symm]), dataCompare_of_passed hc,
      setCpsr_eq_cmpNext hop ht, shiftRegOperand_eq]

/-- Settles O20: the rows by their operations. -/
theorem logicalResults : Obligations.LogicalResults := by
  unfold Obligations.LogicalResults
  exact ⟨fun r hr => aluRow_completes (logicalRows_meaning r hr), fun r hr => movRow_completes (movRows_meaning r hr)⟩

/-- Settles O21: the rows by their operations. -/
theorem arithmeticResults : Obligations.ArithmeticResults := by
  unfold Obligations.ArithmeticResults
  exact fun r hr => aluRow_completes (arithmeticRows_meaning r hr)

/-- Settles O22: the rows by their operations. -/
theorem comparisonResults : Obligations.ComparisonResults := by
  unfold Obligations.ComparisonResults
  exact fun r hr => cmpRow_completes (cmpRows_meaning r hr)

/-! ### A result for r15 -/

/-- Without S the result is a branch that keeps the state (R167, R237). -/
theorem writeResult_pc (s : State) (r : Word × Word) :
    s.writeResult false 15#4 r = { s with pc := alignPc s.thumb r.1, fetchQ := [] } := by
  simp [State.writeResult, State.writePc, State.branchTo]

/-- With S, in a mode with an SPSR, it is an exception return (R169). -/
theorem writeResult_return {s : State} {p : Word} (h : s.spsrOf s.mode = some p) (r : Word × Word) :
    s.writeResult true 15#4 r = { s with cpsr := p, pc := alignPc (psrT p) r.1, fetchQ := [] } := by
  have spsr : s.spsr = some p := h
  simp [State.writeResult, State.exceptionReturn, spsr, State.writePc, State.branchTo, State.setCpsr, State.thumb]

/-- A word-aligned address is its own alignment (R237). -/
theorem align4_of_low {v : Word} (h : fld v 0 2 = 0b00#2) : align4 v = v := by
  rw [Laws.align4_eq_iff]
  simpa [fld] using congrArg BitVec.toNat h

theorem toPc_of_writeResult {i : Instr} {f : Bool} {s : State} {r : Word × Word}
    (h : exec i s = .next (s.writeResult f 15#4 r)) (ht : s.thumb = false) : Claims.toPc i f s r.1 := by
  constructor
  · rintro rfl hv
    rw [h, writeResult_pc]
    simp [alignPc, ht, align4_of_low hv]
  · rintro p rfl hp
    rw [h, writeResult_return hp, alignPc]
    split <;> rfl

section
variable {op : AluOp} {a : Claims.AluSpec} (hop : Implements op a) {i : Instr} {c : Cond} {f : Bool} {rn rd : Reg}
  {b : State → Shifted} {s : State} (hc : condPassed c s.cpsr = true) (ht : s.thumb = false) (hd : rd = 15#4)
include hop hc ht hd

theorem toPc_of_dataProcessing (h : exec i s = dataProcessing op c f rn rd b s) :
    Claims.toPc i f s (a.value (s.reg rn) (b s).value (psrC s.cpsr)) := by
  rw [dataProcessing_of_passed hc, hd, hop] at h
  exact toPc_of_writeResult h ht

theorem toPc_of_dataMove (h : exec i s = dataMove op c f rd b s) :
    Claims.toPc i f s (a.value 0 (b s).value (psrC s.cpsr)) := by
  rw [dataMove_of_passed hc, hd, hop] at h
  exact toPc_of_writeResult h ht

end

/-- Settles O23: the rows by their operations, the result written to r15. -/
theorem aluToPc : Obligations.AluToPc := by
  unfold Obligations.AluToPc
  refine ⟨fun r hr o s hc ht hd => ?_, fun r hr o s hc ht hd => ?_, fun r hr o s hc ht hd => ?_,
    fun r hr o s hc ht hd => ?_⟩
  · obtain ⟨op, hop, himm, -, -⟩ := aluRows_meaning r hr
    exact toPc_of_dataProcessing hop hc ht hd (himm o s)
  · obtain ⟨op, hop, -, hshift, -⟩ := aluRows_meaning r hr
    exact toPc_of_dataProcessing hop hc ht hd (hshift o s)
  · obtain ⟨op, hop, himm, -, -⟩ := movRows_meaning r hr
    exact toPc_of_dataMove hop hc ht hd (himm o s)
  · obtain ⟨op, hop, -, hshift, -⟩ := movRows_meaning r hr
    exact toPc_of_dataMove hop hc ht hd (hshift o s)

/-! ### CLZ -/

/-- The index of the highest 1 bit, from the top, is the number of zeros above it (R186). -/
theorem countLeadingZeros_spec (x : Word) : ∃ n : Nat, countLeadingZeros x = BitVec.ofNat 32 n ∧ n ≤ 32 ∧
    (∀ i, 32 - n ≤ i → i < 32 → bitAt x i = false) ∧ (n < 32 → bitAt x (31 - n) = true) := by
  by_cases hx : x = 0
  · exact ⟨32, if_pos hx, le_rfl, by simp [hx, bitAt], by simp⟩
  · have nonzero : x.toNat ≠ 0 := by simpa [← BitVec.toNat_inj] using hx
    have top : x.toNat.log2 < 32 := (Nat.log2_lt nonzero).mpr x.isLt
    refine ⟨31 - x.toNat.log2, if_neg hx, by omega, fun i hi _ => ?_, fun _ => ?_⟩
    · refine Nat.testBit_lt_two_pow (Nat.lt_log2_self.trans_le ?_)
      exact Nat.pow_le_pow_right (by decide) (by omega)
    · rw [show 31 - (31 - x.toNat.log2) = x.toNat.log2 by omega]
      exact Nat.testBit_log2 nonzero

theorem execClz_of_noPc {o : ClzOps} {s : State} (hc : condPassed o.cond s.cpsr = true) (hd : o.rd ≠ 15#4)
    (hm : o.rm ≠ 15#4) : execClz o s = .next (s.setReg o.rd (countLeadingZeros (s.reg o.rm))).advance := by
  simp [execClz, ifPassed_of_passed hc, hd, hm]

/-- Settles O24: the number is `countLeadingZeros`'s. -/
theorem countLeadingZeros : Obligations.CountLeadingZeros := by
  unfold Obligations.CountLeadingZeros
  intro o s hc ht hd hm
  obtain ⟨n, hn, bound⟩ := countLeadingZeros_spec (s.reg o.rm)
  refine ⟨n, ?_, bound⟩
  rw [exec_clz, execClz_of_noPc hc hd hm, hn, advance_of_arm (by simpa using ht), setReg_of_ne_pc s hd]

end Sys2Proof.Proofs
end

section
/-! PROOF. Operand forms (R162, R163, R246, R248, R337, R411 to R427): the shifter operand at every amount, the rotated
immediate, and the addresses of the ARM and Thumb transfers. -/

namespace Sys2Proof.Proofs

open Sys2Proof.Machine

/-! ### Shifts -/

theorem rotateRight_zero (x : Word) : x.rotateRight 0 = x := by
  apply BitVec.eq_of_getLsbD_eq
  intro i hi
  simp [hi]

/-- Past 31 places only copies of the sign are left (R163). -/
theorem sshiftRight_of_ge (x : Word) {n : Nat} (h : 31 ≤ n) : x.sshiftRight n = x.sshiftRight 31 := by
  apply BitVec.eq_of_getLsbD_eq
  intro i hi
  have past : n + i < 32 → n + i = 31 ∧ i = 0 := by omega
  grind [bitAt_top]

/-- The rotation through the carry is a shift with C put in at the top (R162). -/
theorem rrx_eq (x : Word) (c : Bool) : rrx x c = (x >>> 1) ||| (if c then 0x80000000#32 else 0#32) := by
  have top : (if c then 0x80000000#32 else 0#32) = BitVec.ofBool c ++ 0#31 := by cases c <;> decide
  have rest : x >>> 1 = 0#1 ++ fld x 1 31 := by
    apply BitVec.eq_of_getLsbD_eq
    intro i hi
    have outside := bitAt_above x (i := 1 + i)
    simp only [BitVec.getLsbD_ushiftRight, BitVec.getLsbD_append, fld, BitVec.getLsbD_extractLsb', BitVec.getLsbD_zero]
    grind [bitAt]
  rw [top, rest, BitVec.or_append]
  simp [rrx]

/-- The operand of a shift by an immediate amount (R163). -/
theorem shiftImm_spec (ty : ShiftTy) (n : BitVec 5) (x : Word) (c : Bool) :
    ((shiftImm ty n x c).value, (shiftImm ty n x c).carry) = Claims.shiftImmSpec ty n.toNat x c := by
  have hn : n.toNat < 32 := n.isLt
  by_cases h0 : n.toNat = 0
  · cases ty <;> simp [shiftImm, Claims.shiftImmSpec, h0, bitAt_top, sshiftRight_of_ge, rrx_eq]
  · cases ty <;> simp [shiftImm, Claims.shiftImmSpec, h0, rotR, Nat.mod_eq_of_lt hn]

/-- The operand of a shift by a register amount (R163). -/
theorem shiftReg_spec (ty : ShiftTy) (n : Nat) (x : Word) (c : Bool) :
    ((shiftReg ty n x c).value, (shiftReg ty n x c).carry) = Claims.shiftRegSpec ty n x c := by
  by_cases h0 : n = 0
  · cases ty <;> simp [shiftReg, Claims.shiftRegSpec, h0]
  cases ty with
  | lsl | lsr =>
    obtain hlt | rfl | hgt : n < 32 ∨ n = 32 ∨ 32 < n := by omega
    · simp [shiftReg, Claims.shiftRegSpec, h0, hlt, hlt.le]
    · simp [shiftReg, Claims.shiftRegSpec, BitVec.ushiftRight_eq_zero]
    · simp [shiftReg, Claims.shiftRegSpec, h0, hgt.not_gt, hgt.ne', hgt.not_ge, BitVec.ushiftRight_eq_zero hgt.le,
        bitAt_above x (show 32 ≤ n - 1 by omega), BitVec.shiftLeft_eq_zero hgt.le]
  | asr =>
    by_cases hlt : n < 32
    · simp [shiftReg, Claims.shiftRegSpec, h0, hlt]
    · simp [shiftReg, Claims.shiftRegSpec, h0, hlt, bitAt_top, sshiftRight_of_ge x (show 31 ≤ n by omega)]
  | ror =>
    by_cases hm : n % 32 = 0
    · simp [shiftReg, Claims.shiftRegSpec, h0, hm, rotateRight_zero, show (n - 1) % 32 = 31 by omega]
    · simp [shiftReg, Claims.shiftRegSpec, h0, hm, rotR, show (n - 1) % 32 = n % 32 - 1 by omega]

/-- The immediate operand: a byte rotated by an even amount (R117, R163). -/
theorem rotImm_eq (rot : BitVec 4) (imm8 : BitVec 8) :
    rotImm rot imm8 = (imm8.setWidth 32).rotateRight (2 * rot.toNat) := by
  have hrot : 2 * rot.toNat < 32 := by have := rot.isLt; omega
  rw [rotImm, rotR, Nat.mod_eq_of_lt hrot, zext]

theorem immOperand_spec (rot : BitVec 4) (imm8 : BitVec 8) (c : Bool) :
    (immOperand rot imm8 c).value = (imm8.setWidth 32).rotateRight (2 * rot.toNat) ∧
    (immOperand rot imm8 c).carry =
      if rot = 0#4 then c else ((imm8.setWidth 32).rotateRight (2 * rot.toNat)).msb := by
  rw [immOperand, ← rotImm_eq, ← bitAt_top]
  exact ⟨rfl, rfl⟩

/-! ### Addresses -/

theorem preIndexed_eq (u w : Bool) (base off : Word) : preIndexed u w base off = Claims.indexed u w base off := rfl

theorem postIndexed_eq (u : Bool) (base off : Word) : postIndexed u base off = Claims.after u base off := rfl

theorem scaledOffset_eq (s : State) (ty : ShiftTy) (amount : BitVec 5) (rm : Reg) :
    s.scaledOffset ty amount rm = (Claims.shiftImmSpec ty amount.toNat (s.reg rm) (psrC s.cpsr)).1 :=
  congrArg Prod.fst (shiftImm_spec ty amount (s.reg rm) (psrC s.cpsr))

theorem addressForms : Claims.addressForms := by
  refine ⟨fun o s => preIndexed_eq .., fun o s => postIndexed_eq .., fun o s => ?_, fun o s => ?_, fun o s => rfl,
    fun o s => rfl, fun p u w imm8 base => rfl⟩
  · rw [addressMemRegPre, scaledOffset_eq, preIndexed_eq]
  · rw [addressMemRegPost, scaledOffset_eq, postIndexed_eq]

/-- A field scaled by a power of 2 (R137). -/
theorem zext_shiftLeft {n : Nat} (x : BitVec n) (hn : n ≤ 32) (k : Nat) :
    zext x <<< k = BitVec.ofNat 32 (2 ^ k * x.toNat) := by
  apply BitVec.eq_of_toNat_eq
  have hx : x.toNat < 2 ^ 32 := x.isLt.trans_le (Nat.pow_le_pow_right (by decide) hn)
  simp [zext, Nat.shiftLeft_eq, Nat.mul_comm]

theorem thumbAddresses : Claims.thumbAddresses := by
  refine ⟨fun o k s => ?_, fun o s => rfl, fun o s ht => ?_, fun o s => ?_⟩
  · rw [addressTImm, zext_shiftLeft _ (by decide)]
  · rw [addressTPc, zext_shiftLeft _ (by decide), State.pcOperand, ht]
    rfl
  · rw [addressTSp, zext_shiftLeft _ (by decide)]
    rfl

/-- Settles O19: the shifts by amount, the addresses by their modes. -/
theorem operandForms : Obligations.OperandForms := by
  unfold Obligations.OperandForms
  exact ⟨⟨shiftImm_spec, fun ty n => shiftReg_spec ty n.toNat⟩, immOperand_spec, addressForms, thumbAddresses⟩

end Sys2Proof.Proofs
end

section
/-! SUPPORT. When a form is refused (R164, R217, R246, R248, R272, R281, R292, R335): for each check of the model what
it answers, and for each frame that it hands the refusal on. -/

namespace Sys2Proof.Proofs

open Sys2Proof.Machine

/-! ### r15 in a register field -/

theorem mem_three {α : Type} {x a b c : α} (h : a = x ∨ b = x ∨ c = x) : x ∈ [a, b, c] := by
  simpa [eq_comm] using h

theorem mem_four {α : Type} {x a b c d : α} (h : a = x ∨ b = x ∨ c = x ∨ d = x) : x ∈ [a, b, c, d] := by
  simpa [eq_comm] using h

theorem multiplyFrame_of_pc {c : Cond} {s : State} (hc : condPassed c s.cpsr = true) {regs : List Reg}
    (hr : 15#4 ∈ regs) (k : State → State) : multiplyFrame c regs k s = .refused .pcOperand := by
  simp [multiplyFrame, ifPassed_of_passed hc, hr]

/-! ### The base and the offset register of a single transfer -/

theorem addressRefusal_of_pcOffset (wb : Bool) (rn rd : Reg) :
    addressRefusal wb rn rd (some 15#4) = some .pcOperand := by
  simp [addressRefusal]

theorem writebackConflict_iff (wb : Bool) (rn rd : Reg) (rm : Option Reg) :
    writebackConflict wb rn rd rm = true ↔ wb = true ∧ (rn = 15#4 ∨ rn = rd ∨ rm = some rn) := by
  simp [writebackConflict, or_assoc]

theorem addressRefusal_of_conflict {wb : Bool} {rn rd : Reg} {rm : Option Reg} (hm : rm ≠ some 15#4)
    (hw : writebackConflict wb rn rd rm = true) : addressRefusal wb rn rd rm = some .writebackConflict := by
  simp [addressRefusal, hm, hw]

theorem addressRefusal_of_baseFree {a : Addressed} {rn rd : Reg} {rm : Option Reg} (h : Claims.baseFree a rn rd rm) :
    addressRefusal a.writeback.isSome rn rd rm = none := by
  obtain ⟨hm, hbase⟩ := h
  have noConflict : writebackConflict a.writeback.isSome rn rd rm = false := by
    rw [Bool.eq_false_iff, ne_eq, writebackConflict_iff]
    grind
  simp [addressRefusal, hm, noConflict]

section
variable {rn rd : Reg} {rm : Option Reg} {a : Addressed}

theorem loadSingle_of_refused {r : Refusal} (h : addressRefusal a.writeback.isSome rn rd rm = some r) (k : LoadKind)
    (pcOk user : Bool) (s : State) : loadSingle k pcOk user rn rd rm a s = .refused r := by
  simp [loadSingle, h]

theorem storeSingle_of_refused {r : Refusal} (h : addressRefusal a.writeback.isSome rn rd rm = some r) (z : Size)
    (pcOk user : Bool) (s : State) : storeSingle z pcOk user rn rd rm a s = .refused r := by
  simp [storeSingle, h]

theorem loadSingle_of_pc (h : addressRefusal a.writeback.isSome rn rd rm = none) (hd : rd = 15#4) (k : LoadKind)
    (user : Bool) (s : State) : loadSingle k false user rn rd rm a s = .refused .pcOperand := by
  subst hd
  simp [loadSingle, h]

theorem storeSingle_of_pc (h : addressRefusal a.writeback.isSome rn rd rm = none) (hd : rd = 15#4) (z : Size)
    (user : Bool) (s : State) : storeSingle z false user rn rd rm a s = .refused .pcOperand := by
  subst hd
  simp [storeSingle, h]

theorem loadSingle_of_unaligned (h : addressRefusal a.writeback.isSome rn rd rm = none) (hd : rd = 15#4)
    (ha : fld a.addr 0 2 ≠ 0b00#2) (k : LoadKind) (user : Bool) (s : State) :
    loadSingle k true user rn rd rm a s = .refused .unalignedPcLoad := by
  subst hd
  simp [loadSingle, h, ha]

end

/-! ### Doublewords -/

theorem doubleRefusal_of_r14 (load wb : Bool) (rn : Reg) (rm : Option Reg) :
    doubleRefusal load wb rn 14#4 rm = some .doublewordRegister := by
  simp [doubleRefusal]

theorem doubleRefusal_of_pcOffset (load wb : Bool) (rn : Reg) {rd : Reg} (hd : rd ≠ 14#4) :
    doubleRefusal load wb rn rd (some 15#4) = some .pcOperand := by
  simp [doubleRefusal, hd]

/-- Is the base written back one of the registers transferred, the offset register or r15? -/
theorem doubleConflict_iff (wb : Bool) (rn rd : Reg) (rm : Option Reg) :
    (writebackConflict wb rn rd rm || (wb && decide (rn = rd + 1))) = true ↔
      wb = true ∧ (rn = 15#4 ∨ rn = rd ∨ rn = rd + 1#4 ∨ rm = some rn) := by
  simp only [Bool.or_eq_true, writebackConflict_iff, Bool.and_eq_true, decide_eq_true_eq]
  grind

theorem doubleRefusal_of_conflict {load wb : Bool} {rn rd : Reg} {rm : Option Reg} (hd : rd ≠ 14#4)
    (hm : rm ≠ some 15#4) (hw : (writebackConflict wb rn rd rm || (wb && decide (rn = rd + 1))) = true) :
    doubleRefusal load wb rn rd rm = some .writebackConflict := by
  unfold doubleRefusal
  rw [if_neg hd, if_neg (by simpa using hm), if_pos hw]

theorem doubleRefusal_of_loadedOffset {wb : Bool} {rn rd : Reg} {rm : Option Reg} (hd : rd ≠ 14#4)
    (heven : bitAt rd 0 = false) (hm : rm = some rd ∨ rm = some (rd + 1#4))
    (hw : ¬(writebackConflict wb rn rd rm || (wb && decide (rn = rd + 1))) = true) :
    doubleRefusal true wb rn rd rm = some .doublewordRegister := by
  have notPc : ∀ d : Reg, d ≠ 14#4 → bitAt d 0 = false → d ≠ 15#4 ∧ d + 1#4 ≠ 15#4 := by decide
  obtain ⟨h0, h1⟩ := notPc rd hd heven
  have offset : rm ≠ some 15#4 := by grind
  unfold doubleRefusal
  rw [if_neg hd, if_neg (by simpa using offset), if_neg hw, if_pos (by simpa using hm)]

section
variable {rn rd : Reg} {rm : Option Reg} {a : Addressed} (heven : bitAt rd 0 = false) {r : Refusal}
include heven

theorem loadDoubleword_of_refused (h : doubleRefusal true a.writeback.isSome rn rd rm = some r) (s : State) :
    loadDoubleword rn rd rm a s = .refused r := by
  simp [loadDoubleword, heven, h]

theorem storeDoubleword_of_refused (h : doubleRefusal false a.writeback.isSome rn rd rm = some r) (s : State) :
    storeDoubleword rn rd rm a s = .refused r := by
  simp [storeDoubleword, heven, h]

end

/-! ### Block transfers and swaps -/

theorem listRegs_isEmpty_iff (list : BitVec 16) : (listRegs list).isEmpty = true ↔ list = 0#16 := by
  have none : (listRegs list).isEmpty = true ↔ ∀ i < 16, list.getLsbD i = false := by
    simp [listRegs, List.filter_eq_nil_iff]
  rw [none]
  constructor
  · intro h
    exact BitVec.eq_of_getLsbD_eq fun i hi => by simpa using h i hi
  · rintro rfl
    simp

theorem multipleRefused_iff (rn : Reg) (list : BitVec 16) :
    multipleRefused rn (listRegs list) = true ↔ list = 0#16 ∨ rn = 15#4 := by
  simp [multipleRefused, -List.isEmpty_iff, listRegs_isEmpty_iff]

theorem userBankRefused_iff (s : State) (w : Bool) :
    s.userBankRefused w = true ↔ w = true ∨ s.mode = .usr ∨ s.mode = .sys := by
  simp [State.userBankRefused, or_assoc]

/-! ### Coprocessors -/

/-- An accepted coprocessor instruction runs, the script moved on and the instruction shown (R326, R341). -/
theorem coprocessor_of_accepts {s : State} {more : Nat} {ws : List Word} {rest : List CpAnswer}
    (h : Claims.accepts s more ws rest) {cp : BitVec 4} (hcp : cp ≠ 14#4) (instr : Word)
    (k : Nat → List Word → State → Out) : coprocessor instr cp k s = k more ws (s.cpAnswer.2.cpOffer instr) := by
  have answer : s.cpAnswer.1 = .accept more ws := by simp [State.cpAnswer, show s.cpScript = _ from h]
  simp [coprocessor, hcp, answer]

/-- Whether mode 5 writes back does not depend on the base (R337). -/
theorem mode5_writeback_isSome (p u w : Bool) (imm8 : BitVec 8) (b b' : Word) :
    (mode5 p u w imm8 b).writeback.isSome = (mode5 p u w imm8 b').writeback.isSome := by
  cases p <;> cases w <;> rfl

end Sys2Proof.Proofs
end

section
/-! PROOF. The refused forms (93 section 2.2): each family by the check of the model that its frame makes. -/

namespace Sys2Proof.Proofs

open Sys2Proof.Machine

/-! ### Data processing and multiplies -/

theorem refusedShifts : Claims.refusedShifts := by
  refine ⟨fun r hr o s hc h => ?_, fun r hr o s hc h => ?_, fun r hr o s hc h => ?_⟩
  · obtain ⟨op, hmeans⟩ := aluRows_meaning r hr
    exact (hmeans.reg o s).trans (registerShift_of_pc hc (mem_four h) _)
  · obtain ⟨op, hmeans⟩ := movRows_meaning r hr
    exact (hmeans.reg o s).trans (registerShift_of_pc hc (mem_three h) _)
  · obtain ⟨op, hmeans⟩ := cmpRows_meaning r hr
    exact (hmeans.reg o s).trans (registerShift_of_pc hc (mem_three h) _)

theorem longMultiply_of_pc : ∀ r ∈ Claims.longRows, ∀ (o : MullOps) (s : State), condPassed o.cond s.cpsr = true →
    (o.rdHi = 15#4 ∨ o.rdLo = 15#4 ∨ o.rs = 15#4 ∨ o.rm = 15#4) → exec (r.instr o) s = .refused .pcOperand := by
  simp only [Claims.longRows, List.forall_mem_cons]
  exact ⟨fun o s hc h => (exec_umull o s).trans (multiplyFrame_of_pc hc (mem_four h) _),
    fun o s hc h => (exec_umlal o s).trans (multiplyFrame_of_pc hc (mem_four h) _),
    fun o s hc h => (exec_smull o s).trans (multiplyFrame_of_pc hc (mem_four h) _),
    fun o s hc h => (exec_smlal o s).trans (multiplyFrame_of_pc hc (mem_four h) _), List.forall_mem_nil _⟩

theorem saturating_of_pc : ∀ r ∈ Claims.satRows, ∀ (o : QOps) (s : State), condPassed o.cond s.cpsr = true →
    (o.rn = 15#4 ∨ o.rd = 15#4 ∨ o.rm = 15#4) → exec (r.instr o) s = .refused .pcOperand := by
  simp only [Claims.satRows, List.forall_mem_cons]
  exact ⟨fun o s hc h => (exec_qadd o s).trans (multiplyFrame_of_pc hc (mem_three h) _),
    fun o s hc h => (exec_qsub o s).trans (multiplyFrame_of_pc hc (mem_three h) _),
    fun o s hc h => (exec_qdadd o s).trans (multiplyFrame_of_pc hc (mem_three h) _),
    fun o s hc h => (exec_qdsub o s).trans (multiplyFrame_of_pc hc (mem_three h) _), List.forall_mem_nil _⟩

theorem refusedOperands : Claims.refusedOperands := by
  refine ⟨fun o s hc h => ?mul, fun o s hc h => ?mla, longMultiply_of_pc, saturating_of_pc, fun o s hc h => ?smulXy,
    fun o s hc h => ?smlaXy, fun o s hc h => ?smulW, fun o s hc h => ?smlaW, fun o s hc h => ?smlalXy,
    fun o s hc h => ?clz, fun o s hc h => ?mrs, fun o s hc h => ?msrReg, fun o s hc h => ?blxReg,
    fun o s h => ?tBlxReg, fun o s h => ?tCmpHi⟩
  case mul => exact (exec_mul o s).trans (multiplyFrame_of_pc hc (mem_three h) _)
  case mla => exact (exec_mla o s).trans (multiplyFrame_of_pc hc (mem_four h) _)
  case smulXy => exact (exec_smulXy o s).trans (multiplyFrame_of_pc hc (mem_three h) _)
  case smlaXy => exact (exec_smlaXy o s).trans (multiplyFrame_of_pc hc (mem_four h) _)
  case smulW => exact (exec_smulW o s).trans (multiplyFrame_of_pc hc (mem_three h) _)
  case smlaW => exact (exec_smlaW o s).trans (multiplyFrame_of_pc hc (mem_four h) _)
  case smlalXy => exact (exec_smlalXy o s).trans (multiplyFrame_of_pc hc (mem_four h) _)
  case clz => rw [exec_clz, execClz, ifPassed_of_passed hc, if_pos h]
  case mrs => rw [exec_mrs, execMrs, ifPassed_of_passed hc, if_pos h]
  case msrReg => rw [exec_msrReg, execMsrReg, ifPassed_of_passed hc, if_pos h]
  case blxReg => rw [exec_blxReg, execBlxReg, ifPassed_of_passed hc, if_pos h]
  case tBlxReg => rw [exec_tBlxReg, execTBlxReg, if_pos h]
  case tCmpHi => rw [exec_tCmpHi, execTCmpHi, if_pos h]

/-! ### Single transfers -/

section
variable {Ops : Type} {c : Ops → Instr} {pcOk user : Bool} {cond : Ops → Cond} {rn rd : Ops → Reg}
  {rm : Ops → Option Reg} {address : Ops → State → Addressed}

/-- A form that runs `transfer` under its condition refuses what `transfer` refuses. -/
theorem refusesBase_of_transfer {transfer : Ops → State → Out}
    (hexec : ∀ o s, exec (c o) s = s.ifPassed (cond o) (transfer o))
    (refused : ∀ o s r, addressRefusal (address o s).writeback.isSome (rn o) (rd o) (rm o) = some r →
      transfer o s = .refused r)
    (pc : ∀ o s, addressRefusal (address o s).writeback.isSome (rn o) (rd o) (rm o) = none → rd o = 15#4 →
      pcOk = false → transfer o s = .refused .pcOperand) :
    Claims.RefusesBase c pcOk cond rn rd rm address := by
  intro o s hc
  rw [hexec, ifPassed_of_passed hc]
  refine ⟨fun hm => refused o s _ ?_, fun hm hw hn => refused o s _ ?_, fun hfree hd hp => pc o s ?_ hd hp⟩
  · rw [hm, addressRefusal_of_pcOffset]
  · exact addressRefusal_of_conflict hm ((writebackConflict_iff ..).mpr ⟨hw, hn⟩)
  · exact addressRefusal_of_baseFree hfree

theorem refusesBase_of_load {k : LoadKind} (hexec : ∀ o s, exec (c o) s = s.ifPassed (cond o) fun s =>
    loadSingle k pcOk user (rn o) (rd o) (rm o) (address o s) s) :
    Claims.RefusesBase c pcOk cond rn rd rm address :=
  refusesBase_of_transfer hexec (fun _ s _ h => loadSingle_of_refused h k pcOk user s)
    (fun _ s h hd hp => hp ▸ loadSingle_of_pc h hd k user s)

theorem refusesBase_of_store {z : Size} (hexec : ∀ o s, exec (c o) s = s.ifPassed (cond o) fun s =>
    storeSingle z pcOk user (rn o) (rd o) (rm o) (address o s) s) :
    Claims.RefusesBase c pcOk cond rn rd rm address :=
  refusesBase_of_transfer hexec (fun _ s _ h => storeSingle_of_refused h z pcOk user s)
    (fun _ s h hd hp => hp ▸ storeSingle_of_pc h hd z user s)

theorem refusesUnalignedPc_of_load {k : LoadKind} (hexec : ∀ o s, exec (c o) s = s.ifPassed (cond o) fun s =>
    loadSingle k true user (rn o) (rd o) (rm o) (address o s) s) :
    Claims.RefusesUnalignedPc c cond rn rd rm address := by
  intro o s hc hfree hd ha
  rw [hexec, ifPassed_of_passed hc]
  exact loadSingle_of_unaligned (addressRefusal_of_baseFree hfree) hd ha k user s

/-- Both doubleword forms refuse by `doubleRefusal`, case by case. -/
theorem refusesDouble_of_exec {ld sd : Ops → Instr}
    (hld : ∀ o s, exec (ld o) s = s.ifPassed (cond o) fun s => loadDoubleword (rn o) (rd o) (rm o) (address o s) s)
    (hsd : ∀ o s, exec (sd o) s = s.ifPassed (cond o) fun s => storeDoubleword (rn o) (rd o) (rm o) (address o s) s) :
    Claims.RefusesDouble ld sd cond rn rd rm address := by
  intro o s hc heven
  have load {r : Refusal} (h : doubleRefusal true (address o s).writeback.isSome (rn o) (rd o) (rm o) = some r) :
      exec (ld o) s = .refused r := by
    rw [hld, ifPassed_of_passed hc, loadDoubleword_of_refused heven h]
  have both {r : Refusal}
      (h : ∀ load, doubleRefusal load (address o s).writeback.isSome (rn o) (rd o) (rm o) = some r) :
      ∀ c ∈ [ld, sd], exec (c o) s = .refused r := by
    simp only [List.forall_mem_cons]
    refine ⟨load (h true), ?_, List.forall_mem_nil _⟩
    rw [hsd, ifPassed_of_passed hc, storeDoubleword_of_refused heven (h false)]
  refine ⟨fun c hmem => ⟨fun hd => ?_, fun hd hm => ?_, fun hd hm hw hn => ?_⟩, fun hd hm hw => load ?_⟩
  · exact both (fun load => hd ▸ doubleRefusal_of_r14 load _ _ _) c hmem
  · exact both (fun load => hm ▸ doubleRefusal_of_pcOffset load _ _ hd) c hmem
  · exact both (fun load => doubleRefusal_of_conflict hd hm ((doubleConflict_iff ..).mpr ⟨hw, hn⟩)) c hmem
  · refine doubleRefusal_of_loadedOffset hd heven hm fun hconflict => ?_
    obtain ⟨hsome, hn⟩ := (doubleConflict_iff ..).mp hconflict
    obtain ⟨h15, hrd, hrd1, hrm⟩ := hw hsome
    rcases hn with h | h | h | h
    exacts [h15 h, hrd h, hrd1 h, hrm h]

end

theorem refusedDoublewords : Claims.refusedDoublewords :=
  ⟨refusesDouble_of_exec exec_ldrdImm exec_strdImm, refusesDouble_of_exec exec_ldrdReg exec_strdReg⟩

/-! ### Block transfers and swaps -/

theorem multiple_of_refused : ∀ c ∈ [Instr.ldm1, .stm1, .stm2], ∀ (o : LdmOps) (s : State),
    condPassed o.cond s.cpsr = true → (o.list = 0#16 ∨ o.rn = 15#4) → exec (c o) s = .refused .multipleForm := by
  simp only [List.forall_mem_cons]
  refine ⟨fun o s hc h => ?_, fun o s hc h => ?_, fun o s hc h => ?_, List.forall_mem_nil _⟩
  · rw [exec_ldm1, execLdm1, ifPassed_of_passed hc, if_pos ((multipleRefused_iff ..).mpr h)]
  · rw [exec_stm1, execStm1, ifPassed_of_passed hc, if_pos ((multipleRefused_iff ..).mpr h)]
  · rw [exec_stm2, execStm2, ifPassed_of_passed hc, if_pos ((multipleRefused_iff ..).mpr h)]

theorem swap_of_refused : ∀ c ∈ [Instr.swp, .swpb], ∀ (o : SwpOps) (s : State), condPassed o.cond s.cpsr = true →
    ((o.rn = 15#4 ∨ o.rd = 15#4 ∨ o.rm = 15#4) → exec (c o) s = .refused .pcOperand) ∧
    (o.rn ≠ 15#4 → o.rm ≠ 15#4 → o.rn = o.rd → exec (c o) s = .refused .swapRegister) := by
  have frame (k : LoadKind) (o : SwpOps) (s : State) (hc : condPassed o.cond s.cpsr = true) :
      ((o.rn = 15#4 ∨ o.rd = 15#4 ∨ o.rm = 15#4) → swapFrame k o s = .refused .pcOperand) ∧
      (o.rn ≠ 15#4 → o.rm ≠ 15#4 → o.rn = o.rd → swapFrame k o s = .refused .swapRegister) := by
    refine ⟨fun h => ?_, fun hn hm hd => ?_⟩
    · rw [swapFrame, ifPassed_of_passed hc, if_pos (List.contains_iff_mem.mpr (mem_three h))]
    · have noPc : ¬[o.rn, o.rd, o.rm].contains 15#4 = true := by simp [← hd, hn.symm, hm.symm]
      rw [swapFrame, ifPassed_of_passed hc, if_neg noPc, if_pos hd]
  simp only [List.forall_mem_cons]
  exact ⟨frame .word, frame .byte, List.forall_mem_nil _⟩

/-- The lists of 8 and of 15 bits, as lists of 16. -/
theorem zeroExtended_eq_zero_iff {n : Nat} (hn : n ≤ 16) (list : BitVec n) : list.setWidth 16 = 0#16 ↔ list = 0#n := by
  simp only [← BitVec.toNat_inj, BitVec.toNat_setWidth_of_le hn, BitVec.toNat_ofNat, Nat.zero_mod]

section
variable {o : Ldm15Ops} {s : State} (hc : condPassed o.cond s.cpsr = true)
include hc

theorem userLoad_of_refused (h : o.list = 0#15 ∨ o.rn = 15#4) : exec (.ldm2 o) s = .refused .multipleForm := by
  have refused : multipleRefused o.rn (listRegs (o.list.setWidth 16)) = true := by
    rwa [multipleRefused_iff, zeroExtended_eq_zero_iff (by decide)]
  rw [exec_ldm2, execLdm2, ifPassed_of_passed hc, if_pos refused]

theorem userLoad_of_userMode (hl : o.list ≠ 0#15) (hn : o.rn ≠ 15#4)
    (h : o.w = true ∨ s.mode = .usr ∨ s.mode = .sys) : exec (.ldm2 o) s = .refused .userBankForm := by
  have allowed : ¬multipleRefused o.rn (listRegs (o.list.setWidth 16)) = true := by
    rw [multipleRefused_iff, zeroExtended_eq_zero_iff (by decide)]
    exact not_or.mpr ⟨hl, hn⟩
  rw [exec_ldm2, execLdm2, ifPassed_of_passed hc, if_neg allowed, if_pos ((userBankRefused_iff ..).mpr h)]

theorem returnLoad_of_refused (h : o.rn = 15#4) : exec (.ldm3 o) s = .refused .multipleForm := by
  rw [exec_ldm3, execLdm3, ifPassed_of_passed hc, if_pos ((multipleRefused_iff ..).mpr (.inr h))]

end

theorem userStore_of_userMode {o : LdmOps} {s : State} (hc : condPassed o.cond s.cpsr = true) (hl : o.list ≠ 0#16)
    (hn : o.rn ≠ 15#4) (h : o.w = true ∨ s.mode = .usr ∨ s.mode = .sys) :
    exec (.stm2 o) s = .refused .userBankForm := by
  have allowed : ¬multipleRefused o.rn (listRegs o.list) = true := by
    rw [multipleRefused_iff]
    exact not_or.mpr ⟨hl, hn⟩
  rw [exec_stm2, execStm2, ifPassed_of_passed hc, if_neg allowed, if_pos ((userBankRefused_iff ..).mpr h)]

theorem thumbMultiple_of_empty : ∀ c ∈ [Instr.tLdmia, .tStmia], ∀ (o : TMultiOps) (s : State), o.list = 0#8 →
    exec (c o) s = .refused .multipleForm := by
  have empty {list : BitVec 8} (h : list = 0#8) : (listRegs (list.setWidth 16)).isEmpty = true :=
    (listRegs_isEmpty_iff _).mpr ((zeroExtended_eq_zero_iff (by decide) _).mpr h)
  simp only [List.forall_mem_cons]
  refine ⟨fun o s h => ?_, fun o s h => ?_, List.forall_mem_nil _⟩
  · rw [exec_tLdmia, execTLdmia, if_pos (empty h)]
  · rw [exec_tStmia, execTStmia, if_pos (empty h)]

theorem thumbStack_of_empty : ∀ c ∈ [Instr.tPush, .tPop], ∀ (o : TStackOps) (s : State), o.list = 0#8 →
    o.extra = false → exec (c o) s = .refused .multipleForm := by
  simp only [List.forall_mem_cons]
  refine ⟨fun o s hl he => ?_, fun o s hl he => ?_, List.forall_mem_nil _⟩
  · rw [exec_tPush, execTPush, hl, he, if_pos ((listRegs_isEmpty_iff _).mpr (by decide))]
  · rw [exec_tPop, execTPop, hl, he, if_pos ((listRegs_isEmpty_iff _).mpr (by decide))]

/-- Every transfer that 93 section 2.2 refuses, by its frame. -/
theorem refusedTransfers : Claims.refusedTransfers := by
  refine ⟨?immPre, ?immPost, ?regPre, ?regPost, ?extImm, ?extReg, refusesUnalignedPc_of_load exec_ldrImmPre,
    refusesUnalignedPc_of_load exec_ldrImmPost, refusesUnalignedPc_of_load exec_ldrRegPre,
    refusesUnalignedPc_of_load exec_ldrRegPost, multiple_of_refused,
    fun _ _ hc => ⟨userLoad_of_refused hc, returnLoad_of_refused hc⟩, fun _ _ => userLoad_of_userMode,
    fun _ _ => userStore_of_userMode, fun o s h => ?pldReg, thumbMultiple_of_empty, thumbStack_of_empty,
    swap_of_refused⟩
  case immPre =>
    simp only [List.forall_mem_cons]
    exact ⟨refusesBase_of_load exec_ldrImmPre, refusesBase_of_load exec_ldrbImmPre,
      refusesBase_of_store exec_strImmPre, refusesBase_of_store exec_strbImmPre, List.forall_mem_nil _⟩
  case immPost =>
    simp only [List.forall_mem_cons]
    exact ⟨refusesBase_of_load exec_ldrImmPost, refusesBase_of_load exec_ldrtImm,
      refusesBase_of_load exec_ldrbImmPost, refusesBase_of_load exec_ldrbtImm,
      refusesBase_of_store exec_strImmPost, refusesBase_of_store exec_strtImm,
      refusesBase_of_store exec_strbImmPost, refusesBase_of_store exec_strbtImm, List.forall_mem_nil _⟩
  case regPre =>
    simp only [List.forall_mem_cons]
    exact ⟨refusesBase_of_load exec_ldrRegPre, refusesBase_of_load exec_ldrbRegPre,
      refusesBase_of_store exec_strRegPre, refusesBase_of_store exec_strbRegPre, List.forall_mem_nil _⟩
  case regPost =>
    simp only [List.forall_mem_cons]
    exact ⟨refusesBase_of_load exec_ldrRegPost, refusesBase_of_load exec_ldrtReg,
      refusesBase_of_load exec_ldrbRegPost, refusesBase_of_load exec_ldrbtReg,
      refusesBase_of_store exec_strRegPost, refusesBase_of_store exec_strtReg,
      refusesBase_of_store exec_strbRegPost, refusesBase_of_store exec_strbtReg, List.forall_mem_nil _⟩
  case extImm =>
    simp only [List.forall_mem_cons]
    exact ⟨refusesBase_of_load exec_ldrhImm, refusesBase_of_load exec_ldrsbImm, refusesBase_of_load exec_ldrshImm,
      refusesBase_of_store exec_strhImm, List.forall_mem_nil _⟩
  case extReg =>
    simp only [List.forall_mem_cons]
    exact ⟨refusesBase_of_load exec_ldrhReg, refusesBase_of_load exec_ldrsbReg, refusesBase_of_load exec_ldrshReg,
      refusesBase_of_store exec_strhReg, List.forall_mem_nil _⟩
  case pldReg => rw [exec_pldReg, execPldReg, if_pos h]

/-! ### Coprocessors -/

section
variable {s : State} {more : Nat} {ws : List Word} {rest : List CpAnswer} (h : Claims.accepts s more ws rest)
  {cp : BitVec 4} (hcp : cp ≠ 14#4) {rn : Reg} (hn : rn = 15#4) {a : State → Addressed} {instr : Word}
  (hw : (a (s.cpAnswer.2.cpOffer instr)).writeback.isSome = true)
include h hcp hn hw

theorem coprocessorLoad_of_pcBase : coprocessorLoad instr cp rn a s = .refused .writebackConflict := by
  rw [coprocessorLoad, coprocessor_of_accepts h hcp, if_pos ⟨hn, hw⟩]

theorem coprocessorStore_of_pcBase : coprocessorStore instr cp rn a s = .refused .writebackConflict := by
  rw [coprocessorStore, coprocessor_of_accepts h hcp, if_pos ⟨hn, hw⟩]

end

theorem refusedCoprocessor : Claims.refusedCoprocessor := by
  intro s more ws rest h
  refine ⟨fun o hc hcp => ⟨fun hpc => ⟨?_, ?_⟩, fun hd hdn => ?_⟩, fun o hc hcp hn hw => ⟨?_, ?_⟩,
    fun o hcp hn hw => ⟨?_, ?_⟩⟩
  · rw [exec_mcrr, execMcrr, ifPassed_of_passed hc, coprocessor_of_accepts h hcp, if_pos hpc]
  · rw [exec_mrrc, execMrrc, ifPassed_of_passed hc, coprocessor_of_accepts h hcp, if_pos hpc]
  · have noPc : ¬(o.rd = 15#4 ∨ o.rn = 15#4) := by simp [← hdn, hd]
    rw [exec_mrrc, execMrrc, ifPassed_of_passed hc, coprocessor_of_accepts h hcp, if_neg noPc, if_pos hdn]
  · rw [exec_ldc, execLdc, ifPassed_of_passed hc]
    refine coprocessorLoad_of_pcBase h hcp hn ?_
    exact (mode5_writeback_isSome ..).trans hw
  · rw [exec_stc, execStc, ifPassed_of_passed hc]
    refine coprocessorStore_of_pcBase h hcp hn ?_
    exact (mode5_writeback_isSome ..).trans hw
  · rw [exec_ldc2, execLdc2]
    refine coprocessorLoad_of_pcBase h hcp hn ?_
    exact (mode5_writeback_isSome ..).trans hw
  · rw [exec_stc2, execStc2]
    refine coprocessorStore_of_pcBase h hcp hn ?_
    exact (mode5_writeback_isSome ..).trans hw

/-! ### The step -/

/-- A field of a field is a field (R10). -/
theorem fld_of_fld {n : Nat} {w : BitVec n} {lo len : Nat} {v : BitVec len} (h : fld w lo len = v) (lo' len' : Nat)
    (hl : lo' + len' ≤ len) : fld w (lo + lo') len' = fld v lo' len' := by
  rw [← h]
  apply BitVec.eq_of_getLsbD_eq
  intro i hi
  simp [fld, hi, show lo' + i < len by omega, Nat.add_assoc]

/-- BKPT's pattern with a condition other than AL is rejected by name (R118, R305). -/
theorem decodeArm_conditionalBkpt {w : Word} (hop : fld w 20 8 = 0x12#8) (hlow : fld w 4 4 = 0x7#4)
    (hal : fld w 28 4 ≠ 0xE#4) (hnv : fld w 28 4 ≠ 0xF#4) : decodeArm w = .error .breakpointCondition := by
  have cond : ∀ b : BitVec 4, b ≠ 0xE#4 → b ≠ 0xF#4 → Cond.ofBits b ≠ none ∧ Cond.ofBits b ≠ some .al := by decide
  obtain ⟨hsome, hne⟩ := cond _ hal hnv
  obtain ⟨c, hc⟩ := Option.ne_none_iff_exists'.mp hsome
  have notAl : c ≠ .al := by rintro rfl; exact hne hc
  have top : fld w 25 3 = 0b000#3 := fld_of_fld hop 5 3 (by decide)
  have bit7 : fld w 7 1 = 0b0#1 := fld_of_fld hlow 3 1 (by decide)
  have misc : fld w 23 2 = 0b10#2 := fld_of_fld hop 3 2 (by decide)
  have bit20 : fld w 20 1 = 0b0#1 := fld_of_fld hop 0 1 (by decide)
  have row : fld w 4 3 = 0b111#3 := fld_of_fld hlow 0 3 (by decide)
  have op : fld w 21 2 = 0b01#2 := fld_of_fld hop 1 2 (by decide)
  simp [decodeArm, hc, decodeCond, top, decode000, bit7, misc, bit20, decodeMisc, row, op, notAl]

theorem executeHead_of_breakpointCondition {f : Fetched} (hf : f.instr = .error .breakpointCondition) (s : State) :
    executeHead f s = .refused .breakpointCondition := by
  simp [executeHead, hf]

theorem executeHead_of_ok {f : Fetched} {i : Instr} (hf : f.instr = .ok i) (s : State) :
    executeHead f s = execNext i s := by
  simp [executeHead, hf]

theorem execNext_of_conflict {i : Instr} {s : State} (hb : s.bankHazard = true) (hc : Claims.passes (condOf i) s)
    (hr : (sources i).any (banked s.mode) = true) : execNext i s = .refused .bankedAfterUserBank := by
  have holds : conditionHolds i s.cpsr = true := by
    unfold conditionHolds
    split
    next c h => exact hc c h
    next => rfl
  simp only [execNext, State.bankConflict, hb, holds, hr, Bool.and_self, if_true]

theorem refusedSteps : Claims.refusedSteps := by
  refine ⟨fun s w hu hw ht hop hlow hal hnv => ?_, fun s w i hu hw hi hb hc hr => ?_⟩
  · obtain ⟨f, -, -, hf, hstep⟩ := step_of_headBits hu hw
    have rejected : Claims.decoded s w = .error .breakpointCondition := by
      simp [Claims.decoded, ht, decodeArm_conditionalBkpt hop hlow hal hnv]
    rw [hstep, executeHead_of_breakpointCondition (hf.trans rejected)]
    rfl
  · obtain ⟨f, -, -, hf, hstep⟩ := step_of_headBits hu hw
    have refused : execNext i s.sample.fillQueue = .refused .bankedAfterUserBank :=
      execNext_of_conflict (by simpa using hb) (by simpa [Claims.passes] using hc) (by simpa using hr)
    rw [hstep, executeHead_of_ok (hf.trans hi), refused]
    rfl

/-- Settles O56: each family by its check. -/
theorem refusedForms : Obligations.RefusedForms := by
  unfold Obligations.RefusedForms
  exact ⟨refusedShifts, refusedOperands, refusedTransfers, refusedDoublewords, refusedCoprocessor, refusedSteps⟩

end Sys2Proof.Proofs
end

section
/-! SUPPORT. Products, clamps and sums of words as exact integers (R203, R205, R213, R215): each integer the model
computes is the value of a word the spec writes. -/

namespace Sys2Proof.Proofs

open Sys2Proof.Machine

/-! ### Long products -/

theorem umul_eq (a b : Word) : umul a b = a.setWidth 64 * b.setWidth 64 := by
  apply BitVec.eq_of_toNat_eq
  simp [umul]

/-- Sign extension is the integer narrowed to the wider word. -/
theorem smul_eq (a b : Word) : smul a b = a.signExtend 64 * b.signExtend 64 := BitVec.ofInt_mul _ _

/-! ### Clamping -/

theorem clamp_le (i : Int) : Claims.clamp i ≤ 2 ^ 31 - 1 := by
  unfold Claims.clamp
  omega

theorem le_clamp (i : Int) : -2 ^ 31 ≤ Claims.clamp i := le_max_left _ _

theorem clamp_eq_self {i : Int} (hl : -2 ^ 31 ≤ i) (hu : i < 2 ^ 31) : Claims.clamp i = i := by
  unfold Claims.clamp
  omega

theorem clamp_toInt (x : Word) : Claims.clamp x.toInt = x.toInt := clamp_eq_self x.le_toInt x.toInt_lt

theorem toInt_clamp (i : Int) : (BitVec.ofInt 32 (Claims.clamp i)).toInt = Claims.clamp i :=
  BitVec.toInt_ofInt_eq_self (by decide) (le_clamp i) (Int.lt_of_le_sub_one (clamp_le i))

/-- `SignedSat32` answers the clamped value and whether clamping changed it (R215). -/
theorem signedSat32_eq (i : Int) :
    signedSat32 i = (BitVec.ofInt 32 (Claims.clamp i), decide (Claims.clamp i ≠ i)) := by
  obtain above | below | within : 2 ^ 31 - 1 < i ∨ i < -2 ^ 31 ∨ (-2 ^ 31 ≤ i ∧ i < 2 ^ 31) := by omega
  · have clamped : Claims.clamp i = 2 ^ 31 - 1 := by unfold Claims.clamp; omega
    rw [signedSat32, if_pos above, clamped, decide_eq_true (show (2 : Int) ^ 31 - 1 ≠ i by omega)]
    rfl
  · have clamped : Claims.clamp i = -2 ^ 31 := by unfold Claims.clamp; omega
    rw [signedSat32, if_neg (by omega), if_pos below, clamped, decide_eq_true (show -(2 : Int) ^ 31 ≠ i by omega)]
    rfl
  · obtain ⟨hl, hu⟩ := within
    rw [signedSat32, if_neg (by omega), if_neg (by omega), clamp_eq_self hl hu, decide_eq_false (not_not_intro rfl)]

/-! ### Halfwords and their products -/

theorem fld_eq_setWidth {n : Nat} (w : BitVec n) (lo len : Nat) : fld w lo len = (w >>> lo).setWidth len := by
  apply BitVec.eq_of_toNat_eq
  simp [fld]

theorem toInt_halfOf (v : Word) (top : Bool) : (Claims.halfOf v top).toInt = halfInt v top := by
  rw [Claims.halfOf, BitVec.toInt_signExtend_of_le (by decide)]
  cases top <;> simp [halfInt, fld_eq_setWidth]

theorem abs_toInt_le {n : Nat} (x : BitVec n) : |x.toInt| ≤ 2 ^ (n - 1) := abs_le.mpr ⟨x.le_toInt, x.toInt_lt.le⟩

theorem abs_halfInt_le (v : Word) (top : Bool) : |halfInt v top| ≤ 2 ^ 15 := by
  cases top
  · exact abs_toInt_le (fld v 0 16)
  · exact abs_toInt_le (fld v 16 16)

theorem abs_mul_le_of_abs_le {x y m n : Int} (hx : |x| ≤ m) (hy : |y| ≤ n) : |x * y| ≤ m * n :=
  abs_mul x y ▸ mul_le_mul hx hy (abs_nonneg y) ((abs_nonneg x).trans hx)

/-- A 16 by 16 product fits in a word (R211). -/
theorem toInt_halfProduct (a b : Word) (x y : Bool) :
    (Claims.halfOf a x * Claims.halfOf b y).toInt = halfInt a x * halfInt b y := by
  obtain ⟨hl, hu⟩ := abs_le.mp (abs_mul_le_of_abs_le (abs_halfInt_le a x) (abs_halfInt_le b y))
  rw [BitVec.toInt_mul, toInt_halfOf, toInt_halfOf, Int.bmod_eq_of_le (by omega) (by omega)]

/-- A 32 by 16 product fits in 64 bits, and its bits 47:16 in a word (R213). -/
theorem toInt_wideOf (a b : Word) (top : Bool) : (Claims.wideOf a b top).toInt = wideProduct a b top := by
  obtain ⟨hl, hu⟩ := abs_le.mp (abs_mul_le_of_abs_le (abs_toInt_le a) (abs_halfInt_le b top))
  have product : (a.signExtend 64 * (Claims.halfOf b top).signExtend 64).toInt = a.toInt * halfInt b top := by
    rw [BitVec.toInt_mul, BitVec.toInt_signExtend_of_le (by decide), BitVec.toInt_signExtend_of_le (by decide),
      toInt_halfOf, Int.bmod_eq_of_le (by omega) (by omega)]
  have shifted : ((a.signExtend 64 * (Claims.halfOf b top).signExtend 64).sshiftRight 16).toInt =
      wideProduct a b top := by
    rw [BitVec.toInt_sshiftRight, product, Int.shiftRight_eq_div_pow, wideProduct]
    rfl
  rw [Claims.wideOf, ← BitVec.signExtend_eq_setWidth_of_le _ (by decide), BitVec.signExtend, shifted]
  exact BitVec.toInt_ofInt_eq_self (by decide) (by unfold wideProduct; omega) (by unfold wideProduct; omega)

/-! ### Accumulation -/

/-- An exact sum leaves the signed range by the rule of signs (R212). -/
theorem outOfRange_add (a b : Word) : outOfRange (a.toInt + b.toInt) = Claims.addOverflows a b := by
  have h := addWithCarry_overflow a b false
  rw [addWithCarry_value] at h
  simpa [addWithCarry, outOfRange, Claims.addOverflows] using h

theorem ofInt_add_toInt (a b : Word) : BitVec.ofInt 32 (a.toInt + b.toInt) = a + b := by
  rw [BitVec.ofInt_add, BitVec.ofInt_toInt, BitVec.ofInt_toInt]

/-! ### Flags -/

/-- Q is sticky (R22). -/
theorem stickyQ_eq (p : Word) (q : Bool) : stickyQ p q = Claims.withQ q p := by
  have bit27 (j : Nat) : bitAt 0x08000000#32 j = decide (j = 27) := by
    rw [show 0x08000000#32 = BitVec.twoPow 32 27 by decide, bitAt, BitVec.getLsbD_twoPow]
    grind
  cases q
  · rfl
  · apply eq_of_bitAt_eq
    intro j
    rw [stickyQ, Claims.withQ, if_pos rfl, if_pos rfl, setPsrQ, bitAt_setBit p (by decide)]
    have either : bitAt (p ||| 0x08000000#32) j = (bitAt p j || bitAt 0x08000000#32 j) := BitVec.getLsbD_or
    rw [either, bit27]
    grind

/-- N and Z of a 64-bit result; C and V are kept (R218). -/
theorem longFlags_eq (p : Word) (r : BitVec 64) :
    longFlags p r = Claims.flagWord r.msb (decide (r = 0)) (psrC p) (psrV p) p := by
  have top : bitAt r 63 = r.msb := (BitVec.msb_eq_getLsbD_last r).symm
  apply eq_of_bitAt_eq
  intro j
  simp only [longFlags, top, bitAt_flagWord, bitAt_setBit, Nat.reduceLT, psrC, psrV, beq_eq_decide]
  grind

end Sys2Proof.Proofs
end

section
/-! PROOF. What the multiplies and the saturating operations leave (R201 to R218): the frame with no r15, one lemma per
way of writing a result, then each instruction by its value. -/

namespace Sys2Proof.Proofs

open Sys2Proof.Machine

/-! ### The frame -/

theorem multiplyFrame_of_noPc {c : Cond} {s : State} (hc : condPassed c s.cpsr = true) {regs : List Reg}
    (hr : 15#4 ∉ regs) (k : State → State) : multiplyFrame c regs k s = .next (k s).advance := by
  simp [multiplyFrame, ifPassed_of_passed hc, hr]

theorem notMem_three {α : Type} {x a b c : α} (ha : a ≠ x) (hb : b ≠ x) (hc : c ≠ x) : x ∉ [a, b, c] := by
  simp [ha.symm, hb.symm, hc.symm]

theorem notMem_four {α : Type} {x a b c d : α} (ha : a ≠ x) (hb : b ≠ x) (hc : c ≠ x) (hd : d ≠ x) :
    x ∉ [a, b, c, d] := by
  simp [ha.symm, hb.symm, hc.symm, hd.symm]

/-! ### Writing a result -/

theorem writeLong_eq (s : State) {hi lo : Reg} (hhi : hi ≠ 15#4) (hlo : lo ≠ 15#4) (p : BitVec 64) :
    s.writeLong hi lo p = { s with regs := Claims.longRegs s hi lo p } := by
  rw [State.writeLong, setReg_of_ne_pc s hlo, setReg_of_ne_pc _ hhi, fld_eq_setWidth, fld_eq_setWidth,
    BitVec.ushiftRight_zero]
  rfl

section
variable {s : State} (ht : s.thumb = false)
include ht

theorem setReg_advance {rd : Reg} (hd : rd ≠ 15#4) (v : Word) :
    (s.setReg rd v).advance = { s with regs := s.regs.set (physIx s.mode rd) v, pc := s.pc + 4#32 } := by
  rw [advance_of_arm (by simpa using ht), setReg_of_ne_pc s hd]

theorem writeProduct_advance (f : Bool) {rd : Reg} (hd : rd ≠ 15#4) (v : Word) :
    (s.writeProduct f rd v).advance = { s with
      regs := s.regs.set (physIx s.mode rd) v, cpsr := Claims.mulFlags f v s.cpsr, pc := s.pc + 4#32 } := by
  cases f with
  | false => exact setReg_advance ht hd v
  | true =>
    have arm : (s.writeProduct true rd v).thumb = false := (psrT_setPsrNZ s.cpsr v).trans ht
    rw [advance_of_arm arm, State.writeProduct, if_pos rfl, setReg_of_ne_pc s hd, setPsrNZ_eq]
    rfl

theorem writeSticky_advance {rd : Reg} (hd : rd ≠ 15#4) (v : Word) (q : Bool) :
    (s.writeSticky rd v q).advance = { s with
      regs := s.regs.set (physIx s.mode rd) v, cpsr := Claims.withQ q s.cpsr, pc := s.pc + 4#32 } := by
  have arm : (s.writeSticky rd v q).thumb = false := (psrT_stickyQ s.cpsr q).trans ht
  rw [advance_of_arm arm, State.writeSticky, setReg_of_ne_pc s hd, stickyQ_eq]
  rfl

/-- The accumulation wraps; Q records its overflow (R212, R214). -/
theorem writeSticky_accumulate {rd : Reg} (hd : rd ≠ 15#4) {i : Int} {a : Word} (ha : a.toInt = i) (b : Word) :
    (s.writeSticky rd (BitVec.ofInt 32 (i + b.toInt)) (outOfRange (i + b.toInt))).advance = { s with
      regs := s.regs.set (physIx s.mode rd) (a + b)
      cpsr := Claims.withQ (Claims.addOverflows a b) s.cpsr
      pc := s.pc + 4#32 } := by
  rw [writeSticky_advance ht hd, ← ha, outOfRange_add, ofInt_add_toInt]

theorem writeLong_advance {hi lo : Reg} (hhi : hi ≠ 15#4) (hlo : lo ≠ 15#4) (p : BitVec 64) :
    (s.writeLong hi lo p).advance = { s with regs := Claims.longRegs s hi lo p, pc := s.pc + 4#32 } := by
  rw [writeLong_eq s hhi hlo]
  exact advance_of_arm ht

theorem writeLongFlags_advance (f : Bool) {hi lo : Reg} (hhi : hi ≠ 15#4) (hlo : lo ≠ 15#4) (p : BitVec 64) :
    (s.writeLongFlags f hi lo p).advance = { s with
      regs := Claims.longRegs s hi lo p, cpsr := Claims.longMulFlags f p s.cpsr, pc := s.pc + 4#32 } := by
  cases f with
  | false => exact writeLong_advance ht hhi hlo p
  | true =>
    have arm : (s.writeLongFlags true hi lo p).thumb = false := (psrT_longFlags s.cpsr p).trans ht
    rw [advance_of_arm arm, State.writeLongFlags, if_pos rfl, writeLong_eq s hhi hlo, longFlags_eq]
    rfl

end

/-! ### MUL, MLA and the long multiplies

Sources are read before a destination is written, so no result needs its registers distinct. -/

theorem mulResult_of_noPc {o : MulOps} {s : State} (hc : condPassed o.cond s.cpsr = true) (ht : s.thumb = false)
    (hd : o.rd ≠ 15#4) (hs : o.rs ≠ 15#4) (hm : o.rm ≠ 15#4) : Claims.mulResult o s := by
  rw [Claims.mulResult, exec_mul, execMul, multiplyFrame_of_noPc hc (notMem_three hd hs hm),
    writeProduct_advance ht _ hd]

theorem mlaResult_of_noPc {o : MlaOps} {s : State} (hc : condPassed o.cond s.cpsr = true) (ht : s.thumb = false)
    (hd : o.rd ≠ 15#4) (hn : o.rn ≠ 15#4) (hs : o.rs ≠ 15#4) (hm : o.rm ≠ 15#4) : Claims.mlaResult o s := by
  rw [Claims.mlaResult, exec_mla, execMla, multiplyFrame_of_noPc hc (notMem_four hd hn hs hm),
    writeProduct_advance ht _ hd]

/-- A row of the long multiplies writes its value in the common frame. -/
def LongMeaning (r : Claims.LongRow) : Prop := ∀ (o : MullOps) (s : State), exec (r.instr o) s =
  multiplyFrame o.cond [o.rdHi, o.rdLo, o.rs, o.rm] (fun s => s.writeLongFlags o.s o.rdHi o.rdLo (r.value s o)) s

theorem longRows_meaning : ∀ r ∈ Claims.longRows, LongMeaning r := by
  simp only [Claims.longRows, List.forall_mem_cons]
  refine ⟨fun o s => ?umull, fun o s => ?umlal, fun o s => ?smull, fun o s => ?smlal, List.forall_mem_nil _⟩
  case umull => simp [exec_umull, execUmull, Claims.LongRow.value, umul_eq]
  case umlal => simp [exec_umlal, execUmlal, Claims.LongRow.value, umul_eq, State.longReg]
  case smull => simp [exec_smull, execSmull, Claims.LongRow.value, smul_eq]
  case smlal => simp [exec_smlal, execSmlal, Claims.LongRow.value, smul_eq, State.longReg]

theorem longResult_of_noPc {r : Claims.LongRow} (hr : LongMeaning r) {o : MullOps} {s : State}
    (hc : condPassed o.cond s.cpsr = true) (ht : s.thumb = false) (hhi : o.rdHi ≠ 15#4) (hlo : o.rdLo ≠ 15#4)
    (hs : o.rs ≠ 15#4) (hm : o.rm ≠ 15#4) : Claims.longResult r o s := by
  rw [Claims.longResult, hr, multiplyFrame_of_noPc hc (notMem_four hhi hlo hs hm), writeLongFlags_advance ht _ hhi hlo]

/-- Settles O25: each instruction by its value, the long ones by their rows. -/
theorem multiplies : Obligations.Multiplies := by
  unfold Obligations.Multiplies
  exact ⟨⟨fun o s hc ht hd hs hm _ => mulResult_of_noPc hc ht hd hs hm,
      fun o s hc ht hd hn hs hm _ => mlaResult_of_noPc hc ht hd hn hs hm⟩,
    fun r hr o s hc ht hhi hlo hs hm _ _ _ => longResult_of_noPc (longRows_meaning r hr) hc ht hhi hlo hs hm⟩

/-! ### QADD, QSUB, QDADD, QDSUB -/

/-- A saturating row writes its clamped sum, and Q if a clamp changed its value, in the common frame. -/
def SatMeaning (r : Claims.SatRow) : Prop := ∀ (o : QOps) (s : State), exec (r.instr o) s =
  multiplyFrame o.cond [o.rn, o.rd, o.rm] (fun s => s.writeSticky o.rd
    (BitVec.ofInt 32 (Claims.clamp (r.sum (s.reg o.rm) (s.reg o.rn))))
    (decide (Claims.clamp (r.raw (s.reg o.rn)) ≠ r.raw (s.reg o.rn)) ||
      decide (Claims.clamp (r.sum (s.reg o.rm) (s.reg o.rn)) ≠ r.sum (s.reg o.rm) (s.reg o.rn)))) s

/-- An operand that is not doubled is in range, so only the sum is clamped; a doubled one is read back as clamped. -/
theorem satRows_meaning : ∀ r ∈ Claims.satRows, SatMeaning r := by
  simp only [Claims.satRows, List.forall_mem_cons]
  refine ⟨fun o s => ?qadd, fun o s => ?qsub, fun o s => ?qdadd, fun o s => ?qdsub, List.forall_mem_nil _⟩
  case qadd => simp [exec_qadd, execQadd, Claims.SatRow.sum, Claims.SatRow.raw, signedSat32_eq, clamp_toInt]
  case qsub => simp [exec_qsub, execQsub, Claims.SatRow.sum, Claims.SatRow.raw, signedSat32_eq, clamp_toInt]
  case qdadd =>
    simp [exec_qdadd, execQdadd, Claims.SatRow.sum, Claims.SatRow.raw, signedSat32_eq, toInt_clamp, -BitVec.toInt_ofInt]
  case qdsub =>
    simp [exec_qdsub, execQdsub, Claims.SatRow.sum, Claims.SatRow.raw, signedSat32_eq, toInt_clamp, -BitVec.toInt_ofInt]

/-- Settles O26: the rows by their clamps. -/
theorem saturatingResults : Obligations.SaturatingResults := by
  unfold Obligations.SaturatingResults
  intro r hr o s hc ht hd hn hm
  rw [satRows_meaning r hr, multiplyFrame_of_noPc hc (notMem_three hn hd hm), writeSticky_advance ht hd]

/-! ### The 16-bit multiplies -/

/-- A word is its integer narrowed. -/
theorem ofInt_of_toInt_eq {a : Word} {i : Int} (h : a.toInt = i) : BitVec.ofInt 32 i = a :=
  h ▸ BitVec.ofInt_toInt

theorem halfMultiplyResults : Claims.halfMultiplyResults := by
  refine ⟨fun o s hc ht hd hs hm => ?smulXy, fun o s hc ht hd hn hs hm => ?smlaXy⟩
  case smulXy =>
    rw [exec_smulXy, execSmulXy, multiplyFrame_of_noPc hc (notMem_three hd hs hm), setReg_advance ht hd,
      ofInt_of_toInt_eq (toInt_halfProduct ..)]
  case smlaXy =>
    rw [exec_smlaXy, execSmlaXy, multiplyFrame_of_noPc hc (notMem_four hd hn hs hm),
      writeSticky_accumulate ht hd (toInt_halfProduct ..)]

theorem wideMultiplyResults : Claims.wideMultiplyResults := by
  refine ⟨fun o s hc ht hd hs hm => ?smulW, fun o s hc ht hd hn hs hm => ?smlaW⟩
  case smulW =>
    rw [exec_smulW, execSmulW, multiplyFrame_of_noPc hc (notMem_three hd hs hm), setReg_advance ht hd,
      ofInt_of_toInt_eq (toInt_wideOf ..)]
  case smlaW =>
    rw [exec_smlaW, execSmlaW, multiplyFrame_of_noPc hc (notMem_four hd hn hs hm),
      writeSticky_accumulate ht hd (toInt_wideOf ..)]

theorem smlalResult_of_noPc {o : SmlalXyOps} {s : State} (hc : condPassed o.cond s.cpsr = true)
    (ht : s.thumb = false) (hhi : o.rdHi ≠ 15#4) (hlo : o.rdLo ≠ 15#4) (hs : o.rs ≠ 15#4) (hm : o.rm ≠ 15#4) :
    Claims.smlalResult o s := by
  rw [Claims.smlalResult, exec_smlalXy, execSmlalXy, multiplyFrame_of_noPc hc (notMem_four hhi hlo hs hm),
    writeLong_advance ht hhi hlo, BitVec.signExtend, toInt_halfProduct]
  rfl

/-- Settles O27: each instruction by its product. -/
theorem halfMultiplies : Obligations.HalfMultiplies := by
  unfold Obligations.HalfMultiplies
  exact ⟨halfMultiplyResults, wideMultiplyResults,
    fun o s hc ht hhi hlo hs hm _ => smlalResult_of_noPc hc ht hhi hlo hs hm⟩

end Sys2Proof.Proofs
end

section
/-! SUPPORT. Writes of the pc as the spec writes them (R230 to R237): the T bit alone, targets that are aligned already,
and a branch and exchange by bits 1:0 of its target. -/

namespace Sys2Proof.Proofs

open Sys2Proof.Machine

/-! ### The T bit -/

theorem setPsrT_of_eq {p : Word} {b : Bool} (h : psrT p = b) : setPsrT p b = p := by
  apply eq_of_bitAt_eq
  intro j
  rw [setPsrT, bitAt_setBit p (by decide), ← h, psrT]
  split
  next hj => rw [hj]
  next => rfl

theorem setPsrT_true (p : Word) : setPsrT p true = p ||| 0x20#32 := by
  have mask (j : Nat) : bitAt 0x20#32 j = decide (j = 5) := by
    rw [show 0x20#32 = BitVec.twoPow 32 5 by decide, bitAt, BitVec.getLsbD_twoPow]
    grind
  apply eq_of_bitAt_eq
  intro j
  have either : bitAt (p ||| 0x20#32) j = (bitAt p j || bitAt 0x20#32 j) := BitVec.getLsbD_or
  rw [setPsrT, bitAt_setBit p (by decide), either, mask]
  grind

theorem setPsrT_false (p : Word) : setPsrT p false = p &&& ~~~0x20#32 := BitVec.or_zero

/-! ### Targets -/

/-- A word offset keeps the alignment of a word address (R231). -/
theorem align4_add_shiftLeft {a : Word} (h : align4 a = a) (x : Word) : align4 (a + (x <<< 2)) = a + (x <<< 2) := by
  rw [Laws.align4_eq_iff] at h ⊢
  rw [BitVec.toNat_add, BitVec.toNat_shiftLeft, Nat.shiftLeft_eq]
  omega

theorem align4_branchTarget {pc : Word} (h : align4 pc = pc) (imm24 : BitVec 24) :
    align4 (branchTarget pc imm24) = branchTarget pc imm24 := by
  refine align4_add_shiftLeft ?_ _
  rw [Laws.align4_eq_iff] at h ⊢
  rw [BitVec.toNat_add, BitVec.toNat_ofNat]
  omega

/-- H adds a halfword to a word address (R234). -/
theorem align2_halfword {a : Word} (h : align4 a = a) (b : Bool) :
    align2 (a + (if b then 2#32 else 0#32)) = a + (if b then 2#32 else 0#32) := by
  rw [Laws.align4_eq_iff] at h
  rw [Laws.align2_eq_iff, BitVec.toNat_add]
  cases b <;> simp <;> omega

theorem pcAligned_of_arm {s : State} (ht : s.thumb = false) (h : s.pcAligned) : align4 s.pc = s.pc := by
  simpa [State.pcAligned, ht] using h

theorem fld_low_toNat (v : Word) : (fld v 0 2).toNat = v.toNat % 4 := by simp [fld]

theorem bitAt_zero_eq (v : Word) : bitAt v 0 = decide (v.toNat % 2 = 1) := by
  rw [bitAt, BitVec.getLsbD, Nat.testBit_zero]

theorem exchangeable_iff (v : Word) : Claims.exchangeable v ↔ v.toNat % 4 ≠ 2 := by
  rw [Claims.exchangeable, ne_eq, ← BitVec.toNat_inj, fld_low_toNat]
  rfl

/-- A target that does not end in 0b10 loses bit 0 alone (R233, R237). -/
theorem alignPc_of_exchangeable {v : Word} (h : Claims.exchangeable v) : alignPc (bitAt v 0) v = align2 v := by
  rw [exchangeable_iff] at h
  cases hb : bitAt v 0 with
  | true => rfl
  | false =>
    rw [bitAt_zero_eq, decide_eq_false_iff_not] at hb
    exact ((Laws.align4_eq_iff v).mpr (by omega)).trans ((Laws.align2_eq_iff v).mpr (by omega)).symm

theorem bitAt_zero_of_not_exchangeable {v : Word} (h : ¬Claims.exchangeable v) : bitAt v 0 = false := by
  rw [exchangeable_iff] at h
  rw [bitAt_zero_eq, decide_eq_false_iff_not]
  omega

/-! ### Branches -/

theorem writePc_of_arm {s : State} (ht : s.thumb = false) (v : Word) :
    s.writePc v = { s with pc := align4 v, fetchQ := [] } := by
  simp [State.writePc, State.branchTo, alignPc, ht]

theorem branchExchange_of_exchangeable {v : Word} (h : Claims.exchangeable v) (s : State) :
    s.branchExchange v = { s with cpsr := setBit s.cpsr 5 (bitAt v 0), pc := align2 v, fetchQ := [] } := by
  rw [State.branchExchange, alignPc_of_exchangeable h]
  rfl

/-- A target ending in 0b10 goes to ARM state, bits 1:0 cleared (U24's alternative). -/
theorem branchExchange_of_not_exchangeable {v : Word} (h : ¬Claims.exchangeable v) (s : State) :
    s.branchExchange v = { s with cpsr := setPsrT s.cpsr false, pc := align4 v, fetchQ := [] } := by
  rw [State.branchExchange, bitAt_zero_of_not_exchangeable h]
  rfl

/-- `LoadPC` keeps the state with CFGDISLTBIT HIGH, and is a branch and exchange with it LOW (R236). -/
theorem loadedPc_loadPc {s t : State} (hcfg : t.cfg = s.cfg) (hcpsr : t.cpsr = s.cpsr) (v : Word) :
    Claims.loadedPc s (t.loadPc v) v := by
  have thumb : t.thumb = s.thumb := congrArg psrT hcpsr
  unfold Claims.loadedPc State.loadPc
  rw [hcfg]
  split
  next => simp [alignPc, hcpsr, thumb]
  next =>
    intro h
    simp [branchExchange_of_exchangeable h, hcpsr]

end Sys2Proof.Proofs
end

section
/-! PROOF. ARM branches (R231 to R235): B, BL, BX and BLX by the writes of the pc they end in. -/

namespace Sys2Proof.Proofs

open Sys2Proof.Machine

/-- r14 and the pc change (R232, R235). -/
theorem linkExchange_of_exchangeable {v : Word} (h : Claims.exchangeable v) (s : State) (link : Word) :
    (s.setReg 14#4 link).branchExchange v = { s with
      regs := s.regs.set (physIx s.mode 14#4) link
      cpsr := setBit s.cpsr 5 (bitAt v 0), pc := align2 v, fetchQ := [] } := by
  rw [branchExchange_of_exchangeable h, setReg_of_ne_pc s (by decide)]

theorem execB_of_passed {o : BranchOps} {s : State} (hc : condPassed o.cond s.cpsr = true) (ht : s.thumb = false)
    (hpc : align4 s.pc = s.pc) :
    execB o s = .next { s with pc := branchTarget s.pc o.imm24, fetchQ := [] } := by
  rw [execB, ifPassed_of_passed hc, writePc_of_arm ht, align4_branchTarget hpc]

theorem execBl_of_passed {o : BranchOps} {s : State} (hc : condPassed o.cond s.cpsr = true) (ht : s.thumb = false)
    (hpc : align4 s.pc = s.pc) :
    execBl o s = .next { s with
      regs := s.regs.set (physIx s.mode 14#4) (s.pc + 4#32), pc := branchTarget s.pc o.imm24, fetchQ := [] } := by
  rw [execBl, ifPassed_of_passed hc, writePc_of_arm (by simpa using ht), align4_branchTarget hpc,
    setReg_of_ne_pc s (by decide)]

theorem execBlxImm_of_aligned (o : BlxImmOps) {s : State} (hpc : align4 s.pc = s.pc) :
    execBlxImm o s = .next { s with
      regs := s.regs.set (physIx s.mode 14#4) (s.pc + 4#32)
      cpsr := s.cpsr ||| 0x20#32
      pc := branchTarget s.pc o.imm24 + (if o.h then 2#32 else 0#32), fetchQ := [] } := by
  rw [execBlxImm, align2_halfword (align4_branchTarget hpc _), setPsrT_true, setReg_of_ne_pc s (by decide)]
  rfl

theorem execBx_of_passed {o : BxOps} {s : State} (hc : condPassed o.cond s.cpsr = true) :
    execBx o s = .next (s.branchExchange (s.reg o.rm)) := by
  rw [execBx, ifPassed_of_passed hc]

theorem execBlxReg_of_passed {o : BxOps} {s : State} (hc : condPassed o.cond s.cpsr = true) (hm : o.rm ≠ 15#4) :
    execBlxReg o s = .next ((s.setReg 14#4 (s.pc + 4#32)).branchExchange (s.reg o.rm)) := by
  rw [execBlxReg, ifPassed_of_passed hc, if_neg hm]

/-- Settles O28: each branch by its target. -/
theorem armBranches : Obligations.ArmBranches := by
  unfold Obligations.ArmBranches
  refine ⟨fun o s hc ht hpc => ⟨?b, ?bl⟩, fun o s ht hpc => ?blxImm, fun o s hc ht hx => ⟨?bx, fun hm => ?blxReg⟩⟩
  case b => exact (exec_b o s).trans (execB_of_passed hc ht (pcAligned_of_arm ht hpc))
  case bl => exact (exec_bl o s).trans (execBl_of_passed hc ht (pcAligned_of_arm ht hpc))
  case blxImm => exact (exec_blxImm o s).trans (execBlxImm_of_aligned o (pcAligned_of_arm ht hpc))
  case bx => rw [exec_bx, execBx_of_passed hc, branchExchange_of_exchangeable hx]
  case blxReg => rw [exec_blxReg, execBlxReg_of_passed hc hm, linkExchange_of_exchangeable hx]

end Sys2Proof.Proofs
end

section
/-! PROOF. Words of the spec: each is the encoding of the instruction it stands for, which the decoder gives back. -/

namespace Sys2Proof.Proofs

theorem decodeArm_of_encode {i : Instr} {w : Word} (h : encode i = .arm w) (hwf : i.wf = true) :
    decodeArm w = .ok i := by
  have back := decode_encode i hwf
  rwa [h] at back

theorem decodeThumb_of_encode {i : Instr} {h : Half} (he : encode i = .thumb h) (hwf : i.wf = true) :
    decodeThumb h = .ok i := by
  have back := decode_encode i hwf
  rwa [he] at back

/-- Settles O2: the encodings by evaluation, the decoder by O1. -/
theorem decodesSpecWords : Obligations.DecodesSpecWords := by
  unfold Obligations.DecodesSpecWords
  refine ⟨?mov, ?adds, ?ldr, ?stm, ?b, ?mrc, ?add, ?bx⟩
  case mov | adds | ldr | stm | b | mrc => exact decodeArm_of_encode (by decide) (by decide)
  case add | bx => exact decodeThumb_of_encode (by decide) (by decide)

end Sys2Proof.Proofs
end

section
/-! SUPPORT. Data accesses with debug off and no aborts (R62, R89 to R92, D10): what a read answers, what a write leaves,
and the value a load makes of what is read. -/

namespace Sys2Proof.Proofs

open Sys2Proof.Machine

/-! ### The value of a load -/

theorem fld_zext {n : Nat} (hn : n ≤ 32) (x : BitVec n) : fld (zext x) 0 n = x := by
  rw [fld_eq_setWidth, BitVec.ushiftRight_zero, zext, BitVec.setWidth_setWidth_of_le _ hn, BitVec.setWidth_eq]

/-- What a load makes of the value read is the spec's value from the bytes of memory (R250 to R260). -/
theorem value_read (s : State) (k : LoadKind) (a : Word) :
    k.value a (s.mem.read s.cfg.bigEnd k.size a) = Claims.loadedValue s k a := by
  cases k with
  | word =>
    have rotation : 8 * (fld a 0 2).toNat % 32 = 8 * (a.toNat % 4) := by rw [fld_low_toNat]; omega
    exact congrArg (BitVec.rotateRight _) rotation
  | byte => rfl
  | half => rfl
  | signedByte => exact congrArg sext (fld_zext (by decide) _)
  | signedHalf => exact congrArg sext (fld_zext (by decide) _)

/-! ### Accesses -/

/-- With DBGEN LOW a cycle is recorded and nothing else (R590). -/
theorem observe_of_off {s : State} (h : s.cfg.dbgen = false) (c : BusCycle) (d : Word) (aborted : Bool) :
    s.observe c d aborted = { s with bus := s.bus ++ [c] } := by
  unfold State.observe
  simp only [h, Bool.false_and, Bool.false_eq_true, if_false, State.freeAfterCompare_off]
  split
  next hm => cases hm
  next => rfl

theorem scanned_of_calm {s : State} (h : Claims.calm s) : s.scanned = false := by simp [State.scanned, h.2]

section
variable {s : State} (hcalm : Claims.calm s) (hab : Claims.noAborts s)
include hcalm hab

theorem dataRead_of_calm (q : Req) : s.dataRead q =
    (some (s.mem.read s.cfg.bigEnd q.size q.addr), { s with bus := s.bus ++ [s.cycle q false 0] }) := by
  have served : s.dabort .read q = false := hab ..
  simp [State.dataRead, scanned_of_calm hcalm, served, observe_of_off hcalm.1]

theorem dataWrite_of_calm (q : Req) (v : Word) : s.dataWrite q v =
    (true, State.store { s with bus := s.bus ++ [s.cycle q true (q.size.replicate v)] } q.size q.addr v) := by
  have served : s.dabort .write q = false := hab ..
  simp [State.dataWrite, scanned_of_calm hcalm, served, observe_of_off hcalm.1]

end

/-! ### What a load may change -/

theorem onlyRegs_of_eq {s t : State} {regs : Vector Word 30} {pc cpsr : Word} {q : List Fetched} {bus : List BusCycle}
    (h : t = { s with regs := regs, pc := pc, cpsr := cpsr, fetchQ := q, bus := bus }) : Claims.onlyRegs s t := by
  subst h
  rfl

/-- A write of the pc from memory changes the pc, the T bit and the queue (R236). -/
theorem onlyRegs_loadPc (s : State) (regs : Vector Word 30) (bus : List BusCycle) (v : Word) :
    Claims.onlyRegs s (State.loadPc { s with regs := regs, bus := bus } v) := by
  unfold State.loadPc
  split
  · exact onlyRegs_of_eq rfl
  · exact onlyRegs_of_eq rfl

end Sys2Proof.Proofs
end

section
/-! PROOF. LDR of r15 (R236, R250, R275): the access, the base written back, then `LoadPC`. -/

namespace Sys2Proof.Proofs

open Sys2Proof.Machine

theorem writeBack_eq {rn rd : Reg} {rm : Option Reg} {a : Addressed} (h : Claims.baseFree a rn rd rm) (s : State) :
    s.writeBack rn a = { s with regs := Claims.basedRegs s rn a } := by
  unfold State.writeBack Claims.basedRegs
  cases hw : a.writeback with
  | none => rfl
  | some b => exact setReg_of_ne_pc s (h.2 (by simp [hw])).1 b

theorem loadSingle_pc {rn rd : Reg} {rm : Option Reg} {a : Addressed} (hfree : Claims.baseFree a rn rd rm)
    (hd : rd = 15#4) (ha : fld a.addr 0 2 = 0b00#2) (k : LoadKind) (user : Bool) (s : State) :
    loadSingle k true user rn rd rm a s = .next (s.loadInto k user rn 15#4 a) := by
  subst hd
  simp [loadSingle, addressRefusal_of_baseFree hfree, ha]

theorem loadInto_pc {s : State} (hcalm : Claims.calm s) (hab : Claims.noAborts s) {rn rd : Reg} {rm : Option Reg}
    {a : Addressed} (hfree : Claims.baseFree a rn rd rm) (k : LoadKind) (user : Bool) :
    ∃ bus, s.loadInto k user rn 15#4 a =
      State.loadPc { s with regs := Claims.basedRegs s rn a, bus := bus } (Claims.loadedValue s k a.addr) := by
  refine ⟨s.bus ++ [s.cycle { Req.plain a.addr k.size with user := user } false 0], ?_⟩
  unfold State.loadInto
  rw [dataRead_of_calm hcalm hab, ← value_read]
  exact congrArg (State.loadPc · _) (writeBack_eq hfree _)

/-- A form that runs the single load of a word under its condition loads r15 by `LoadPC`. -/
theorem loadsPc_of_load {Ops : Type} {c : Ops → Instr} {cond : Ops → Cond} {rn rd : Ops → Reg}
    {rm : Ops → Option Reg} {address : Ops → State → Addressed}
    (hexec : ∀ o s, exec (c o) s = s.ifPassed (cond o) fun s =>
      loadSingle .word true false (rn o) (rd o) (rm o) (address o s) s) :
    Claims.LoadsPc c cond rn rd rm address := by
  intro o s hc _ hcalm hab hd hfree ha
  obtain ⟨bus, hload⟩ := loadInto_pc hcalm hab hfree .word false
  have run : exec (c o) s = .next (s.loadInto .word false (rn o) 15#4 (address o s)) := by
    rw [hexec, ifPassed_of_passed hc, loadSingle_pc hfree hd ha]
  rw [hload] at run
  exact ⟨_, run, onlyRegs_loadPc .., State.loadPc_regs .., loadedPc_loadPc (by rfl) (by rfl) _⟩

/-- Settles O33: the four forms by their addressing modes. -/
theorem loadToPc : Obligations.LoadToPc := by
  unfold Obligations.LoadToPc
  exact ⟨loadsPc_of_load exec_ldrImmPre, loadsPc_of_load exec_ldrImmPost, loadsPc_of_load exec_ldrRegPre,
    loadsPc_of_load exec_ldrRegPost⟩

end Sys2Proof.Proofs
end

section
/-! SUPPORT. Block loads with no aborts (R281, R282, R288): the n-th listed register takes the n-th word, whatever else
the list holds, and the base is written before the registers. -/

namespace Sys2Proof.Proofs

open Sys2Proof.Machine

/-! ### The list -/

/-- Ranks number the listed registers from 0 up. -/
theorem ranks_filter (p : Nat → Bool) (n : Nat) :
    ((List.range n).filter p).map (fun k => ((List.range k).filter p).length) =
      List.range ((List.range n).filter p).length := by
  induction n with
  | zero => rfl
  | succ n ih =>
    cases hp : p n with
    | false => simpa [List.range_succ, List.filter_append, hp] using ih
    | true => simpa [List.range_succ, List.filter_append, hp] using ih

theorem length_listRegs (list : BitVec 16) : (listRegs list).length = Claims.count list := by
  simp [listRegs, Claims.count]

theorem mem_listRegs_iff (list : BitVec 16) (n : Reg) : n ∈ listRegs list ↔ Claims.listed list n = true := by
  have small : n.toNat < 16 := n.isLt
  simp only [listRegs, List.mem_map, List.mem_filter, List.mem_range, Claims.listed]
  constructor
  · rintro ⟨i, ⟨hi, hbit⟩, rfl⟩
    simpa [Nat.mod_eq_of_lt hi] using hbit
  · intro h
    exact ⟨n.toNat, ⟨small, h⟩, by simp⟩

/-- The ranks of the listed registers, in their order. -/
theorem map_rank_listRegs (list : BitVec 16) :
    (listRegs list).map (Claims.rank list) = List.range (Claims.count list) := by
  rw [Claims.count, ← ranks_filter, listRegs, List.map_map]
  refine List.map_congr_left fun i hi => ?_
  have small : i < 16 := List.mem_range.mp (List.mem_of_mem_filter hi)
  simp [Claims.rank, Nat.mod_eq_of_lt small]

/-- r15 is the last of a list that holds it. -/
theorem getLast?_listRegs {list : BitVec 16} (h : Claims.listed list 15#4 = true) :
    (listRegs list).getLast? = some 15#4 := by
  have top : list.getLsbD 15 = true := h
  simp [listRegs, List.range_succ (n := 15), List.filter_append, top]

theorem mode4_eq (p u : Bool) (n : Nat) (base : Word) :
    mode4 p u n base = (Claims.firstAddress p u base n, Claims.newBase u base n) := by
  cases p <;> cases u <;> rfl

/-! ### The words -/

theorem wordsAt_succ (s : State) (a : Word) (n : Nat) :
    Claims.wordsAt s a (n + 1) = s.mem.word s.cfg.bigEnd (align4 a) :: Claims.wordsAt s (a + 4#32) n := by
  have next (i : Nat) : a + 4#32 * BitVec.ofNat 32 (i + 1) = a + 4#32 + 4#32 * BitVec.ofNat 32 i := by
    rw [BitVec.ofNat_add, BitVec.mul_add, BitVec.add_comm (4#32 * _), BitVec.add_assoc]
    rfl
  simp [Claims.wordsAt, List.range_succ_eq_map, next]

/-- A burst reads the words in order and adds its cycles to the bus record (R288). -/
theorem readWords_of_calm {s : State} (hcalm : Claims.calm s) (hab : Claims.noAborts s) (n : Nat) (a : Word)
    (seq : Bool) (b : BitVec 4) :
    ∃ bus, readWords n s a seq b = ((Claims.wordsAt s a n).map some, { s with bus := bus }) := by
  induction n generalizing s a seq with
  | zero => exact ⟨s.bus, rfl⟩
  | succ n ih =>
    obtain ⟨bus, hrest⟩ := ih
      (s := { s with bus := s.bus ++ [s.cycle ⟨a, .word, false, seq, decide (0 < n), false, b⟩ false 0] })
      hcalm hab (a + 4#32) true
    refine ⟨bus, ?_⟩
    rw [readWords, dataRead_of_calm hcalm hab, wordsAt_succ]
    dsimp only
    rw [hrest]
    rfl

theorem wordsAt_listRegs (s : State) (first : Word) (list : BitVec 16) :
    Claims.wordsAt s first (Claims.count list) = (listRegs list).map (Claims.slotWord s first list) := by
  rw [Claims.wordsAt, ← map_rank_listRegs, List.map_map]
  rfl

/-! ### The registers -/

/-- Each register takes its word, and every other one of every bank is as before. -/
theorem loadRegs_map (m : Mode) (f : Reg → Word) (ns : List Reg) (s : State) :
    ∃ regs, loadRegs m ns (ns.map fun n => some (f n)) s = { s with regs := regs } ∧
      (∀ n ∈ ns, n ≠ 15#4 → regs[physIx m n] = f n) ∧
      (∀ i : Fin 30, (∀ n ∈ ns, n ≠ 15#4 → physIx m n ≠ i) → regs[i] = s.regs[i]) := by
  induction ns generalizing s with
  | nil => exact ⟨s.regs, rfl, fun n hn => (List.not_mem_nil hn).elim, fun i _ => rfl⟩
  | cons n ns ih =>
    obtain ⟨regs, hload, hin, hout⟩ := ih (if n = 15#4 then s else s.setBankReg m n (f n))
    refine ⟨regs, ?_, fun k hk hk15 => ?_, fun i hi => ?_⟩
    · rw [List.map_cons, loadRegs, hload]
      split <;> rfl
    · by_cases again : k ∈ ns
      · exact hin k again hk15
      · obtain rfl : k = n := (List.mem_cons.mp hk).resolve_right again
        have last := hout (physIx m k) fun j hj hj15 e => again ((physIx_inj m j k hj15 hk15).mp e ▸ hj)
        simpa [hk15] using last
    · have before := hout i fun j hj => hi j (List.mem_cons_of_mem n hj)
      by_cases hn : n = 15#4
      · simpa [hn] using before
      · have other : (physIx m n).val ≠ i.val := fun e => hi n List.mem_cons_self hn (Fin.ext e)
        simpa [hn, other] using before

/-- With every word read, the base is written, then the registers (R282). -/
theorem finishLoad_of_words (s : State) {bus : List BusCycle} (m : Mode) (u w : Bool) {rn : Reg} (hn : rn ≠ 15#4)
    (n : Nat) (ns : List Reg) (f : Reg → Word) (finish : State → Word → State) :
    s.finishLoad m rn (if w then some (Claims.newBase u (s.reg rn) n) else none) ns
        (ns.map fun k => some (f k), { s with bus := bus }) finish =
      finish (loadRegs m ns (ns.map fun k => some (f k)) { s with regs := Claims.blockBase s w u rn n, bus := bus })
        (((ns.map fun k => some (f k)).getLast?.getD none).getD 0) := by
  have served : (ns.map fun k => some (f k)).all Option.isSome = true := by simp
  unfold State.finishLoad
  dsimp only
  rw [if_pos served]
  cases w with
  | false => rfl
  | true =>
    rw [if_pos rfl]
    dsimp only
    rw [setReg_of_ne_pc _ hn]
    rfl

/-- The words in the registers over the base's new value, which a listed base does not keep. -/
theorem blockLoaded_of_regs {s t : State} {u w : Bool} {rn : Reg} {m : Mode} {list : BitVec 16} {first : Word}
    (n : Nat) (hn : rn ≠ 15#4) (hm : w = true → m = s.mode)
    (hin : ∀ k ∈ listRegs list, k ≠ 15#4 → t.regs[physIx m k] = Claims.slotWord s first list k)
    (hout : ∀ i : Fin 30, (∀ k ∈ listRegs list, k ≠ 15#4 → physIx m k ≠ i) →
      t.regs[i] = (Claims.blockBase s w u rn n)[i]) :
    Claims.blockLoaded s t m list first
      (if w && !Claims.listed list rn then some (rn, Claims.newBase u (s.reg rn) n) else none) := by
  simp only [mem_listRegs_iff] at hin hout
  refine ⟨fun k h15 hk => hin k hk h15, ?base, fun i hi hbase => ?rest⟩
  case base =>
    intro b hb hlisted
    obtain ⟨⟨rfl, -⟩, rfl⟩ : (w = true ∧ Claims.listed list rn = false) ∧ (rn, Claims.newBase u (s.reg rn) n) = b := by
      simpa using hb
    obtain rfl := hm rfl
    have kept := hout (physIx s.mode rn) fun k hk h15 e => by
      obtain rfl := (physIx_inj s.mode k rn h15 hn).mp e
      exact Bool.false_ne_true (hlisted.symm.trans hk)
    simpa [Claims.blockBase] using kept
  case rest =>
    rw [hout i fun k hk h15 => hi k h15 hk]
    cases w with
    | false => rfl
    | true =>
      obtain rfl := hm rfl
      have other : physIx s.mode rn ≠ i := by
        cases hl : Claims.listed list rn with
        | true => exact hi rn hn hl
        | false => exact hbase (rn, Claims.newBase u (s.reg rn) n) (by simp [hl])
      simp [Claims.blockBase, Fin.val_ne_of_ne other]

/-- A block load into bank `m`: the registers by the list, then `finish` with the last word. -/
theorem loadMultiple_of_calm {s : State} (hcalm : Claims.calm s) (hab : Claims.noAborts s) {rn : Reg}
    (hn : rn ≠ 15#4) (p u : Bool) {w : Bool} (list : BitVec 16) {m : Mode} (hm : w = true → m = s.mode)
    (finish : State → Word → State) {first : Word}
    (hf : first = Claims.firstAddress p u (s.reg rn) (Claims.count list)) :
    ∃ regs bus last, s.loadMultiple m p u w rn (listRegs list) finish =
        finish { s with regs := regs, bus := bus } last ∧
      (∀ t : State, t.regs = regs → Claims.blockLoaded s t m list first
        (if w && !Claims.listed list rn then some (rn, Claims.newBase u (s.reg rn) (Claims.count list)) else none)) ∧
      (Claims.listed list 15#4 = true → last = Claims.slotWord s first list 15#4) := by
  obtain ⟨bus, hread⟩ := readWords_of_calm hcalm hab (Claims.count list) first false
    (burstLength (Claims.count list))
  rw [wordsAt_listRegs, List.map_map] at hread
  obtain ⟨regs, hload, hin, hout⟩ := loadRegs_map m (Claims.slotWord s first list) (listRegs list)
    { s with regs := Claims.blockBase s w u rn (Claims.count list), bus := bus }
  refine ⟨regs, bus, (((listRegs list).map fun k => some (Claims.slotWord s first list k)).getLast?.getD none).getD 0,
    ?_, ?_, ?_⟩
  · rw [State.loadMultiple, State.readList, length_listRegs, mode4_eq, ← hf]
    dsimp only
    rw [hread]
    exact (finishLoad_of_words s m u w hn _ _ _ finish).trans (congrArg (finish · _) hload)
  · rintro t rfl
    exact blockLoaded_of_regs _ hn hm hin hout
  · intro h15
    simp [List.getLast?_map, getLast?_listRegs h15]

end Sys2Proof.Proofs
end

section
/-! PROOF. UNPREDICTABLE forms that run (93; entry 3): each by the meaning it shares with the forms that are defined. -/

namespace Sys2Proof.Proofs

open Sys2Proof.Machine

/-! ### Multiplies with coinciding registers -/

theorem low_ne_pc : ∀ r : LowReg, low r ≠ 15#4 := by decide

theorem advance_of_thumb {s : State} (ht : s.thumb = true) : s.advance = { s with pc := s.pc + 2#32 } := by
  simp [State.advance, State.nextPc, State.instrSize, ht]

theorem thumbMulResult_of_thumb {s : State} (ht : s.thumb = true) (o : TAluOps) : Claims.thumbMulResult o s := by
  have thumb (v : Word) : ((s.setReg (low o.rd) v).setCpsr (setPsrNZ s.cpsr v)).thumb = true :=
    (psrT_setPsrNZ s.cpsr v).trans ht
  rw [Claims.thumbMulResult, exec_tMul, execTMul, thumbResult, advance_of_thumb (thumb _),
    setReg_of_ne_pc s (low_ne_pc o.rd), setPsrNZ_eq]
  rfl

theorem multiplyAlternatives : Claims.multiplyAlternatives := by
  refine ⟨fun o s hc ht hd hs hdm => ?mul, fun o s hc ht hd hn hs hdm => ?mla,
    fun r hr o s hc ht hhi hlo hs hm _ => ?long, fun o s hc ht hhi hs hm heq => ?smlal, fun o s ht _ => ?thumb⟩
  case mul => exact mulResult_of_noPc hc ht hd hs (hdm ▸ hd)
  case mla => exact mlaResult_of_noPc hc ht hd hn hs (hdm ▸ hd)
  case long => exact longResult_of_noPc (longRows_meaning r hr) hc ht hhi hlo hs hm
  case smlal => exact smlalResult_of_noPc hc ht hhi (heq ▸ hhi) hs hm
  case thumb => exact thumbMulResult_of_thumb ht o

/-! ### Results for r15 -/

/-- Without an SPSR an exception return keeps the CPSR (U10's alternative). -/
theorem exceptionReturn_eq (s : State) (v : Word) : s.exceptionReturn v = { s with
    cpsr := (s.spsrOf s.mode).getD s.cpsr
    pc := alignPc (psrT ((s.spsrOf s.mode).getD s.cpsr)) v, fetchQ := [] } := by
  unfold State.exceptionReturn State.spsr
  cases s.spsrOf s.mode <;> rfl

theorem toPcOtherwise_of_writeResult {i : Instr} {f : Bool} {s : State} {r : Word × Word}
    (h : exec i s = .next (s.writeResult f 15#4 r)) (ht : s.thumb = false) : Claims.toPcOtherwise i f s r.1 := by
  have arm : psrT s.cpsr = false := ht
  rintro (⟨rfl, -⟩ | ⟨rfl, hspsr⟩)
  · rw [h, writeResult_pc, ht]
    rfl
  · have restores : s.writeResult true 15#4 r = s.exceptionReturn r.1 := rfl
    rw [h, restores, exceptionReturn_eq, hspsr, Option.getD_none, arm]
    rfl

section
variable {op : AluOp} {a : Claims.AluSpec} (hop : Implements op a) {i : Instr} {c : Cond} {f : Bool} {rn rd : Reg}
  {b : State → Shifted} {s : State} (hc : condPassed c s.cpsr = true) (ht : s.thumb = false) (hd : rd = 15#4)
include hop hc ht hd

theorem toPcOtherwise_of_dataProcessing (h : exec i s = dataProcessing op c f rn rd b s) :
    Claims.toPcOtherwise i f s (a.value (s.reg rn) (b s).value (psrC s.cpsr)) := by
  rw [dataProcessing_of_passed hc, hd, hop] at h
  exact toPcOtherwise_of_writeResult h ht

theorem toPcOtherwise_of_dataMove (h : exec i s = dataMove op c f rd b s) :
    Claims.toPcOtherwise i f s (a.value 0 (b s).value (psrC s.cpsr)) := by
  rw [dataMove_of_passed hc, hd, hop] at h
  exact toPcOtherwise_of_writeResult h ht

end

/-! ### Branches -/

theorem linkExchange_of_not_exchangeable {v : Word} (h : ¬Claims.exchangeable v) (s : State) (link : Word) :
    (s.setReg 14#4 link).branchExchange v = { s with
      regs := s.regs.set (physIx s.mode 14#4) link
      cpsr := setPsrT s.cpsr false, pc := align4 v, fetchQ := [] } := by
  rw [branchExchange_of_not_exchangeable h, setReg_of_ne_pc s (by decide)]

theorem branchAlternatives : Claims.branchAlternatives := by
  refine ⟨fun o s hc ht hx => ⟨?bx, fun hm => ?blxReg⟩, fun o s ht hx => ⟨?tBx, fun hm => ?tBlxReg⟩,
    fun r hr o s hc ht hd => ?aluImm, fun r hr o s hc ht hd => ?aluShift, fun r hr o s hc ht hd => ?movImm,
    fun r hr o s hc ht hd => ?movShift⟩
  case bx => rw [exec_bx, execBx_of_passed hc, branchExchange_of_not_exchangeable hx, setPsrT_of_eq ht]
  case blxReg => rw [exec_blxReg, execBlxReg_of_passed hc hm, linkExchange_of_not_exchangeable hx, setPsrT_of_eq ht]
  case tBx => rw [exec_tBx, execTBx, branchExchange_of_not_exchangeable hx, setPsrT_false]
  case tBlxReg =>
    rw [exec_tBlxReg, execTBlxReg, if_neg hm, linkExchange_of_not_exchangeable hx, setPsrT_false]
    rfl
  case aluImm =>
    obtain ⟨op, hop, himm, -, -⟩ := aluRows_meaning r hr
    exact toPcOtherwise_of_dataProcessing hop hc ht hd (himm o s)
  case aluShift =>
    obtain ⟨op, hop, -, hshift, -⟩ := aluRows_meaning r hr
    exact toPcOtherwise_of_dataProcessing hop hc ht hd (hshift o s)
  case movImm =>
    obtain ⟨op, hop, himm, -, -⟩ := movRows_meaning r hr
    exact toPcOtherwise_of_dataMove hop hc ht hd (himm o s)
  case movShift =>
    obtain ⟨op, hop, -, hshift, -⟩ := movRows_meaning r hr
    exact toPcOtherwise_of_dataMove hop hc ht hd (hshift o s)

/-! ### MRS and MSR without an SPSR -/

section
variable {s : State} (hspsr : s.spsrOf s.mode = none)
include hspsr

theorem writePsr_of_noSpsr (m : BitVec 4) (v : Word) : s.writePsr true m v = s := by
  have none : s.spsr = none := hspsr
  simp [State.writePsr, none]

theorem execMrs_of_noSpsr {o : MrsOps} (hc : condPassed o.cond s.cpsr = true) (hd : o.rd ≠ 15#4) (hs : o.spsr = true) :
    execMrs o s = .next (s.draw.2.setReg o.rd s.draw.1).advance := by
  have none : s.spsr = none := hspsr
  simp [execMrs, ifPassed_of_passed hc, hd, hs, none]

end

theorem spsrAlternatives : Claims.spsrAlternatives := by
  refine ⟨fun o s hc ht hd hs hspsr => ?mrs, fun o s hc ht hs hspsr => ?msrImm,
    fun o s hc ht hm hs hspsr => ?msrReg⟩
  case mrs =>
    rw [exec_mrs, execMrs_of_noSpsr hspsr hc hd hs, setReg_advance (by simpa using ht) hd]
    rfl
  case msrImm =>
    rw [exec_msrImm, execMsrImm, ifPassed_of_passed hc, hs, writePsr_of_noSpsr hspsr, advance_of_arm ht]
  case msrReg =>
    rw [exec_msrReg, execMsrReg, ifPassed_of_passed hc, if_neg hm, hs, writePsr_of_noSpsr hspsr, advance_of_arm ht]

/-! ### LDM (1) and LDM (3) -/

theorem ne_zero_of_listed {list : BitVec 16} {n : Reg} (h : Claims.listed list n = true) : list ≠ 0#16 := by
  rintro rfl
  simp [Claims.listed] at h

/-- The list of LDM (3) holds r15 (R284). -/
theorem listed_pc_append (l : BitVec 15) : Claims.listed (0b1#1 ++ l : BitVec 16) 15#4 = true := by
  have top : (0b1#1 ++ l).getLsbD 15 = true := by rw [BitVec.getLsbD_append]; rfl
  exact top

theorem contains_listRegs (list : BitVec 16) (n : Reg) : (listRegs list).contains n = Claims.listed list n := by
  rw [Bool.eq_iff_iff, List.contains_iff_mem, mem_listRegs_iff]

/-- After the registers the pc is loaded, or the next instruction follows (R282). -/
theorem loadPcLast_spec {s : State} (ht : s.thumb = false) (regs : Vector Word 30) (bus : List BusCycle)
    (list : BitVec 16) {last v : Word} (hlast : Claims.listed list 15#4 = true → last = v) :
    ∃ t, loadPcLast (listRegs list) { s with regs := regs, bus := bus } last = t ∧ Claims.onlyRegs s t ∧
      t.regs = regs ∧
      (if Claims.listed list 15#4 then Claims.loadedPc s t v else t.pc = s.pc + 4#32 ∧ t.cpsr = s.cpsr) := by
  unfold loadPcLast
  rw [contains_listRegs]
  cases hl : Claims.listed list 15#4 with
  | true =>
    obtain rfl := hlast hl
    exact ⟨_, rfl, onlyRegs_loadPc .., State.loadPc_regs .., loadedPc_loadPc (by rfl) (by rfl) _⟩
  | false =>
    exact ⟨_, advance_of_arm ht, onlyRegs_of_eq rfl, rfl, rfl, rfl⟩

/-- The SPSR restored where there is one, and the pc aligned for the state it restores (R284). -/
theorem exceptionReturn_spec (s : State) (regs : Vector Word 30) (bus : List BusCycle) (v : Word) :
    ∃ t, State.exceptionReturn { s with regs := regs, bus := bus } v = t ∧ Claims.onlyRegs s t ∧ t.regs = regs ∧
      t.cpsr = (s.spsrOf s.mode).getD s.cpsr ∧ t.pc = (if psrT t.cpsr then align2 else align4) v := by
  refine ⟨_, exceptionReturn_eq .., onlyRegs_of_eq rfl, rfl, rfl, ?_⟩
  unfold alignPc
  split <;> rfl

/-- LDM (1), the base written back unless its loaded word wins (R282; entry 3). -/
theorem ldm1_of_calm {o : LdmOps} {s : State} (hc : condPassed o.cond s.cpsr = true) (ht : s.thumb = false)
    (hcalm : Claims.calm s) (hab : Claims.noAborts s) (hlist : o.list ≠ 0#16) (hn : o.rn ≠ 15#4) {first : Word}
    (hf : first = Claims.firstAddress o.p o.u (s.reg o.rn) (Claims.count o.list)) :
    ∃ t, exec (.ldm1 o) s = .next t ∧ Claims.onlyRegs s t ∧
      Claims.blockLoaded s t s.mode o.list first
        (if o.w && !Claims.listed o.list o.rn then
          some (o.rn, Claims.newBase o.u (s.reg o.rn) (Claims.count o.list)) else none) ∧
      (if Claims.listed o.list 15#4 then Claims.loadedPc s t (Claims.slotWord s first o.list 15#4)
        else t.pc = s.pc + 4#32 ∧ t.cpsr = s.cpsr) := by
  have allowed : ¬multipleRefused o.rn (listRegs o.list) = true := by simp [multipleRefused_iff, hlist, hn]
  obtain ⟨regs, bus, last, hload, hregs, hlast⟩ :=
    loadMultiple_of_calm hcalm hab hn o.p o.u (w := o.w) o.list (fun _ => rfl) (loadPcLast (listRegs o.list)) hf
  obtain ⟨t, hfinish, honly, heq, hpc⟩ := loadPcLast_spec ht regs bus o.list hlast
  refine ⟨t, ?_, honly, hregs t heq, hpc⟩
  rw [exec_ldm1, execLdm1, ifPassed_of_passed hc, if_neg allowed, hload, hfinish]

/-- LDM (3), with the SPSR restored where there is one (R284; entry 3). -/
theorem ldm3_of_calm {o : Ldm15Ops} {s : State} (hc : condPassed o.cond s.cpsr = true)
    (hcalm : Claims.calm s) (hab : Claims.noAborts s) (hn : o.rn ≠ 15#4) {list : BitVec 16}
    (hlist : list = 0b1#1 ++ o.list) {first : Word}
    (hf : first = Claims.firstAddress o.p o.u (s.reg o.rn) (Claims.count list)) :
    ∃ t, exec (.ldm3 o) s = .next t ∧ Claims.onlyRegs s t ∧
      Claims.blockLoaded s t s.mode list first
        (if o.w && !Claims.listed list o.rn then
          some (o.rn, Claims.newBase o.u (s.reg o.rn) (Claims.count list)) else none) ∧
      t.cpsr = (s.spsrOf s.mode).getD s.cpsr ∧
      t.pc = (if psrT t.cpsr then align2 else align4) (Claims.slotWord s first list 15#4) := by
  have hpc : Claims.listed list 15#4 = true := hlist ▸ listed_pc_append o.list
  have allowed : ¬multipleRefused o.rn (listRegs list) = true := by
    simp [multipleRefused_iff, ne_zero_of_listed hpc, hn]
  obtain ⟨regs, bus, last, hload, hregs, hlast⟩ :=
    loadMultiple_of_calm hcalm hab hn o.p o.u (w := o.w) list (fun _ => rfl) (fun t last => t.exceptionReturn last) hf
  obtain rfl := hlast hpc
  obtain ⟨t, hfinish, honly, heq, hstatus⟩ := exceptionReturn_spec s regs bus (Claims.slotWord s first list 15#4)
  refine ⟨t, ?_, honly, hregs t heq, hstatus⟩
  rw [exec_ldm3, execLdm3, ifPassed_of_passed hc, ← hlist, if_neg allowed, hload, hfinish]

theorem blockAlternatives : Claims.blockAlternatives := by
  refine ⟨fun o s first hc ht hcalm hab hn hw hbase hf => ?ldm1,
    fun o s list first hc _ hcalm hab hn hlist hf _ => ldm3_of_calm hc hcalm hab hn hlist hf⟩
  case ldm1 =>
    obtain ⟨t, hexec, honly, hloaded, hpc⟩ := ldm1_of_calm hc ht hcalm hab (ne_zero_of_listed hbase) hn hf
    rw [hw, hbase] at hloaded
    exact ⟨t, hexec, honly, hloaded, hpc⟩

/-! ### Swaps -/

/-- The read, then the write, then Rd (R292). -/
theorem swap_of_calm {s : State} (ht : s.thumb = false) (hcalm : Claims.calm s) (hab : Claims.noAborts s) (k : LoadKind)
    (rn rm : Reg) {rd : Reg} (hd : rd ≠ 15#4) :
    s.swap k rn rd rm = { s with
      mem := s.mem.write s.cfg.bigEnd k.size (s.reg rn) (s.reg rm)
      imem := if s.cfg.reachesCode (s.reg rn) then s.imem.write s.cfg.bigEnd k.size (s.reg rn) (s.reg rm) else s.imem
      regs := s.regs.set (physIx s.mode rd) (Claims.loadedValue s k (s.reg rn))
      pc := s.pc + 4#32
      bus := s.bus ++ [s.cycle (Req.locked (s.reg rn) k.size) false 0,
        s.cycle (Req.locked (s.reg rn) k.size) true (k.size.replicate (s.reg rm))] } := by
  unfold State.swap
  dsimp only
  rw [dataRead_of_calm hcalm hab]
  dsimp only
  rw [dataWrite_of_calm (by exact hcalm) (by exact hab)]
  dsimp only
  rw [setReg_advance (by exact ht) hd, ← value_read, List.append_assoc]
  rfl

theorem swapFrame_of_passed {k : LoadKind} {o : SwpOps} {s : State} (hc : condPassed o.cond s.cpsr = true)
    (hn : o.rn ≠ 15#4) (hd : o.rd ≠ 15#4) (hm : o.rm ≠ 15#4) (hnd : o.rn ≠ o.rd) :
    swapFrame k o s = .next (s.swap k o.rn o.rd o.rm) := by
  simp [swapFrame, ifPassed_of_passed hc, hn.symm, hd.symm, hm.symm, hnd]

/-- Both swaps run the one frame (R292, R293). -/
theorem swaps_frame : ∀ r ∈ [(Instr.swp, LoadKind.word), (Instr.swpb, LoadKind.byte)], ∀ (o : SwpOps) (s : State),
    exec (r.1 o) s = swapFrame r.2 o s := by
  simp only [List.forall_mem_cons]
  exact ⟨exec_swp, exec_swpb, List.forall_mem_nil _⟩

theorem swapOfAddress : Claims.swapOfAddress := by
  intro r hr o s hc ht hcalm hab hwf hn hd hnd hnm
  have hm : o.rm ≠ 15#4 := hnm ▸ hn
  have run := (swaps_frame r hr o s).trans (swapFrame_of_passed hc hn hd hm hnd)
  rw [swap_of_calm ht hcalm hab r.2 o.rn o.rm hd, ← hnm] at run
  exact ⟨_, run, rfl, fun x => byte_write hwf ..⟩

/-- Settles O57: the five families. -/
theorem permittedAlternatives : Obligations.PermittedAlternatives := by
  unfold Obligations.PermittedAlternatives
  exact ⟨multiplyAlternatives, branchAlternatives, spsrAlternatives, blockAlternatives, swapOfAddress⟩

end Sys2Proof.Proofs
end

section
/-! SUPPORT. Data accesses with debug off that may abort (R67, R89, R249, D10): what a read and a write leave, and the
Data Abort and the Undefined exception as the spec writes their states. -/

namespace Sys2Proof.Proofs

open Sys2Proof.Machine

/-! ### Accesses -/

theorem dabort_eq (s : State) (acc : Access) (q : Req) :
    s.dabort acc q = Claims.abortsAt s acc q.size q.addr q.user := rfl

theorem cycle_plain (s : State) (a : Word) (z : Size) (user write : Bool) (data : Word) :
    s.cycle { Req.plain a z with user := user } write data =
      Claims.transfer s z a user write false false 0 data := rfl

theorem abortsAt_of_noAborts {s : State} (h : Claims.noAborts s) (acc : Access) (z : Size) (a : Word) (user : Bool) :
    Claims.abortsAt s acc z a user = false := h ..

section
variable {s : State} (hcalm : Claims.calm s)
include hcalm

theorem dataRead_of_off (q : Req) : s.dataRead q =
    (if Claims.abortsAt s .read q.size q.addr q.user then none else some (s.mem.read s.cfg.bigEnd q.size q.addr),
      { s with bus := s.bus ++ [s.cycle q false 0] }) := by
  unfold State.dataRead
  rw [scanned_of_calm hcalm, if_neg Bool.false_ne_true]
  dsimp only
  rw [observe_of_off hcalm.1]
  rfl

theorem dataWrite_of_served {q : Req} (h : Claims.abortsAt s .write q.size q.addr q.user = false) (v : Word) :
    s.dataWrite q v =
      (true, State.store { s with bus := s.bus ++ [s.cycle q true (q.size.replicate v)] } q.size q.addr v) := by
  simp [State.dataWrite, scanned_of_calm hcalm, observe_of_off hcalm.1, dabort_eq, h]

theorem dataWrite_of_aborted {q : Req} (h : Claims.abortsAt s .write q.size q.addr q.user = true) (v : Word) :
    s.dataWrite q v = (false, { s with bus := s.bus ++ [s.cycle q true (q.size.replicate v)] }) := by
  simp [State.dataWrite, scanned_of_calm hcalm, observe_of_off hcalm.1, dabort_eq, h]

end

/-! ### Exceptions with DBGEN LOW -/

theorem catches_of_off {s : State} (h : s.cfg.dbgen = false) (k : ExcKind) : s.catches k = false := by
  simp [State.catches, h]

/-- The Data Abort where no watchpoint is on its way (R462, R470). -/
theorem dataAbort_of_calm {s : State} (hcalm : Claims.calm s) (hwatch : s.dbg.watch = .idle) :
    s.dataAbort = Claims.abortedState s s.bus := by
  unfold State.dataAbort
  simp only [hwatch]
  rw [State.takeException, newCpsr_eq, catches_of_off hcalm.1]
  rfl

theorem undefinedInstr_of_off {s : State} (h : s.cfg.dbgen = false) : s.undefinedInstr = Claims.undefinedState s := by
  rw [State.undefinedInstr, State.takeException, newCpsr_eq, catches_of_off h]
  rfl

end Sys2Proof.Proofs
end

section
/-! SUPPORT. The single transfers as one family (R246 to R262, R411 to R427): which form runs which access, and what
each access leaves when it completes and when it aborts. -/

namespace Sys2Proof.Proofs

open Sys2Proof.Machine

/-! ### The forms -/

/-- LDR alone loads r15 (R250). -/
def loadsPc : LoadKind → Bool → Bool
  | .word, false => true
  | _, _ => false

/-- STR and STRT alone store r15 (R254, R262). -/
def storesPc : Size → Bool
  | .word => true
  | _ => false

/-- An ARM load form runs the single load of its kind under its condition. -/
def RunsLoad {Ops : Type} (c : Ops → Instr) (k : LoadKind) (user : Bool) (cond : Ops → Cond) (rn rd : Ops → Reg)
    (rm : Ops → Option Reg) (address : Ops → State → Addressed) : Prop :=
  ∀ o s, exec (c o) s = s.ifPassed (cond o) fun s =>
    loadSingle k (loadsPc k user) user (rn o) (rd o) (rm o) (address o s) s

/-- An ARM store form runs the single store of its size under its condition. -/
def RunsStore {Ops : Type} (c : Ops → Instr) (z : Size) (user : Bool) (cond : Ops → Cond) (rn rd : Ops → Reg)
    (rm : Ops → Option Reg) (address : Ops → State → Addressed) : Prop :=
  ∀ o s, exec (c o) s = s.ifPassed (cond o) fun s =>
    storeSingle z (storesPc z) user (rn o) (rd o) (rm o) (address o s) s

/-- A Thumb load form runs the single load of its kind into a low register. -/
def RunsThumbLoad {Ops : Type} (c : Ops → Instr) (k : LoadKind) (rd : Ops → LowReg) (address : Ops → State → Word) :
    Prop :=
  ∀ o s, exec (c o) s = thumbLoad k (rd o) (address o) s

/-- A Thumb store form runs the single store of its size from a low register. -/
def RunsThumbStore {Ops : Type} (c : Ops → Instr) (z : Size) (rd : Ops → LowReg) (address : Ops → State → Word) :
    Prop :=
  ∀ o s, exec (c o) s = thumbStore z (rd o) (address o) s

theorem singleLoads_run : Claims.singleLoads RunsLoad :=
  ⟨exec_ldrImmPre, exec_ldrbImmPre, exec_ldrImmPost, exec_ldrtImm, exec_ldrbImmPost, exec_ldrbtImm, exec_ldrRegPre,
    exec_ldrbRegPre, exec_ldrRegPost, exec_ldrtReg, exec_ldrbRegPost, exec_ldrbtReg⟩

theorem extraLoads_run : Claims.extraLoads RunsLoad :=
  ⟨exec_ldrhImm, exec_ldrsbImm, exec_ldrshImm, exec_ldrhReg, exec_ldrsbReg, exec_ldrshReg⟩

theorem singleStores_run : Claims.singleStores RunsStore :=
  ⟨exec_strImmPre, exec_strbImmPre, exec_strImmPost, exec_strtImm, exec_strbImmPost, exec_strbtImm, exec_strRegPre,
    exec_strbRegPre, exec_strRegPost, exec_strtReg, exec_strbRegPost, exec_strbtReg, exec_strhImm, exec_strhReg⟩

theorem thumbLoads_run : Claims.thumbLoads RunsThumbLoad :=
  ⟨exec_tLdrPc, exec_tLdrSp, exec_tLdrReg, exec_tLdrhReg, exec_tLdrbReg, exec_tLdrsbReg, exec_tLdrshReg, exec_tLdrImm,
    exec_tLdrhImm, exec_tLdrbImm⟩

theorem thumbStores_run : Claims.thumbStores RunsThumbStore :=
  ⟨exec_tStrSp, exec_tStrReg, exec_tStrhReg, exec_tStrbReg, exec_tStrImm, exec_tStrhImm, exec_tStrbImm⟩

/-! What follows from the meaning of one form holds of every form of its family. -/

theorem singleLoads_of_run {P : Claims.LoadClaim} (h : ∀ {Ops : Type} {c : Ops → Instr} {k : LoadKind} {user : Bool}
    {cond : Ops → Cond} {rn rd : Ops → Reg} {rm : Ops → Option Reg} {address : Ops → State → Addressed},
    RunsLoad c k user cond rn rd rm address → P c k user cond rn rd rm address) : Claims.singleLoads P := by
  obtain ⟨h1, h2, h3, h4, h5, h6, h7, h8, h9, h10, h11, h12⟩ := singleLoads_run
  exact ⟨h h1, h h2, h h3, h h4, h h5, h h6, h h7, h h8, h h9, h h10, h h11, h h12⟩

theorem extraLoads_of_run {P : Claims.LoadClaim} (h : ∀ {Ops : Type} {c : Ops → Instr} {k : LoadKind} {user : Bool}
    {cond : Ops → Cond} {rn rd : Ops → Reg} {rm : Ops → Option Reg} {address : Ops → State → Addressed},
    RunsLoad c k user cond rn rd rm address → P c k user cond rn rd rm address) : Claims.extraLoads P := by
  obtain ⟨h1, h2, h3, h4, h5, h6⟩ := extraLoads_run
  exact ⟨h h1, h h2, h h3, h h4, h h5, h h6⟩

theorem singleStores_of_run {P : Claims.StoreClaim} (h : ∀ {Ops : Type} {c : Ops → Instr} {z : Size} {user : Bool}
    {cond : Ops → Cond} {rn rd : Ops → Reg} {rm : Ops → Option Reg} {address : Ops → State → Addressed},
    RunsStore c z user cond rn rd rm address → P c z user cond rn rd rm address) : Claims.singleStores P := by
  obtain ⟨h1, h2, h3, h4, h5, h6, h7, h8, h9, h10, h11, h12, h13, h14⟩ := singleStores_run
  exact ⟨h h1, h h2, h h3, h h4, h h5, h h6, h h7, h h8, h h9, h h10, h h11, h h12, h h13, h h14⟩

theorem thumbLoads_of_run
    {P : {Ops : Type} → (Ops → Instr) → LoadKind → (Ops → LowReg) → (Ops → State → Word) → Prop}
    (h : ∀ {Ops : Type} {c : Ops → Instr} {k : LoadKind} {rd : Ops → LowReg} {address : Ops → State → Word},
      RunsThumbLoad c k rd address → P c k rd address) : Claims.thumbLoads P := by
  obtain ⟨h1, h2, h3, h4, h5, h6, h7, h8, h9, h10⟩ := thumbLoads_run
  exact ⟨h h1, h h2, h h3, h h4, h h5, h h6, h h7, h h8, h h9, h h10⟩

theorem thumbStores_of_run
    {P : {Ops : Type} → (Ops → Instr) → Size → (Ops → LowReg) → (Ops → State → Word) → Prop}
    (h : ∀ {Ops : Type} {c : Ops → Instr} {z : Size} {rd : Ops → LowReg} {address : Ops → State → Word},
      RunsThumbStore c z rd address → P c z rd address) : Claims.thumbStores P := by
  obtain ⟨h1, h2, h3, h4, h5, h6, h7⟩ := thumbStores_run
  exact ⟨h h1, h h2, h h3, h h4, h h5, h h6, h h7⟩

/-! ### No refusal -/

section
variable {rn rd : Reg} {rm : Option Reg} {a : Addressed} (hfree : Claims.baseFree a rn rd rm)
include hfree

theorem loadSingle_of_baseFree {pcOk : Bool} (hpc : rd = 15#4 → pcOk = true ∧ fld a.addr 0 2 = 0b00#2) (k : LoadKind)
    (user : Bool) (s : State) : loadSingle k pcOk user rn rd rm a s = .next (s.loadInto k user rn rd a) := by
  simp only [loadSingle, addressRefusal_of_baseFree hfree]
  rw [if_neg fun h => Bool.false_ne_true (h.2.symm.trans (hpc h.1).1), if_neg fun h => h.2 (hpc h.1).2]

theorem storeSingle_of_baseFree {pcOk : Bool} (hpc : rd = 15#4 → pcOk = true) (z : Size) (user : Bool) (s : State) :
    storeSingle z pcOk user rn rd rm a s = .next (s.storeFrom z user rn rd a) := by
  simp only [storeSingle, addressRefusal_of_baseFree hfree]
  rw [if_neg fun h => Bool.false_ne_true (h.2.symm.trans (hpc h.1))]

end

/-! ### The accesses -/

theorem storeReg_eq (s : State) (n : Reg) : s.storeReg n = Claims.storedReg s n := by
  unfold State.storeReg Claims.storedReg State.reg
  by_cases h : n = 15#4
  · rw [if_pos h, if_pos h]
    split <;> rfl
  · rw [if_neg h, if_neg h, if_neg h]

section
variable {s : State} (hcalm : Claims.calm s)
include hcalm

/-- A completed load: base, Rd, pc and the bus record (R249 to R260). -/
theorem loadInto_of_calm (hab : Claims.noAborts s) {rn rd : Reg} {rm : Option Reg} {a : Addressed}
    (hfree : Claims.baseFree a rn rd rm) (hd : rd ≠ 15#4) (k : LoadKind) (user : Bool) :
    s.loadInto k user rn rd a = Claims.loadNext s k user rn rd a := by
  unfold State.loadInto
  rw [dataRead_of_calm hcalm hab, cycle_plain]
  dsimp only
  rw [if_neg hd, writeBack_eq hfree, setReg_of_ne_pc _ hd]
  exact congrArg (fun v => State.advance { s with
    regs := (Claims.basedRegs s rn a).set (physIx s.mode rd) v
    bus := s.bus ++ [Claims.transfer s k.size a.addr user false false false 0 0] }) (value_read s k a.addr)

/-- A completed store: memory, base, pc and the bus record (R249, R254 to R262). -/
theorem storeFrom_of_calm (hab : Claims.noAborts s) {rn rd : Reg} {rm : Option Reg} {a : Addressed}
    (hfree : Claims.baseFree a rn rd rm) (z : Size) (user : Bool) :
    s.storeFrom z user rn rd a = Claims.storeNext s z user rn rd a
      (s.mem.write s.cfg.bigEnd z a.addr (Claims.storedReg s rd))
      (if s.cfg.reachesCode a.addr then s.imem.write s.cfg.bigEnd z a.addr (Claims.storedReg s rd) else s.imem) := by
  unfold State.storeFrom
  rw [dataWrite_of_calm hcalm hab, cycle_plain, storeReg_eq]
  dsimp only
  rw [if_pos rfl, writeBack_eq hfree]
  rfl

section
variable (hwatch : s.dbg.watch = .idle)
include hwatch

/-- An aborted load: the Data Abort, with nothing written before it (R249). -/
theorem loadInto_of_aborted {k : LoadKind} {user : Bool} {a : Addressed}
    (hab : Claims.abortsAt s .read k.size a.addr user = true) (rn rd : Reg) :
    s.loadInto k user rn rd a = Claims.abortedState s
      (s.bus ++ [Claims.transfer s k.size a.addr user false false false 0 0]) := by
  unfold State.loadInto
  rw [dataRead_of_off hcalm, cycle_plain, if_pos (by exact hab)]
  exact dataAbort_of_calm (by exact hcalm) (by exact hwatch)

/-- An aborted store: the Data Abort, memory as before (R249; entry 10). -/
theorem storeFrom_of_aborted {z : Size} {user : Bool} {a : Addressed}
    (hab : Claims.abortsAt s .write z a.addr user = true) (rn rd : Reg) :
    s.storeFrom z user rn rd a = Claims.abortedState s
      (s.bus ++ [Claims.transfer s z a.addr user true false false 0 (z.replicate (Claims.storedReg s rd))]) := by
  unfold State.storeFrom
  rw [dataWrite_of_aborted hcalm (by exact hab), cycle_plain, storeReg_eq]
  dsimp only
  rw [if_neg Bool.false_ne_true]
  exact dataAbort_of_calm (by exact hcalm) (by exact hwatch)

end

end

end Sys2Proof.Proofs
end

section
/-! PROOF. The single transfers and PLD (R246 to R262, R274): every form completes with its value, and every aborted one
takes the Data Abort. -/

namespace Sys2Proof.Proofs

open Sys2Proof.Machine

section
variable {Ops : Type} {c : Ops → Instr} {user : Bool} {cond : Ops → Cond} {rn rd : Ops → Reg}
  {rm : Ops → Option Reg} {address : Ops → State → Addressed}

/-! ### Completed transfers -/

theorem loads_of_run {k : LoadKind} (hrun : RunsLoad c k user cond rn rd rm address) :
    Claims.Loads c k user cond rn rd rm address := by
  intro o s hc _ hcalm hab hd hfree
  rw [hrun, ifPassed_of_passed hc, loadSingle_of_baseFree hfree fun h => absurd h hd,
    loadInto_of_calm hcalm hab hfree hd]

/-- The bytes of the store in both memories (R61, R92). -/
theorem storedInCode_write (s : State) (z : Size) (a v : Word) :
    Claims.storedInCode s z a v (if s.cfg.reachesCode a then s.imem.write s.cfg.bigEnd z a v else s.imem) := by
  refine ⟨fun h => if_neg (by simp [h]), fun h hwf x => ?_⟩
  rw [if_pos h]
  exact byte_write hwf ..

theorem storesPc_of_word {z : Size} {p : Prop} (h : p → z = .word) : p → storesPc z = true := by
  intro hp
  rw [h hp]
  rfl

theorem stores_of_run {z : Size} (hrun : RunsStore c z user cond rn rd rm address) :
    Claims.Stores c z user cond rn rd rm address := by
  intro o s hc _ hcalm hab hwf hpc hfree
  refine ⟨_, _, ?_, fun x => byte_write hwf .., storedInCode_write ..⟩
  rw [hrun, ifPassed_of_passed hc, storeSingle_of_baseFree hfree (storesPc_of_word hpc),
    storeFrom_of_calm hcalm hab hfree]

/-! ### Aborted transfers -/

theorem loadAborts_of_run {k : LoadKind} (hrun : RunsLoad c k user cond rn rd rm address) :
    Claims.LoadAborts c k user cond rn rd rm address := by
  intro o s hc _ hcalm hwatch hfree hpc hab
  have allowed : rd o = 15#4 → loadsPc k user = true ∧ fld (address o s).addr 0 2 = 0b00#2 := by
    intro hd
    obtain ⟨rfl, rfl, aligned⟩ := hpc hd
    exact ⟨rfl, aligned⟩
  rw [hrun, ifPassed_of_passed hc, loadSingle_of_baseFree hfree allowed, loadInto_of_aborted hcalm hwatch hab]

theorem storeAborts_of_run {z : Size} (hrun : RunsStore c z user cond rn rd rm address) :
    Claims.StoreAborts c z user cond rn rd rm address := by
  intro o s hc _ hcalm hwatch hfree hpc hab
  rw [hrun, ifPassed_of_passed hc, storeSingle_of_baseFree hfree (storesPc_of_word hpc),
    storeFrom_of_aborted hcalm hwatch hab]

end

theorem thumbLoadAborts_of_run {Ops : Type} {c : Ops → Instr} {k : LoadKind} {rd : Ops → LowReg}
    {address : Ops → State → Word} (hrun : RunsThumbLoad c k rd address) : Claims.ThumbLoadAborts c k rd address := by
  intro o s _ hcalm hwatch hab
  rw [hrun, thumbLoad, loadInto_of_aborted hcalm hwatch hab]
  rfl

theorem thumbStoreAborts_of_run {Ops : Type} {c : Ops → Instr} {z : Size} {rd : Ops → LowReg}
    {address : Ops → State → Word} (hrun : RunsThumbStore c z rd address) :
    Claims.ThumbStoreAborts c z rd address := by
  intro o s _ hcalm hwatch hab
  rw [hrun, thumbStore, storeFrom_of_aborted hcalm hwatch hab]
  rfl

/-! ### The statements -/

/-- Settles O30: each of the eighteen forms by the load it runs. -/
theorem armLoads : Obligations.ArmLoads := by
  unfold Obligations.ArmLoads
  exact ⟨singleLoads_of_run loads_of_run, extraLoads_of_run loads_of_run⟩

/-- Settles O31: each of the fourteen forms by the store it runs. -/
theorem singleStores : Obligations.SingleStores := by
  unfold Obligations.SingleStores
  exact singleStores_of_run stores_of_run

/-- The internal cycle of a preload (R93; entry 37). -/
def preloadCycle (s : State) (a : Word) : BusCycle :=
  { s.cycle (Req.plain a .byte) false 0 with request := false, spec := true }

theorem preload_eq (s : State) (a : Word) : s.preload a = { s with bus := s.bus ++ [preloadCycle s a] } := rfl

/-- Settles O35: the speculative internal cycle, then the next instruction. -/
theorem preloadHint : Obligations.PreloadHint := by
  unfold Obligations.PreloadHint
  refine ⟨fun o s ht => ?imm, fun o s ht hm => ?reg⟩
  case imm =>
    refine ⟨preloadCycle s (addOffset o.u (s.reg o.rn) (zext o.imm12)), rfl, rfl, rfl, rfl, ?_⟩
    rw [exec_pldImm, execPldImm, preload_eq, advance_of_arm (by exact ht)]
  case reg =>
    refine ⟨preloadCycle s (addOffset o.u (s.reg o.rn) (s.scaledOffset o.ty o.amount o.rm)), rfl, rfl, rfl, rfl, ?_⟩
    rw [exec_pldReg, execPldReg, if_neg hm, preload_eq, advance_of_arm (by exact ht)]

end Sys2Proof.Proofs
end

section
/-! SUPPORT. Bursts of words that may abort (R288, R290, D10; entries 10 and 15): a read answers each word whose own
access is served, a write stores exactly those, and every byte outside them is as before. -/

namespace Sys2Proof.Proofs

open Sys2Proof.Machine

/-! ### The addresses of a burst -/

theorem burstAddress_succ (a : Word) (i : Nat) :
    a + 4#32 * BitVec.ofNat 32 (i + 1) = a + 4#32 + 4#32 * BitVec.ofNat 32 i := by
  rw [BitVec.ofNat_add, BitVec.mul_add, BitVec.add_comm (4#32 * _), BitVec.add_assoc]
  rfl

theorem burstAddress_zero (a : Word) : a + 4#32 * BitVec.ofNat 32 0 = a := by simp

theorem align4_add_words (a y : Word) : align4 (a + 4#32 * y) = align4 a + 4#32 * y := by
  apply BitVec.eq_of_toNat_eq
  simp only [Laws.align4_toNat, BitVec.toNat_add, BitVec.toNat_mul, BitVec.toNat_ofNat]
  omega

theorem align4_align4 (a : Word) : align4 (align4 a) = align4 a := by
  rw [Laws.align4_eq_iff, Laws.align4_toNat]
  omega

/-- The bytes of the first word lie outside the later words of a burst that does not wrap onto itself (D8). -/
theorem firstWord_outside (a : Word) {i k : Nat} (hi : i + 1 < 2 ^ 30) (hk : k < 4) :
    4 ≤ (align4 a + BitVec.ofNat 32 k - align4 (a + 4#32 + 4#32 * BitVec.ofNat 32 i)).toNat := by
  rw [← burstAddress_succ, align4_add_words]
  have small : i + 1 < 2 ^ 32 := by omega
  simp only [BitVec.toNat_sub, BitVec.toNat_add, BitVec.toNat_mul, BitVec.toNat_ofNat, Nat.mod_eq_of_lt small]
  omega

theorem word_congr {m m' : Memory} {a : Word}
    (h : ∀ k < 4, m.byte (a + BitVec.ofNat 32 k) = m'.byte (a + BitVec.ofNat 32 k)) (big : Bool) :
    m.word big a = m'.word big a := by
  have h0 := h 0 (by decide)
  have h1 := h 1 (by decide)
  have h2 := h 2 (by decide)
  have h3 := h 3 (by decide)
  simp_all [Memory.word]

/-! ### Reads -/

/-- What a burst answers for word `i`: nothing where its access aborts. -/
def burstWord (s : State) (a : Word) (i : Nat) : Option Word :=
  if Claims.wordAborts s .read a i then none
  else some (s.mem.word s.cfg.bigEnd (align4 (a + 4#32 * BitVec.ofNat 32 i)))

theorem wordAborts_zero (s : State) (acc : Access) (a : Word) :
    Claims.wordAborts s acc a 0 = Claims.abortsAt s acc .word a false := by
  rw [Claims.wordAborts, burstAddress_zero]

theorem wordAborts_succ (s : State) (acc : Access) (a : Word) (i : Nat) :
    Claims.wordAborts s acc a (i + 1) = Claims.wordAborts s acc (a + 4#32) i := by
  rw [Claims.wordAborts, burstAddress_succ]
  rfl

theorem burstWord_zero (s : State) (a : Word) : burstWord s a 0 =
    if Claims.abortsAt s .read .word a false then none else some (s.mem.word s.cfg.bigEnd (align4 a)) := by
  rw [burstWord, wordAborts_zero, burstAddress_zero]

theorem burstWord_succ (s : State) (a : Word) (i : Nat) : burstWord s a (i + 1) = burstWord s (a + 4#32) i := by
  rw [burstWord, wordAborts_succ, burstAddress_succ]
  rfl

theorem burstWord_isSome (s : State) (a : Word) (i : Nat) :
    (burstWord s a i).isSome = !Claims.wordAborts s .read a i := by
  unfold burstWord
  cases Claims.wordAborts s .read a i <;> rfl

theorem readWords_of_off {s : State} (hcalm : Claims.calm s) (n : Nat) (a : Word) (seq : Bool) (b : BitVec 4) :
    ∃ bus, readWords n s a seq b = ((List.range n).map (burstWord s a), { s with bus := bus }) := by
  induction n generalizing s a seq with
  | zero => exact ⟨s.bus, rfl⟩
  | succ n ih =>
    obtain ⟨bus, hrest⟩ := ih
      (s := { s with bus := s.bus ++ [s.cycle ⟨a, .word, false, seq, decide (0 < n), false, b⟩ false 0] })
      hcalm (a + 4#32) true
    refine ⟨bus, ?_⟩
    have later : burstWord s a ∘ Nat.succ = burstWord s (a + 4#32) := funext (burstWord_succ s a)
    rw [readWords, dataRead_of_off hcalm, List.range_succ_eq_map, List.map_cons, List.map_map, later, burstWord_zero]
    dsimp only
    rw [hrest]
    rfl

/-- A burst with an aborted word has not been read whole. -/
theorem not_allSome_of_aborted {s : State} {a : Word} {n : Nat}
    (h : ∃ i, i < n ∧ Claims.wordAborts s .read a i = true) :
    ¬((List.range n).map (burstWord s a)).all Option.isSome = true := by
  obtain ⟨i, hi, hab⟩ := h
  simp only [List.all_map, List.all_eq_true, List.mem_range, Function.comp_apply, burstWord_isSome]
  intro served
  simpa [hab] using served i hi

/-! ### Writes -/

theorem keptOutside_mono {s t : State} {p q : Word → Prop} (h : Claims.keptOutside s t p)
    (hpq : ∀ b, p b → ∃ c, q c ∧ align4 c = align4 b) : Claims.keptOutside s t q := by
  have outside {x : Word} (out : ∀ c, q c → 4 ≤ (x - align4 c).toNat) : ∀ b, p b → 4 ≤ (x - align4 b).toNat := by
    intro b hb
    obtain ⟨c, hc, hbc⟩ := hpq b hb
    exact hbc ▸ out c hc
  exact ⟨fun x out => h.1 x (outside out), fun hwf x out => h.2 hwf x (outside out)⟩

theorem keptOutside_trans {s t u : State} {p : Word → Prop} (h : Claims.keptOutside s t p)
    (h' : Claims.keptOutside t u p) (hwf : s.imem.wf = true → t.imem.wf = true) : Claims.keptOutside s u p :=
  ⟨fun x out => (h'.1 x out).trans (h.1 x out), fun hs x out => (h'.2 (hwf hs) x out).trans (h.2 hs x out)⟩

/-- The byte outside an aligned word is as before a write of it. -/
theorem byte_write_outside {m : Memory} (h : m.wf = true) (big : Bool) (a v : Word) {x : Word}
    (hx : 4 ≤ (x - align4 a).toNat) : (m.write big .word a v).byte x = m.byte x := by
  have outside : ¬(x - Size.word.align a).toNat < sizeBytes .word := Nat.not_lt.mpr hx
  rw [byte_write h, storedByte_eq, if_neg outside, Option.getD_none]

theorem word_write_same {m : Memory} (h : m.wf = true) (big : Bool) (a v : Word) :
    (m.write big .word a v).word big (align4 a) = v := by
  have hread := read_write h big .word a v
  rwa [show 8 * sizeBytes .word = 32 from rfl, fld_full, zext, BitVec.setWidth_eq] at hread

theorem store_keptOutside {s : State} (hwf : s.mem.wf = true) (a v : Word) {p : Word → Prop} (ha : p a) :
    Claims.keptOutside s (s.store .word a v) p := by
  refine ⟨fun x out => byte_write_outside hwf _ _ _ (out a ha), fun hs x out => ?_⟩
  unfold State.store
  dsimp only
  split
  · exact byte_write_outside hs _ _ _ (out a ha)
  · rfl

/-- The addresses that a burst of `n` words from `a` stores to: those of the words whose access is served. -/
def servedAt (s : State) (a : Word) (n : Nat) (b : Word) : Prop :=
  ∃ i, i < n ∧ Claims.wordAborts s .write a i = false ∧ b = a + 4#32 * BitVec.ofNat 32 i

theorem servedAt_first {s : State} {a : Word} (h : Claims.abortsAt s .write .word a false = false) (n : Nat) :
    servedAt s a (n + 1) a :=
  ⟨0, Nat.succ_pos n, by rw [wordAborts_zero, h], (burstAddress_zero a).symm⟩

theorem servedAt_later {s : State} {a b : Word} {n : Nat} (h : servedAt s (a + 4#32) n b) :
    servedAt s a (n + 1) b := by
  obtain ⟨i, hi, served, rfl⟩ := h
  exact ⟨i + 1, Nat.succ_lt_succ hi, by rw [wordAborts_succ, served], (burstAddress_succ a i).symm⟩

/-- The memories `m` and `im` after the words of a burst were written from `a` on: each word whose access is served is
stored, and every byte outside those is as before. -/
structure BurstStored (s : State) (a : Word) (vs : List Word) (m im : Memory) : Prop where
  word : ∀ i, (h : i < vs.length) → Claims.wordAborts s .write a i = false →
    m.word s.cfg.bigEnd (align4 (a + 4#32 * BitVec.ofNat 32 i)) = vs[i]
  kept : Claims.keptOutside s { s with mem := m, imem := im } (servedAt s a vs.length)
  unsplit : s.cfg.split = false → im = s.imem

theorem burstStored_nil (s : State) (a : Word) : BurstStored s a [] s.mem s.imem where
  word i h := absurd h (Nat.not_lt_zero i)
  kept := ⟨fun _ _ => rfl, fun _ _ _ => rfl⟩
  unsplit _ := rfl

/-- The first word stored and the rest of the burst from the state after it. -/
theorem BurstStored.cons {s t : State} {a v : Word} {vs : List Word} {m im : Memory}
    (h : BurstStored t (a + 4#32) vs m im) (hcfg : t.cfg = s.cfg)
    (hserved : Claims.wordAborts t = Claims.wordAborts s)
    (first : Claims.abortsAt s .write .word a false = false → m.word s.cfg.bigEnd (align4 a) = v)
    (kept : Claims.keptOutside s t (servedAt s a (vs.length + 1)))
    (unsplit : s.cfg.split = false → t.imem = s.imem) (hwf : s.imem.wf = true → t.imem.wf = true) :
    BurstStored s a (v :: vs) m im := by
  refine ⟨fun i hi served => ?_, keptOutside_trans kept (keptOutside_mono h.kept fun b hb => ⟨b, ?_, rfl⟩) hwf,
    fun hs => (h.unsplit (hcfg ▸ hs)).trans (unsplit hs)⟩
  · cases i with
    | zero =>
      rw [wordAborts_zero] at served
      rw [burstAddress_zero]
      exact first served
    | succ i =>
      rw [wordAborts_succ, ← hserved] at served
      rw [burstAddress_succ, ← hcfg]
      exact h.word i (Nat.lt_of_succ_lt_succ hi) served
  · unfold servedAt at hb
    rw [hserved] at hb
    exact servedAt_later hb

/-- Is every word of a burst of `n` words served? -/
def allServed (s : State) (a : Word) (n : Nat) : Bool := (List.range n).all fun i => !Claims.wordAborts s .write a i

theorem allServed_succ (s : State) (a : Word) (n : Nat) :
    allServed s a (n + 1) = (!Claims.abortsAt s .write .word a false && allServed s (a + 4#32) n) := by
  have later : (fun i => !Claims.wordAborts s .write a i) ∘ Nat.succ =
      fun i => !Claims.wordAborts s .write (a + 4#32) i := funext fun i => by
    rw [Function.comp_apply, Nat.succ_eq_add_one, wordAborts_succ]
  rw [allServed, List.range_succ_eq_map, List.all_cons, List.all_map, later, wordAborts_zero]
  rfl

theorem allServed_eq_false {s : State} {a : Word} {n : Nat} (h : ∃ i, i < n ∧ Claims.wordAborts s .write a i = true) :
    allServed s a n = false := by
  obtain ⟨i, hi, hab⟩ := h
  rw [allServed, List.all_eq_false]
  exact ⟨i, List.mem_range.mpr hi, by simp [hab]⟩

theorem allServed_of_noAborts {s : State} (h : Claims.noAborts s) (a : Word) (n : Nat) : allServed s a n = true := by
  simp [allServed, Claims.wordAborts, abortsAt_of_noAborts h]

/-- A burst that does not wrap onto itself, whatever aborts: whether every word was served, and the memories. -/
theorem writeWords_of_off {s : State} (hcalm : Claims.calm s) (hwf : s.mem.wf = true) {vs : List Word}
    (hlen : vs.length ≤ 2 ^ 30) (a : Word) (seq : Bool) (b : BitVec 4) :
    ∃ m im bus, writeWords vs s a seq b =
      (allServed s a vs.length, { s with mem := m, imem := im, bus := bus }) ∧ BurstStored s a vs m im := by
  induction vs generalizing s a seq with
  | nil => exact ⟨s.mem, s.imem, s.bus, rfl, burstStored_nil s a⟩
  | cons v vs ih =>
    have hlen' : vs.length + 1 ≤ 2 ^ 30 := hlen
    rw [writeWords, List.length_cons, allServed_succ]
    cases hab : Claims.abortsAt s .write .word a false with
    | true =>
      rw [dataWrite_of_aborted hcalm (by exact hab)]
      dsimp only
      obtain ⟨m, im, bus, hrest, hstored⟩ := ih
        (s := { s with
          bus := s.bus ++ [s.cycle ⟨a, .word, false, seq, !vs.isEmpty, false, b⟩ true (Size.word.replicate v)] })
        hcalm hwf (by omega) (a + 4#32) true
      rw [hrest]
      refine ⟨m, im, bus, rfl, hstored.cons rfl rfl (fun h => ?_)
        ⟨fun _ _ => rfl, fun _ _ _ => rfl⟩ (fun _ => rfl) id⟩
      exact absurd (hab.symm.trans h) (by decide)
    | false =>
      rw [dataWrite_of_served hcalm (by exact hab)]
      dsimp only
      obtain ⟨m, im, bus, hrest, hstored⟩ := ih
        (s := State.store { s with
          bus := s.bus ++ [s.cycle ⟨a, .word, false, seq, !vs.isEmpty, false, b⟩ true (Size.word.replicate v)] }
          .word a v)
        hcalm (State.store_memWf hwf ..) (by omega) (a + 4#32) true
      rw [hrest]
      refine ⟨m, im, bus, by rw [Bool.not_false]; rfl, hstored.cons rfl rfl (fun _ => ?first)
        (store_keptOutside hwf a v (servedAt_first hab _)) (fun h => ?unreached) fun h => State.store_imemWf h ..⟩
      case first =>
        refine (word_congr (fun k hk => hstored.kept.1 _ ?_) _).trans (word_write_same hwf ..)
        rintro b ⟨i, hi, -, rfl⟩
        exact firstWord_outside a (by omega) hk
      case unreached =>
        have unreached : s.cfg.reachesCode a = false := by simp [Cfg.reachesCode, h]
        exact if_neg (by simp [unreached])

/-! ### What a burst leaves -/

/-- With no aborts every word is stored (R332). -/
theorem BurstStored.wordsStored {s t : State} {a : Word} {vs : List Word} (h : BurstStored s a vs t.mem t.imem)
    (hab : Claims.noAborts s) : Claims.wordsStored s t a vs := by
  refine ⟨fun i hi => h.word i hi (abortsAt_of_noAborts hab ..), keptOutside_mono (t := t) h.kept ?_⟩
  rintro b ⟨i, hi, -, rfl⟩
  exact ⟨_, ⟨i, hi, rfl⟩, rfl⟩

/-- A burst of writes with an aborted word ends in the Data Abort, the served words stored (R288). -/
theorem writeWords_of_aborted {s : State} (hcalm : Claims.calm s) (hwatch : s.dbg.watch = .idle)
    (hwf : s.mem.wf = true) {vs : List Word} (hlen : vs.length ≤ 2 ^ 30) {a : Word}
    (hab : ∃ i, i < vs.length ∧ Claims.wordAborts s .write a i = true) (seq : Bool) (b : BitVec 4) :
    ∃ t, (writeWords vs s a seq b).1 = false ∧ (writeWords vs s a seq b).2.dataAbort = t ∧
      t = { Claims.abortedState s t.bus with mem := t.mem, imem := t.imem } ∧ BurstStored s a vs t.mem t.imem := by
  obtain ⟨m, im, bus, hwrite, hstored⟩ := writeWords_of_off hcalm hwf hlen a seq b
  rw [hwrite, dataAbort_of_calm (by exact hcalm) (by exact hwatch)]
  exact ⟨_, allServed_eq_false hab, rfl, rfl, hstored⟩

end Sys2Proof.Proofs
end

section
/-! SUPPORT. The base restored before a Data Abort (R249, R272, R288): what the register file is then. -/

namespace Sys2Proof.Proofs

open Sys2Proof.Machine

theorem getElem_set_register (v : Vector Word 30) (i j : Fin 30) (x : Word) :
    (v.set i x)[j] = if i = j then x else v[j] := by
  simp [Vector.getElem_set, Fin.ext_iff]

theorem reg_of_ne_pc {n : Reg} (hn : n ≠ 15#4) (s : State) : s.reg n = s.regs[physIx s.mode n] := if_neg hn

/-- The register file `regs` with the base as `s` has it. -/
def restoredBase (s : State) (rn : Reg) (regs : Vector Word 30) : Vector Word 30 :=
  if rn = 15#4 then regs else regs.set (physIx s.mode rn) s.regs[physIx s.mode rn]

theorem restoredBase_of_ne_pc (s : State) {rn : Reg} (hn : rn ≠ 15#4) (regs : Vector Word 30) :
    restoredBase s rn regs = regs.set (physIx s.mode rn) s.regs[physIx s.mode rn] := if_neg hn

theorem restoredBase_self (s : State) (rn : Reg) : restoredBase s rn s.regs = s.regs := by
  by_cases hn : rn = 15#4
  · exact if_pos hn
  · rw [restoredBase_of_ne_pc s hn]
    exact Vector.set_getElem_self _

/-- A register written before the abort keeps its word, unless it is the base. -/
theorem restoredBase_set (s : State) {rn rd : Reg} (hd : rd ≠ 15#4) (w : Word) :
    restoredBase s rn (s.regs.set (physIx s.mode rd) w) =
      if rn = rd then s.regs else s.regs.set (physIx s.mode rd) w := by
  by_cases hn : rn = 15#4
  · rw [if_neg fun h => hd (h.symm.trans hn)]
    exact if_pos hn
  · rw [restoredBase_of_ne_pc s hn]
    by_cases h : rn = rd
    · rw [if_pos h, h, Vector.set_set]
      exact Vector.set_getElem_self _
    · have apart : (physIx s.mode rd).val ≠ (physIx s.mode rn).val := fun e =>
        h ((physIx_inj s.mode rd rn hd hn).mp (Fin.ext e)).symm
      have own : s.regs.set (physIx s.mode rn) s.regs[physIx s.mode rn] = s.regs := Vector.set_getElem_self _
      rw [if_neg h, Vector.set_comm _ _ apart, own]

theorem restoredBase_getElem (s : State) {rn : Reg} (hn : rn ≠ 15#4) (regs : Vector Word 30) (i : Fin 30) :
    (restoredBase s rn regs)[i] = if physIx s.mode rn = i then s.regs[i] else regs[i] := by
  rw [restoredBase_of_ne_pc s hn, getElem_set_register]
  split
  next h =>
    subst h
    rfl
  next => rfl

theorem dataAbort_restored {s : State} (hcalm : Claims.calm s) (hwatch : s.dbg.watch = .idle) (rn : Reg)
    (regs : Vector Word 30) (bus : List BusCycle) :
    (State.setReg { s with regs := regs, bus := bus } rn (s.reg rn)).dataAbort =
      { Claims.abortedState s bus with
        regs := (restoredBase s rn regs).set (physIx .abt 14#4) (s.pc + 8#32) } := by
  have restored : State.setReg { s with regs := regs, bus := bus } rn (s.reg rn) =
      { s with regs := restoredBase s rn regs, bus := bus } := by
    by_cases hn : rn = 15#4
    · rw [hn, State.setReg_pc_reg, restoredBase, if_pos rfl]
    · rw [setReg_of_ne_pc _ hn, reg_of_ne_pc hn, restoredBase_of_ne_pc s hn]
      rfl
  rw [restored, dataAbort_of_calm (by exact hcalm) (by exact hwatch)]
  rfl

end Sys2Proof.Proofs
end

section
/-! PROOF. LDRD and STRD (R272, R273): both words of an even register, the Undefined exception for an odd one, and the
Data Abort with the base restored. -/

namespace Sys2Proof.Proofs

open Sys2Proof.Machine

/-! ### No refusal -/

/-- The registers of a doubleword transfer that is not refused: an even Rd below r14, and a base written back that is
not r15, a register transferred or the offset (R272, R273). -/
structure DoubleFree (a : Addressed) (rn rd : Reg) (rm : Option Reg) : Prop where
  even : bitAt rd 0 = false
  notR14 : rd ≠ 14#4
  offset : rm ≠ some 15#4
  base : a.writeback.isSome = true → rn ≠ 15#4 ∧ rn ≠ rd ∧ rn ≠ rd + 1#4 ∧ rm ≠ some rn

section
variable {a : Addressed} {rn rd : Reg} {rm : Option Reg} (hfree : DoubleFree a rn rd rm)
include hfree

theorem DoubleFree.baseFree : Claims.baseFree a rn rd rm := by
  refine ⟨hfree.offset, fun hw => ?_⟩
  obtain ⟨h15, hrd, -, hrm⟩ := hfree.base hw
  exact ⟨h15, hrd, hrm⟩

theorem DoubleFree.ne_pc : rd ≠ 15#4 ∧ rd + 1#4 ≠ 15#4 := by
  have pair : ∀ d : Reg, bitAt d 0 = false → d ≠ 14#4 → d ≠ 15#4 ∧ d + 1#4 ≠ 15#4 := by decide
  exact pair rd hfree.even hfree.notR14

theorem DoubleFree.refusal {load : Bool} (hload : load = true → rm ≠ some rd ∧ rm ≠ some (rd + 1#4)) :
    doubleRefusal load a.writeback.isSome rn rd rm = none := by
  have noConflict : ¬(writebackConflict a.writeback.isSome rn rd rm || (a.writeback.isSome && decide (rn = rd + 1))) =
      true := by
    rw [doubleConflict_iff]
    rintro ⟨hw, h⟩
    obtain ⟨h15, hrd, hrd1, hrm⟩ := hfree.base hw
    rcases h with h | h | h | h
    exacts [h15 h, hrd h, hrd1 h, hrm h]
  have noOffset : ¬(load && (rm == some rd || rm == some (rd + 1))) = true := by
    simpa using hload
  unfold doubleRefusal
  rw [if_neg hfree.notR14, if_neg (by simpa using hfree.offset), if_neg noConflict, if_neg noOffset]

theorem loadDoubleword_of_free (hload : rm ≠ some rd ∧ rm ≠ some (rd + 1#4)) (s : State) :
    loadDoubleword rn rd rm a s = .next (s.loadDouble rn rd a) := by
  simp [loadDoubleword, hfree.even, hfree.refusal fun _ => hload]

theorem storeDoubleword_of_free (s : State) : storeDoubleword rn rd rm a s = .next (s.storeDouble rn rd a) := by
  simp [storeDoubleword, hfree.even, hfree.refusal (load := false) nofun]

end

/-! ### Completed transfers -/

theorem wordsAt_two (s : State) (a : Word) : Claims.wordsAt s a 2 =
    [s.mem.word s.cfg.bigEnd (align4 a), s.mem.word s.cfg.bigEnd (align4 (a + 4#32))] := by
  rw [wordsAt_succ, wordsAt_succ]
  rfl

/-- LDRD with both words read. -/
theorem loadDouble_of_words {s t : State} {a : Addressed} {w0 w1 : Word}
    (h : readWords 2 s a.addr false 0b0001#4 = ([some w0, some w1], t)) (rn rd : Reg) :
    s.loadDouble rn rd a = (((t.writeBack rn a).setReg rd w0).setReg (rd + 1#4) w1).advance := by
  unfold State.loadDouble
  rw [h]
  rfl

section
variable {s : State} (hcalm : Claims.calm s) (hab : Claims.noAborts s) {a : Addressed} {rn rd : Reg} {rm : Option Reg}
  (hfree : DoubleFree a rn rd rm)
include hcalm hab hfree

/-- LDRD: the base, then the two words, low register first (R272). -/
theorem loadDouble_of_calm (ht : s.thumb = false) : ∃ bus, s.loadDouble rn rd a = { s with
    regs := ((Claims.basedRegs s rn a).set (physIx s.mode rd)
      (s.mem.word s.cfg.bigEnd (align4 a.addr))).set (physIx s.mode (rd + 1#4))
      (s.mem.word s.cfg.bigEnd (align4 (a.addr + 4#32)))
    pc := s.pc + 4#32
    bus := bus } := by
  obtain ⟨bus, hread⟩ := readWords_of_calm hcalm hab 2 a.addr false 0b0001#4
  refine ⟨bus, ?_⟩
  rw [wordsAt_two] at hread
  rw [loadDouble_of_words hread, writeBack_eq hfree.baseFree, setReg_of_ne_pc _ hfree.ne_pc.1,
    setReg_of_ne_pc _ (by exact hfree.ne_pc.2), advance_of_arm (by exact ht)]
  rfl

/-- STRD: the two words, then the base (R273). -/
theorem storeDouble_of_calm (hwf : s.mem.wf = true) : ∃ t, s.storeDouble rn rd a = t ∧
    Claims.onlyStored s t (Claims.basedRegs s rn a) ∧
    Claims.wordsStored s t a.addr [s.reg rd, s.reg (rd + 1#4)] := by
  obtain ⟨m, im, bus, hwrite, hstored⟩ := writeWords_of_off hcalm hwf (vs := [s.reg rd, s.reg (rd + 1#4)])
    (Nat.le_of_ble_eq_true rfl) a.addr false 0b0001#4
  rw [allServed_of_noAborts hab] at hwrite
  refine ⟨_, ?_, ⟨?only, hstored.unsplit⟩, hstored.wordsStored (t := State.advance { s with
    mem := m, imem := im, regs := Claims.basedRegs s rn a, bus := bus }) hab⟩
  · unfold State.storeDouble
    rw [show writeWords [s.reg rd, s.reg (rd + 1)] s a.addr false 0b0001#4 = _ from hwrite]
    dsimp only
    rw [if_pos rfl, writeBack_eq hfree.baseFree]
    rfl
  · rfl

end

/-! ### Aborted transfers -/

/-- LDRD with a word missing: what was read before it stays if `ldrdKeeps`, and the base is restored. -/
theorem loadDouble_of_missing {s t : State} {a : Addressed} {ws : List (Option Word)}
    (h : readWords 2 s a.addr false 0b0001#4 = (ws, t)) (hws : ∀ w0 w1, ws ≠ [some w0, some w1]) (rn rd : Reg) :
    s.loadDouble rn rd a =
      ((if s.cfg.ldrdKeeps then loadRegs s.mode [rd, rd + 1#4] ws t else t).setReg rn (s.reg rn)).dataAbort := by
  unfold State.loadDouble
  rw [h]
  dsimp only
  split
  next w0 w1 => exact absurd rfl (hws w0 w1)
  next => rfl

/-- The registers an aborted LDRD leaves to the restoring of the base. -/
theorem loadRegs_aborted {s : State} {rd : Reg} (hd : rd ≠ 15#4) (bus : List BusCycle) (w0 w1 : Word) {x0 x1 : Bool}
    (h : (x0 || x1) = true) :
    (if s.cfg.ldrdKeeps then
        loadRegs s.mode [rd, rd + 1#4] [if x0 then none else some w0, if x1 then none else some w1]
          { s with bus := bus }
      else { s with bus := bus }) =
      { s with
        regs := if x0 = false ∧ s.cfg.ldrdKeeps = true then s.regs.set (physIx s.mode rd) w0 else s.regs
        bus := bus } := by
  by_cases hk : s.cfg.ldrdKeeps = true
  · rw [if_pos hk]
    cases x0 with
    | true => rfl
    | false =>
      obtain rfl : x1 = true := h
      rw [if_neg Bool.false_ne_true, if_pos rfl, loadRegs, if_neg hd, if_pos ⟨rfl, hk⟩]
      rfl
  · rw [if_neg hk, if_neg fun h => hk h.2]

section
variable {s : State} (hcalm : Claims.calm s) (hwatch : s.dbg.watch = .idle) {a : Addressed}
include hcalm hwatch

/-- An aborted LDRD: the first register if it was read and stays (R249, R272; entry 15). -/
theorem loadDouble_of_aborted {rn rd : Reg} (hd : rd ≠ 15#4)
    (hab : (Claims.abortsAt s .read .word a.addr false || Claims.abortsAt s .read .word (a.addr + 4#32) false) = true) :
    ∃ bus, s.loadDouble rn rd a = { Claims.abortedState s bus with
      regs := (if Claims.abortsAt s .read .word a.addr false = false ∧ s.cfg.ldrdKeeps = true ∧ rn ≠ rd then
          s.regs.set (physIx s.mode rd) (s.mem.word s.cfg.bigEnd (align4 a.addr))
        else s.regs).set (physIx .abt 14#4) (s.pc + 8#32) } := by
  obtain ⟨bus, hread⟩ := readWords_of_off hcalm 2 a.addr false 0b0001#4
  have words : (List.range 2).map (burstWord s a.addr) = [burstWord s a.addr 0, burstWord s (a.addr + 4#32) 0] := by
    rw [← burstWord_succ]
    rfl
  rw [words, burstWord_zero, burstWord_zero] at hread
  have base (w : Word) (p : Prop) [Decidable p] :
      restoredBase s rn (if p then s.regs.set (physIx s.mode rd) w else s.regs) =
        if p ∧ rn ≠ rd then s.regs.set (physIx s.mode rd) w else s.regs := by
    by_cases hp : p
    · simp [hp, restoredBase_set s hd]
    · simp [hp, restoredBase_self]
  refine ⟨bus, (loadDouble_of_missing hread (by grind) rn rd).trans ?_⟩
  rw [loadRegs_aborted hd bus _ _ hab, dataAbort_restored hcalm hwatch, base]
  simp only [and_assoc]

/-- An aborted STRD: each word whose own access is served is stored (R273, R288; entry 10). -/
theorem storeDouble_of_aborted (hwf : s.mem.wf = true) (rn rd : Reg) (hab : (Claims.abortsAt s .write .word a.addr false
      || Claims.abortsAt s .write .word (a.addr + 4#32) false) = true) :
    ∃ t, s.storeDouble rn rd a = t ∧ t = { Claims.abortedState s t.bus with mem := t.mem, imem := t.imem } ∧
      BurstStored s a.addr [s.reg rd, s.reg (rd + 1#4)] t.mem t.imem := by
  have aborted : ∃ i, i < 2 ∧ Claims.wordAborts s .write a.addr i = true := by
    rcases Bool.or_eq_true_iff.mp hab with h | h
    · exact ⟨0, by decide, by rw [wordAborts_zero, h]⟩
    · exact ⟨1, by decide, by rw [wordAborts_succ, wordAborts_zero, h]⟩
  obtain ⟨t, hfail, hwrite, ht, hstored⟩ := writeWords_of_aborted hcalm hwatch hwf
    (vs := [s.reg rd, s.reg (rd + 1#4)]) (Nat.le_of_ble_eq_true rfl) aborted false 0b0001#4
  refine ⟨t, ?_, ht, hstored⟩
  unfold State.storeDouble
  dsimp only
  rw [if_neg (by exact fun h => Bool.false_ne_true (hfail.symm.trans h))]
  exact hwrite

end

/-! ### The forms -/

section
variable {Ops : Type} {ld sd : Ops → Instr} {cond : Ops → Cond} {rn rd : Ops → Reg} {rm : Ops → Option Reg}
  {address : Ops → State → Addressed}

/-- A load and a store form run the doubleword transfers under their condition. -/
structure RunsDouble (ld sd : Ops → Instr) (cond : Ops → Cond) (rn rd : Ops → Reg) (rm : Ops → Option Reg)
    (address : Ops → State → Addressed) : Prop where
  load : ∀ o s, exec (ld o) s = s.ifPassed (cond o) fun s => loadDoubleword (rn o) (rd o) (rm o) (address o s) s
  store : ∀ o s, exec (sd o) s = s.ifPassed (cond o) fun s => storeDoubleword (rn o) (rd o) (rm o) (address o s) s

section
variable (hrun : RunsDouble ld sd cond rn rd rm address) {o : Ops} {s : State}
  (hc : condPassed (cond o) s.cpsr = true)
include hrun hc

theorem RunsDouble.exec_load (hfree : DoubleFree (address o s) (rn o) (rd o) (rm o))
    (hload : rm o ≠ some (rd o) ∧ rm o ≠ some (rd o + 1#4)) :
    exec (ld o) s = .next (s.loadDouble (rn o) (rd o) (address o s)) := by
  rw [hrun.load, ifPassed_of_passed hc, loadDoubleword_of_free hfree hload]

theorem RunsDouble.exec_store (hfree : DoubleFree (address o s) (rn o) (rd o) (rm o)) :
    exec (sd o) s = .next (s.storeDouble (rn o) (rd o) (address o s)) := by
  rw [hrun.store, ifPassed_of_passed hc, storeDoubleword_of_free hfree]

/-- Both forms of an odd register are UNDEFINED (R272, R273). -/
theorem RunsDouble.odd (hdbg : s.cfg.dbgen = false) (hodd : bitAt (rd o) 0 = true) :
    exec (ld o) s = .next (Claims.undefinedState s) ∧ exec (sd o) s = .next (Claims.undefinedState s) := by
  rw [hrun.load, hrun.store, ifPassed_of_passed hc, ifPassed_of_passed hc, loadDoubleword, storeDoubleword,
    if_pos hodd, if_pos hodd, undefinedInstr_of_off hdbg]
  exact ⟨rfl, rfl⟩

end

theorem doubleAborts_of_run (hrun : RunsDouble ld sd cond rn rd rm address) :
    Claims.DoubleAborts ld sd cond rn rd rm address := by
  intro o s a hc _ hcalm hwatch heven h14 hm hbase ha
  have hfree : DoubleFree (address o s) (rn o) (rd o) (rm o) := ⟨heven, h14, hm, hbase⟩
  subst ha
  refine ⟨fun h0 h1 hab => ?load, fun hwf hab => ?store⟩
  case load =>
    obtain ⟨bus, habort⟩ := loadDouble_of_aborted hcalm hwatch (rn := rn o) hfree.ne_pc.1 hab
    exact ⟨_, (hrun.exec_load hc hfree ⟨h0, h1⟩).trans (congrArg _ habort), rfl⟩
  case store =>
    obtain ⟨t, habort, ht, hstored⟩ := storeDouble_of_aborted hcalm hwatch hwf (rn o) (rd o) hab
    have run := hrun.exec_store hc hfree
    rw [habort] at run
    have word0 := hstored.word 0 (by simp)
    have word1 := hstored.word 1 (by simp)
    rw [wordAborts_zero, burstAddress_zero] at word0
    rw [wordAborts_succ, wordAborts_zero, burstAddress_succ, burstAddress_zero] at word1
    refine ⟨t, run, ht, word0, word1, keptOutside_mono (t := t) hstored.kept ?_⟩
    rintro b ⟨i, hi, served, rfl⟩
    refine ⟨_, ?_, rfl⟩
    match i, hi with
    | 0, _ => exact .inl ⟨by rwa [wordAborts_zero] at served, burstAddress_zero _⟩
    | 1, _ =>
      rw [wordAborts_succ, wordAborts_zero] at served
      exact .inr ⟨served, by rw [burstAddress_succ, burstAddress_zero]⟩

end

theorem doubleImm_runs : RunsDouble .ldrdImm .strdImm ExtImmOps.cond ExtImmOps.rn ExtImmOps.rd (fun _ => none)
    addressExtImm := ⟨exec_ldrdImm, exec_strdImm⟩

theorem doubleReg_runs : RunsDouble .ldrdReg .strdReg ExtRegOps.cond ExtRegOps.rn ExtRegOps.rd (fun o => some o.rm)
    addressExtReg := ⟨exec_ldrdReg, exec_strdReg⟩

theorem doublewordTransfers : Claims.doublewordTransfers := by
  refine ⟨fun o s hc ht hcalm hab heven h14 hbase => ?imm, fun o s hc ht hcalm hab heven h14 hm hbase => ?reg⟩
  case imm =>
    have hfree : DoubleFree (addressExtImm o s) o.rn o.rd none := by
      refine ⟨heven, h14, nofun, fun hw => ?_⟩
      obtain ⟨h15, hrd, hrd1⟩ := hbase hw
      exact ⟨h15, hrd, hrd1, nofun⟩
    obtain ⟨bus, hload⟩ := loadDouble_of_calm hcalm hab hfree ht
    refine ⟨⟨_, doubleImm_runs.exec_load hc hfree ⟨nofun, nofun⟩, ?_⟩, fun hwf => ?_⟩
    · rw [hload]
      exact ⟨onlyRegs_of_eq rfl, rfl, rfl, rfl⟩
    · obtain ⟨t, hstore, hresult⟩ := storeDouble_of_calm hcalm hab hfree hwf
      exact ⟨t, hstore ▸ doubleImm_runs.exec_store hc hfree, hresult⟩
  case reg =>
    have hfree : DoubleFree (addressExtReg o s) o.rn o.rd (some o.rm) := by
      refine ⟨heven, h14, by simpa using hm, fun hw => ?_⟩
      simpa using hbase hw
    obtain ⟨bus, hload⟩ := loadDouble_of_calm hcalm hab hfree ht
    refine ⟨fun h0 h1 => ⟨_, doubleReg_runs.exec_load hc hfree (by simpa using ⟨h0, h1⟩), ?_⟩, fun hwf => ?_⟩
    · rw [hload]
      exact ⟨onlyRegs_of_eq rfl, rfl, rfl, rfl⟩
    · obtain ⟨t, hstore, hresult⟩ := storeDouble_of_calm hcalm hab hfree hwf
      exact ⟨t, hstore ▸ doubleReg_runs.exec_store hc hfree, hresult⟩

theorem oddDoublewordUndefined : Claims.oddDoublewordUndefined :=
  ⟨fun _ _ hc _ hdbg hodd => doubleImm_runs.odd hc hdbg hodd,
    fun _ _ hc _ hdbg hodd => doubleReg_runs.odd hc hdbg hodd⟩

/-- Settles O34: the transfers of an even register and the exception of an odd one. -/
theorem doublewords : Obligations.Doublewords := by
  unfold Obligations.Doublewords
  exact ⟨doublewordTransfers, oddDoublewordUndefined⟩

end Sys2Proof.Proofs
end

section
/-! PROOF. Block transfers with an aborted word (R288, R471; entries 10 and 15): a load stops at the first aborted word
and restores the base, a store leaves each word whose own access is served. -/

namespace Sys2Proof.Proofs

open Sys2Proof.Machine

/-! ### The list -/

theorem rank_getElem_listRegs (list : BitVec 16) {i : Nat} (hi : i < (listRegs list).length) :
    Claims.rank list (listRegs list)[i] = i := by
  have ranks := congrArg (·[i]?) (map_rank_listRegs list)
  rw [length_listRegs] at hi
  simpa [hi, length_listRegs] using ranks

/-- A listed register stands in the list at its rank. -/
theorem exists_rank_listRegs {list : BitVec 16} {n : Reg} (h : Claims.listed list n = true) :
    ∃ hi : Claims.rank list n < (listRegs list).length, (listRegs list)[Claims.rank list n] = n := by
  obtain ⟨i, hi, rfl⟩ := List.mem_iff_getElem.mp ((mem_listRegs_iff list n).mpr h)
  have rank := rank_getElem_listRegs list hi
  exact ⟨by rw [rank]; exact hi, by simp only [rank]⟩

theorem count_le (list : BitVec 16) : Claims.count list ≤ 16 :=
  (List.length_filter_le _ _).trans (by simp)

/-- The list rises. -/
theorem pairwise_listRegs (list : BitVec 16) : (listRegs list).Pairwise fun a b => a.toNat < b.toNat := by
  rw [listRegs, List.pairwise_map]
  refine List.Pairwise.imp_of_mem (fun {i j} hi hj h => ?_) (List.pairwise_lt_range.filter _)
  have small {k : Nat} (hk : k ∈ (List.range 16).filter fun i => list.getLsbD i) : (BitVec.ofNat 4 k).toNat = k := by
    have bound := List.mem_range.mp (List.mem_of_mem_filter hk)
    rw [BitVec.toNat_ofNat, Nat.mod_eq_of_lt bound]
  rwa [small hi, small hj]

/-- What stands before the first failure in a rising list. -/
theorem mem_takeWhile_iff {ns : List Reg} (h : ns.Pairwise fun a b => a.toNat < b.toNat) (p : Reg → Bool) (n : Reg) :
    n ∈ ns.takeWhile p ↔ n ∈ ns ∧ ∀ k ∈ ns, k.toNat ≤ n.toNat → p k = true := by
  induction ns with
  | nil => simp
  | cons a ns ih =>
    obtain ⟨above, rising⟩ := List.pairwise_cons.mp h
    have first : n ∈ a :: ns → a.toNat ≤ n.toNat := by
      intro hn
      rcases List.mem_cons.mp hn with rfl | hn
      exacts [le_rfl, (above n hn).le]
    cases ha : p a with
    | false =>
      rw [List.takeWhile_cons_of_neg (by simp [ha])]
      refine ⟨fun hn => absurd hn List.not_mem_nil, fun ⟨hn, hall⟩ => ?_⟩
      exact absurd (hall a List.mem_cons_self (first hn)) (by simp [ha])
    | true =>
      rw [List.takeWhile_cons_of_pos ha, List.mem_cons, ih rising, List.mem_cons]
      constructor
      · rintro (rfl | ⟨hn, hall⟩)
        · refine ⟨.inl rfl, fun k hk hle => ?_⟩
          rcases List.mem_cons.mp hk with rfl | hk
          exacts [ha, absurd (above k hk) (Nat.not_lt.mpr hle)]
        · refine ⟨.inr hn, fun k hk hle => ?_⟩
          rcases List.mem_cons.mp hk with rfl | hk
          exacts [ha, hall k hk hle]
      · rintro ⟨hn | hn, hall⟩
        · exact .inl hn
        · exact .inr ⟨hn, fun k hk hle => hall k (List.mem_cons_of_mem a hk) hle⟩

/-! ### Loads -/

/-- Writing the registers stops at the first word missing (R288). -/
theorem loadRegs_takeWhile (m : Mode) (p : Reg → Bool) (f : Reg → Word) (ns : List Reg) (s : State) :
    loadRegs m ns (ns.map fun n => if p n then none else some (f n)) s =
      loadRegs m (ns.takeWhile fun n => !p n) ((ns.takeWhile fun n => !p n).map fun n => some (f n)) s := by
  induction ns generalizing s with
  | nil => rfl
  | cons n ns ih =>
    cases hp : p n with
    | true =>
      rw [List.takeWhile_cons_of_neg (by simp [hp]), List.map_cons, if_pos hp]
      rfl
    | false =>
      rw [List.takeWhile_cons_of_pos (by simp [hp]), List.map_cons, List.map_cons,
        if_neg (by simp [hp]), loadRegs, loadRegs, ih]

/-- The words of a block load, each for its register. -/
theorem burstWords_listRegs (s : State) (first : Word) (list : BitVec 16) :
    (List.range (Claims.count list)).map (burstWord s first) = (listRegs list).map fun n =>
      if Claims.slotAborts s .read first list n then none else some (Claims.slotWord s first list n) := by
  rw [← map_rank_listRegs, List.map_map]
  rfl

section
variable {s : State} (hcalm : Claims.calm s) (hwatch : s.dbg.watch = .idle)
include hcalm hwatch

/-- A block load with an aborted word: the registers before it loaded, then the base restored and the Data Abort. -/
theorem loadMultiple_of_aborted {p u w : Bool} {m : Mode} {rn : Reg} {list : BitVec 16} {first : Word}
    (hf : first = Claims.firstAddress p u (s.reg rn) (Claims.count list))
    (hab : ∃ n, Claims.listed list n = true ∧ Claims.slotAborts s .read first list n = true)
    (finish : State → Word → State) :
    ∃ regs bus, s.loadMultiple m p u w rn (listRegs list) finish = { Claims.abortedState s bus with
        regs := (restoredBase s rn regs).set (physIx .abt 14#4) (s.pc + 8#32) } ∧
      (∀ n ∈ (listRegs list).takeWhile fun n => !Claims.slotAborts s .read first list n, n ≠ 15#4 →
        regs[physIx m n] = Claims.slotWord s first list n) ∧
      (∀ i : Fin 30, (∀ n ∈ (listRegs list).takeWhile fun n => !Claims.slotAborts s .read first list n, n ≠ 15#4 →
        physIx m n ≠ i) → regs[i] = s.regs[i]) := by
  obtain ⟨bus, hread⟩ := readWords_of_off hcalm (Claims.count list) first false (burstLength (Claims.count list))
  have missing : ∃ i, i < Claims.count list ∧ Claims.wordAborts s .read first i = true := by
    obtain ⟨n, hn, hab⟩ := hab
    obtain ⟨hi, -⟩ := exists_rank_listRegs hn
    exact ⟨_, length_listRegs list ▸ hi, hab⟩
  obtain ⟨regs, hload, hin, hout⟩ := loadRegs_map m (Claims.slotWord s first list)
    ((listRegs list).takeWhile fun n => !Claims.slotAborts s .read first list n) { s with bus := bus }
  refine ⟨regs, bus, ?_, hin, hout⟩
  rw [State.loadMultiple, State.readList, length_listRegs, mode4_eq, ← hf]
  dsimp only
  rw [hread]
  unfold State.finishLoad
  dsimp only
  rw [if_neg (not_allSome_of_aborted missing), burstWords_listRegs, loadRegs_takeWhile, hload]
  exact dataAbort_restored hcalm hwatch rn regs bus

/-- An instruction that runs a block load does what is said of one with an aborted slot. -/
theorem loadListAborts_of_run {i : Instr} {p u w : Bool} {m : Mode} {rn : Reg} (hn : rn ≠ 15#4) {list : BitVec 16}
    {first : Word} (hf : first = Claims.firstAddress p u (s.reg rn) (Claims.count list))
    {finish : State → Word → State}
    (hrun : list ≠ 0#16 → exec i s = .next (s.loadMultiple m p u w rn (listRegs list) finish)) :
    Claims.LoadListAborts i s m list first rn := by
  intro hab
  obtain ⟨regs, bus, hload, hin, hout⟩ := loadMultiple_of_aborted hcalm hwatch (m := m) (w := w) hf hab finish
  obtain ⟨n0, hn0, -⟩ := hab
  have run := hrun (ne_zero_of_listed hn0)
  rw [hload] at run
  have read (i : Fin 30) (hi : i ≠ physIx .abt 14#4) :
      ((restoredBase s rn regs).set (physIx .abt 14#4) (s.pc + 8#32))[i] =
        if physIx s.mode rn = i then s.regs[i] else regs[i] := by
    rw [getElem_set_register, if_neg hi.symm, restoredBase_getElem s hn]
  have served := mem_takeWhile_iff (pairwise_listRegs list) fun n => !Claims.slotAborts s .read first list n
  simp only [mem_listRegs_iff, Bool.not_eq_true'] at served
  refine ⟨_, run, rfl, ?link, fun hbase => ?base, fun n h15 hl habt hrn => ⟨fun hall => ?loaded, fun hsome => ?left⟩,
    fun i habt hi => ?rest⟩
  case link => exact (getElem_set_register ..).trans (if_pos rfl)
  case base => exact (read _ hbase).trans (if_pos rfl)
  case loaded =>
    exact (read _ habt).trans ((if_neg hrn.symm).trans (hin n ((served n).mpr ⟨hl, hall⟩) h15))
  case left =>
    refine (read _ habt).trans ((if_neg hrn.symm).trans (hout _ fun k hk hk15 e => ?_))
    obtain rfl := (physIx_inj m k n hk15 h15).mp e
    obtain ⟨j, hj, hle, haborted⟩ := hsome
    exact Bool.false_ne_true ((((served k).mp hk).2 j hj hle).symm.trans haborted)
  case rest =>
    refine (read i habt).trans ?_
    split
    · rfl
    · exact hout i fun k hk hk15 => hi k hk15 ((served k).mp hk).1

/-! ### Stores -/

/-- An instruction that runs a block store of the words `g` does what is said of one with an aborted slot. -/
theorem storeListAborts_of_run {i : Instr} {p u w : Bool} {rn : Reg} {list : BitVec 16} {first : Word}
    {value : Reg → Word} {isOpen : Reg → Bool} (hf : first = Claims.firstAddress p u (s.reg rn) (Claims.count list))
    {g : Reg → Word} (hg : ∀ n, Claims.listed list n = true → isOpen n = false → g n = value n) {ix : Nat}
    {finish : State → State}
    (hrun : list ≠ 0#16 → exec i s =
      .next (State.storeMultiple { s with freeIx := ix } p u w rn ((listRegs list).map g) finish)) :
    Claims.StoreListAborts i s value isOpen list first := by
  rintro hwf ⟨n0, hn0, hab⟩
  have run := hrun (ne_zero_of_listed hn0)
  have length : ((listRegs list).map g).length = Claims.count list := by rw [List.length_map, length_listRegs]
  have small : ((listRegs list).map g).length ≤ 2 ^ 30 := by
    rw [length]
    exact (count_le list).trans (by decide)
  obtain ⟨hi0, -⟩ := exists_rank_listRegs hn0
  obtain ⟨t, hfail, habort, ht, hstored⟩ := writeWords_of_aborted (s := { s with freeIx := ix }) hcalm hwatch hwf small
    (a := first) ⟨_, by rw [List.length_map]; exact hi0, hab⟩ false (burstLength ((listRegs list).map g).length)
  have store : State.storeMultiple { s with freeIx := ix } p u w rn ((listRegs list).map g) finish = t := by
    rw [State.storeMultiple, mode4_eq]
    dsimp only
    rw [length, show Claims.firstAddress p u (State.reg { s with freeIx := ix } rn) (Claims.count list) = first from
      hf.symm, ← length, hfail, if_neg Bool.false_ne_true, habort]
  rw [store] at run
  refine ⟨t, run, ?frame, fun n hl hopen hserved => ?word, keptOutside_mono (t := t) hstored.kept ?_⟩
  case frame =>
    have freeIx : t.freeIx = ix := by rw [ht]; rfl
    rw [freeIx]
    exact ht
  case word =>
    obtain ⟨hi, hn⟩ := exists_rank_listRegs hl
    have word := hstored.word (Claims.rank list n) (by rwa [List.length_map]) hserved
    rw [List.getElem_map, hn, hg n hl hopen] at word
    exact word
  · rintro b ⟨i, hi, served, rfl⟩
    rw [List.length_map] at hi
    have rank := rank_getElem_listRegs list hi
    have hl := (mem_listRegs_iff list _).mp (List.getElem_mem hi)
    refine ⟨Claims.slotAddress first list (listRegs list)[i], ⟨_, hl, ?_, rfl⟩, ?_⟩
    · rw [Claims.slotAborts, rank]
      exact served
    · rw [Claims.slotAddress, rank, align4_align4]

end

/-- The value a listed base stores with writeback is free unless it is lowest (R285, R287). -/
theorem baseOpen_of_storedBaseFree {w : Bool} {rn : Reg} {list : BitVec 16}
    (h : storedBaseFree w rn (listRegs list) = true) : Claims.baseOpen w rn list rn = true := by
  simp only [storedBaseFree, Bool.and_eq_true, List.contains_iff_mem, bne_iff_ne] at h
  obtain ⟨⟨hw, hmem⟩, hhead⟩ := h
  obtain ⟨hi, hn⟩ := exists_rank_listRegs ((mem_listRegs_iff list rn).mp hmem)
  have notFirst : Claims.rank list rn ≠ 0 := by
    intro hr
    simp only [hr] at hi hn
    exact hhead (by rw [List.head?_eq_getElem?, List.getElem?_eq_getElem hi, hn])
  simp [Claims.baseOpen, hw, notFirst]

/-- The store multiple of the current bank stores each register's value where it is not free. -/
theorem storeRegs_spec (s : State) (p u w : Bool) (rn : Reg) (list : BitVec 16) :
    ∃ g ix, s.storeRegs p u w rn (listRegs list) =
        State.storeMultiple { s with freeIx := ix } p u w rn ((listRegs list).map g) id ∧
      ∀ n, Claims.baseOpen w rn list n = false → g n = Claims.storedReg s n := by
  unfold State.storeRegs
  cases hfree : storedBaseFree w rn (listRegs list) with
  | true =>
    refine ⟨fun n => if n = rn then s.draw.1 else s.storeReg n, s.freeIx + 1, rfl, fun n hopen => ?_⟩
    have other : n ≠ rn := by
      rintro rfl
      exact Bool.false_ne_true (hopen.symm.trans (baseOpen_of_storedBaseFree hfree))
    exact (if_neg other).trans (storeReg_eq s n)
  | false => exact ⟨s.storeReg, s.freeIx, rfl, fun n _ => storeReg_eq s n⟩

/-! ### The forms -/

theorem multipleRefused_of_list {rn : Reg} (hn : rn ≠ 15#4) {list : BitVec 16} (hlist : list ≠ 0#16) :
    ¬multipleRefused rn (listRegs list) = true := by
  simp [multipleRefused_iff, hlist, hn]

theorem listRegs_isEmpty_of_ne {list : BitVec 16} (hlist : list ≠ 0#16) : ¬(listRegs list).isEmpty = true := by
  rwa [listRegs_isEmpty_iff]

theorem userBankRefused_of_privileged {s : State} {w : Bool} (hw : w = false) (husr : s.mode ≠ .usr)
    (hsys : s.mode ≠ .sys) : ¬s.userBankRefused w = true := by
  simp [userBankRefused_iff, hw, husr, hsys]

section
variable {o : LdmOps} {s : State} (hc : condPassed o.cond s.cpsr = true) (hn : o.rn ≠ 15#4) (hlist : o.list ≠ 0#16)
include hc hn hlist

theorem ldm1_runs : exec (.ldm1 o) s =
    .next (s.loadMultiple s.mode o.p o.u o.w o.rn (listRegs o.list) (loadPcLast (listRegs o.list))) := by
  rw [exec_ldm1, execLdm1, ifPassed_of_passed hc, if_neg (multipleRefused_of_list hn hlist)]

theorem stm1_runs : exec (.stm1 o) s = .next (s.storeRegs o.p o.u o.w o.rn (listRegs o.list)) := by
  rw [exec_stm1, execStm1, ifPassed_of_passed hc, if_neg (multipleRefused_of_list hn hlist)]

theorem stm2_runs (hw : o.w = false) (husr : s.mode ≠ .usr) (hsys : s.mode ≠ .sys) : exec (.stm2 o) s =
    .next (s.storeMultiple o.p o.u false o.rn ((listRegs o.list).map s.storeUserReg) State.noteUserBank) := by
  rw [exec_stm2, execStm2, ifPassed_of_passed hc, if_neg (multipleRefused_of_list hn hlist),
    if_neg (userBankRefused_of_privileged hw husr hsys)]
  rfl

end

section
variable {o : Ldm15Ops} {s : State} (hc : condPassed o.cond s.cpsr = true) (hn : o.rn ≠ 15#4)
include hc hn

theorem ldm2_runs (hlist : o.list.setWidth 16 ≠ 0#16) (hw : o.w = false) (husr : s.mode ≠ .usr)
    (hsys : s.mode ≠ .sys) : exec (.ldm2 o) s = .next (s.loadMultiple .usr o.p o.u false o.rn
      (listRegs (o.list.setWidth 16)) fun t _ => t.noteUserBank.advance) := by
  rw [exec_ldm2, execLdm2, ifPassed_of_passed hc, if_neg (multipleRefused_of_list hn hlist),
    if_neg (userBankRefused_of_privileged hw husr hsys)]

theorem ldm3_runs (hlist : 0b1#1 ++ o.list ≠ 0#16) : exec (.ldm3 o) s = .next (s.loadMultiple s.mode o.p o.u o.w o.rn
    (listRegs (0b1#1 ++ o.list)) fun t last => t.exceptionReturn last) := by
  rw [exec_ldm3, execLdm3, ifPassed_of_passed hc, if_neg (multipleRefused_of_list hn hlist)]

end

section
variable (s : State) {list : BitVec 16} (hlist : list ≠ 0#16)
include hlist

theorem tLdmia_runs {o : TMultiOps} (hl : list = o.list.setWidth 16) : exec (.tLdmia o) s =
    .next (s.loadMultiple s.mode false true true (low o.rb) (listRegs list) fun t _ => t.advance) := by
  rw [exec_tLdmia, execTLdmia, ← hl, if_neg (listRegs_isEmpty_of_ne hlist)]

theorem tStmia_runs {o : TMultiOps} (hl : list = o.list.setWidth 16) : exec (.tStmia o) s =
    .next (s.storeRegs false true true (low o.rb) (listRegs list)) := by
  rw [exec_tStmia, execTStmia, ← hl, if_neg (listRegs_isEmpty_of_ne hlist)]

theorem tPop_runs {o : TStackOps} (hl : list = bit o.extra ++ 0#7 ++ o.list) : exec (.tPop o) s =
    .next (s.loadMultiple s.mode false true true 13#4 (listRegs list) (loadPcLast (listRegs list))) := by
  rw [exec_tPop, execTPop, ← hl, if_neg (listRegs_isEmpty_of_ne hlist)]

theorem tPush_runs {o : TStackOps} (hl : list = 0b0#1 ++ bit o.extra ++ 0#6 ++ o.list) : exec (.tPush o) s =
    .next (s.storeRegs true false true 13#4 (listRegs list)) := by
  rw [exec_tPush, execTPush, ← hl, if_neg (listRegs_isEmpty_of_ne hlist)]

end

theorem storeUserReg_eq (s : State) (n : Reg) :
    s.storeUserReg n = if n = 15#4 then Claims.storedReg s n else s.bankReg .usr n := by
  rw [State.storeUserReg, storeReg_eq]

/-- The list of PUSH does not hold its base (R430). -/
theorem push_unlisted (extra : Bool) (list : BitVec 8) :
    Claims.listed (0b0#1 ++ bit extra ++ 0#6 ++ list : BitVec 16) 13#4 = false := by
  have clear : (0b0#1 ++ bit extra ++ 0#6 ++ list).getLsbD 13 = false := by
    rw [BitVec.getLsbD_append, BitVec.getLsbD_append]
    rfl
  exact clear

section
variable {s : State} (hcalm : Claims.calm s) (hwatch : s.dbg.watch = .idle)
include hcalm hwatch

/-- A store multiple of the current bank, by the instruction that runs it. -/
theorem storeRegsAborts_of_run {i : Instr} {p u w : Bool} {rn : Reg} {list : BitVec 16} {first : Word}
    {isOpen : Reg → Bool} (hf : first = Claims.firstAddress p u (s.reg rn) (Claims.count list))
    (hopen : ∀ n, Claims.listed list n = true → isOpen n = false → Claims.baseOpen w rn list n = false)
    (hrun : list ≠ 0#16 → exec i s = .next (s.storeRegs p u w rn (listRegs list))) :
    Claims.StoreListAborts i s (Claims.storedReg s) isOpen list first := by
  obtain ⟨g, ix, hstore, hg⟩ := storeRegs_spec s p u w rn list
  exact storeListAborts_of_run hcalm hwatch hf (fun n hl ho => hg n (hopen n hl ho)) fun hlist =>
    (hrun hlist).trans (congrArg _ hstore)

theorem armMultipleAborts {o : LdmOps} {first : Word} (hc : condPassed o.cond s.cpsr = true) (hn : o.rn ≠ 15#4)
    (hf : first = Claims.firstAddress o.p o.u (s.reg o.rn) (Claims.count o.list)) :
    Claims.LoadListAborts (.ldm1 o) s s.mode o.list first o.rn ∧
    Claims.StoreListAborts (.stm1 o) s (Claims.storedReg s) (Claims.baseOpen o.w o.rn o.list) o.list first ∧
    (o.w = false → s.mode ≠ .usr → s.mode ≠ .sys →
      Claims.StoreListAborts (.stm2 o) s (fun n => if n = 15#4 then Claims.storedReg s n else s.bankReg .usr n)
        (fun _ => false) o.list first) :=
  ⟨loadListAborts_of_run hcalm hwatch hn hf (ldm1_runs hc hn),
    storeRegsAborts_of_run hcalm hwatch hf (fun _ _ h => h) (stm1_runs hc hn),
    fun hw husr hsys => storeListAborts_of_run hcalm hwatch hf (fun n _ _ => storeUserReg_eq s n) (ix := s.freeIx)
      fun hlist => stm2_runs hc hn hlist hw husr hsys⟩

theorem armBankAborts {o : Ldm15Ops} (hc : condPassed o.cond s.cpsr = true) (hn : o.rn ≠ 15#4) :
    (o.w = false → s.mode ≠ .usr → s.mode ≠ .sys → Claims.LoadListAborts (.ldm2 o) s .usr (o.list.setWidth 16)
      (Claims.firstAddress o.p o.u (s.reg o.rn) (Claims.count (o.list.setWidth 16))) o.rn) ∧
    Claims.LoadListAborts (.ldm3 o) s s.mode (0b1#1 ++ o.list)
      (Claims.firstAddress o.p o.u (s.reg o.rn) (Claims.count (0b1#1 ++ o.list))) o.rn :=
  ⟨fun hw husr hsys => loadListAborts_of_run hcalm hwatch hn rfl fun hlist => ldm2_runs hc hn hlist hw husr hsys,
    loadListAborts_of_run hcalm hwatch hn rfl (ldm3_runs hc hn)⟩

theorem thumbMultipleAborts (o : TMultiOps) :
    Claims.LoadListAborts (.tLdmia o) s s.mode (o.list.setWidth 16) (s.reg (low o.rb)) (low o.rb) ∧
    Claims.StoreListAborts (.tStmia o) s (Claims.storedReg s) (Claims.baseOpen true (low o.rb) (o.list.setWidth 16))
      (o.list.setWidth 16) (s.reg (low o.rb)) :=
  ⟨loadListAborts_of_run hcalm hwatch (low_ne_pc o.rb) rfl fun hlist => tLdmia_runs s hlist rfl,
    storeRegsAborts_of_run hcalm hwatch rfl (fun _ _ h => h) fun hlist => tStmia_runs s hlist rfl⟩

theorem thumbStackAborts (o : TStackOps) (list : BitVec 16) :
    (list = (bit o.extra ++ 0#7 ++ o.list : BitVec 16) →
      Claims.LoadListAborts (.tPop o) s s.mode list (s.reg 13#4) 13#4) ∧
    (list = (0b0#1 ++ bit o.extra ++ 0#6 ++ o.list : BitVec 16) →
      Claims.StoreListAborts (.tPush o) s (Claims.storedReg s) (fun _ => false) list
        (Claims.firstAddress true false (s.reg 13#4) (Claims.count list))) := by
  refine ⟨fun hl => loadListAborts_of_run hcalm hwatch (by decide) rfl fun hlist => tPop_runs s hlist hl, fun hl =>
    storeRegsAborts_of_run hcalm hwatch rfl (fun n hin _ => ?_) fun hlist => tPush_runs s hlist hl⟩
  have other : n ≠ 13#4 := by
    rintro rfl
    rw [hl, push_unlisted] at hin
    exact Bool.false_ne_true hin
  simp [Claims.baseOpen, other]

end

theorem blockAborts : Claims.blockAborts :=
  ⟨fun _ _ _ hc _ hcalm hwatch hn hf => armMultipleAborts hcalm hwatch hc hn hf,
    fun _ _ hc _ hcalm hwatch hn => armBankAborts hcalm hwatch hc hn,
    fun o _ _ hcalm hwatch => thumbMultipleAborts hcalm hwatch o,
    fun o _ list _ hcalm hwatch => thumbStackAborts hcalm hwatch o list⟩

end Sys2Proof.Proofs
end

section
/-! PROOF. Swaps and coprocessor transfers with an aborted word (R292, R339, R471; entries 10 and 15), and with them
every aborted transfer. -/

namespace Sys2Proof.Proofs

open Sys2Proof.Machine

/-! ### Swaps -/

/-- Both swaps run the one frame on their size (R292, R293). -/
theorem swaps_size : ∀ r ∈ [(Instr.swp, Size.word), (Instr.swpb, Size.byte)], ∃ k : LoadKind, k.size = r.2 ∧
    ∀ (o : SwpOps) (s : State), exec (r.1 o) s = swapFrame k o s := by
  simp only [List.forall_mem_cons]
  exact ⟨⟨.word, rfl, exec_swp⟩, ⟨.byte, rfl, exec_swpb⟩, List.forall_mem_nil _⟩

section
variable {s : State} (hcalm : Claims.calm s) (hwatch : s.dbg.watch = .idle) (k : LoadKind) (rn rd rm : Reg)
include hcalm hwatch

/-- An aborted write leaves both memories alone (entry 10). -/
theorem swap_of_abortedWrite (hab : Claims.abortsAt s .write k.size (s.reg rn) false = true) :
    ∃ bus, s.swap k rn rd rm = Claims.abortedState s bus := by
  refine ⟨s.bus ++ [s.cycle (Req.locked (s.reg rn) k.size) false 0] ++
    [s.cycle (Req.locked (s.reg rn) k.size) true (k.size.replicate (s.reg rm))], ?_⟩
  unfold State.swap
  dsimp only
  rw [dataRead_of_off hcalm]
  dsimp only
  rw [dataWrite_of_aborted (by exact hcalm) (by exact hab)]
  split
  next h => exact absurd h Bool.false_ne_true
  next => exact dataAbort_of_calm (by exact hcalm) (by exact hwatch)
  next =>
    split
    · exact dataAbort_of_calm (by exact hcalm) (by exact hwatch)
    · exact dataAbort_of_calm (by exact hcalm) (by exact hwatch)

/-- After an aborted read, whether the served write reaches memory is `swapWrites` (entry 15). -/
theorem swap_of_abortedRead (hread : Claims.abortsAt s .read k.size (s.reg rn) false = true)
    (hwrite : Claims.abortsAt s .write k.size (s.reg rn) false = false) :
    ∃ m im bus, s.swap k rn rd rm = { Claims.abortedState s bus with mem := m, imem := im } ∧
      (s.cfg.swapWrites = false → m = s.mem ∧ im = s.imem) ∧
      (s.cfg.swapWrites = true → m = s.mem.write s.cfg.bigEnd k.size (s.reg rn) (s.reg rm)) := by
  unfold State.swap
  dsimp only
  rw [dataRead_of_off hcalm, if_pos (by exact hread)]
  dsimp only
  rw [dataWrite_of_served (by exact hcalm) (by exact hwrite)]
  dsimp only
  cases s.cfg.swapWrites with
  | false =>
    rw [if_neg Bool.false_ne_true]
    exact ⟨_, _, _, dataAbort_of_calm (by exact hcalm) (by exact hwatch), fun _ => ⟨rfl, rfl⟩, nofun⟩
  | true =>
    rw [if_pos rfl]
    exact ⟨_, _, _, dataAbort_of_calm (by exact hcalm) (by exact hwatch), nofun, fun _ => rfl⟩

end

theorem swapAborts : Claims.swapAborts := by
  intro r hr o s hc _ hcalm hwatch hwf hn hd hm hnd hab
  obtain ⟨k, hk, hexec⟩ := swaps_size r hr
  have run := (hexec o s).trans (swapFrame_of_passed hc hn hd hm hnd)
  rw [← hk] at hab ⊢
  cases hwrite : Claims.abortsAt s .write k.size (s.reg o.rn) false with
  | true =>
    obtain ⟨bus, habort⟩ := swap_of_abortedWrite hcalm hwatch k o.rn o.rd o.rm hwrite
    rw [habort] at run
    exact ⟨_, run, rfl, fun _ => ⟨rfl, rfl⟩, fun h => absurd h (by decide)⟩
  | false =>
    have hread : Claims.abortsAt s .read k.size (s.reg o.rn) false = true := by simpa [hwrite] using hab
    obtain ⟨m, im, bus, habort, hleft, hstored⟩ := swap_of_abortedRead hcalm hwatch k o.rn o.rd o.rm hread hwrite
    rw [habort] at run
    refine ⟨_, run, rfl, fun h => hleft (h.resolve_left (by decide)), fun _ h x => ?_⟩
    obtain rfl := hstored h
    exact byte_write hwf ..

/-! ### Coprocessor transfers -/

/-- The words before the first missing one go to the coprocessor (R339). -/
theorem sendWords_takeWhile (p : Nat → Bool) (f : Nat → Word) (ns : List Nat) (s : State) :
    sendWords (ns.map fun k => if p k then none else some (f k)) s =
      { s with cpEvents := s.cpEvents ++ (ns.takeWhile fun k => !p k).map fun k => .received (f k) } := by
  induction ns generalizing s with
  | nil => simp [sendWords]
  | cons n ns ih =>
    cases hp : p n with
    | true =>
      rw [List.takeWhile_cons_of_neg (by simp [hp]), List.map_cons, if_pos hp, List.map_nil, List.append_nil]
      rfl
    | false =>
      rw [List.takeWhile_cons_of_pos (by simp [hp]), List.map_cons, List.map_cons, if_neg (by simp [hp]), sendWords, ih,
        List.append_cons]
      rfl

/-- A script with a word for every transfer supplies them (R332). -/
theorem suppliedWords_of_length {n : Nat} {ws : List Word} (h : ws.length = n) (s : State) :
    suppliedWords n ws s = (ws, s) := by
  induction n generalizing ws with
  | zero => rw [List.length_eq_zero_iff.mp h, suppliedWords]
  | succ n ih =>
    obtain ⟨w, ws, rfl⟩ := List.exists_cons_of_length_eq_add_one h
    rw [suppliedWords]
    dsimp only [State.supplied, List.tail_cons]
    rw [ih (Nat.succ_injective h)]

section
variable {s : State} (hcalm : Claims.calm s) (hwatch : s.dbg.watch = .idle) (rn : Reg) (a : Addressed)
include hcalm hwatch

/-- An aborted LDC: the coprocessor has the words before the first aborted one (R339). -/
theorem loadCoprocessor_of_aborted {n : Nat} (hab : ∃ k, k < n ∧ Claims.wordAborts s .read a.addr k = true) :
    ∃ bus, s.loadCoprocessor n rn a = Claims.abortedState { s with
      cpEvents := s.cpEvents ++ ((List.range n).takeWhile fun k => !Claims.wordAborts s .read a.addr k).map fun k =>
        .received (s.mem.word s.cfg.bigEnd (align4 (a.addr + 4#32 * BitVec.ofNat 32 k))) } bus := by
  obtain ⟨bus, hread⟩ := readWords_of_off hcalm n a.addr false 0
  refine ⟨bus, ?_⟩
  unfold State.loadCoprocessor
  rw [hread]
  dsimp only
  rw [if_neg (not_allSome_of_aborted hab), show (List.range n).map (burstWord s a.addr) = (List.range n).map fun k =>
    if Claims.wordAborts s .read a.addr k then none else
      some (s.mem.word s.cfg.bigEnd (align4 (a.addr + 4#32 * BitVec.ofNat 32 k))) from rfl, sendWords_takeWhile]
  exact dataAbort_of_calm (by exact hcalm) (by exact hwatch)

/-- An aborted STC: each word whose own access is served is stored (R339; entry 10). -/
theorem storeCoprocessor_of_aborted (hwf : s.mem.wf = true) {vs : List Word} (hlen : vs.length ≤ 2 ^ 30)
    (hab : ∃ k, k < vs.length ∧ Claims.wordAborts s .write a.addr k = true) :
    ∃ t, s.storeCoprocessor vs rn a = t ∧ t = { Claims.abortedState s t.bus with mem := t.mem, imem := t.imem } ∧
      BurstStored s a.addr vs t.mem t.imem := by
  obtain ⟨t, hfail, habort, ht, hstored⟩ := writeWords_of_aborted hcalm hwatch hwf hlen hab false 0
  refine ⟨t, ?_, ht, hstored⟩
  unfold State.storeCoprocessor
  dsimp only
  rw [hfail, if_neg Bool.false_ne_true, habort]

end

section
variable {s : State} {more : Nat} {ws : List Word} {rest : List CpAnswer} (h : Claims.accepts s more ws rest)
include h

/-- The handshake moves the script on and shows the instruction (R320, R341). -/
theorem offer_of_accepts (w : Word) : s.cpAnswer.2.cpOffer w = Claims.offered s w rest [] := by
  have script : s.cpScript = .accept more ws :: rest := h
  simp [State.cpAnswer, State.cpOffer, Claims.offered, script, State.privileged, State.mode]

variable (hcalm : Claims.calm s) (hwatch : s.dbg.watch = .idle) {i : Instr} {w : Word} (henc : encode i = .arm w)
  {cp : BitVec 4} (hcp : cp ≠ 14#4) {rn : Reg} {a : State → Addressed} {addressed : Addressed}
  (ha : a (Claims.offered s w rest []) = addressed) (hfree : addressed.writeback.isSome = true → rn ≠ 15#4)
include hcalm hwatch henc hcp ha hfree

/-- An instruction that runs an accepted LDC does what is said of one with an aborted word. -/
theorem loadWordsAbort_of_run (hrun : exec i s = coprocessorLoad w cp rn a s) :
    Claims.LoadWordsAbort i s rest addressed.addr (more + 1) := by
  intro hab
  obtain ⟨bus, habort⟩ := loadCoprocessor_of_aborted (s := Claims.offered s w rest []) hcalm hwatch rn addressed hab
  rw [coprocessorLoad, coprocessor_of_accepts h hcp, offer_of_accepts h, ha, if_neg fun hpc => hfree hpc.2 hpc.1,
    habort] at hrun
  refine ⟨w, _, henc, hrun, ?_⟩
  simp only [Claims.offered, List.append_nil]
  rfl

/-- An instruction that runs an accepted STC does what is said of one with an aborted word. -/
theorem storeWordsAbort_of_run (hmore : more < 2 ^ 30) (hlen : ws.length = more + 1)
    (hrun : exec i s = coprocessorStore w cp rn a s) : Claims.StoreWordsAbort i s rest addressed.addr ws := by
  intro hwf hab
  obtain ⟨t, habort, ht, hstored⟩ := storeCoprocessor_of_aborted (s := Claims.offered s w rest []) hcalm hwatch rn
    addressed hwf (vs := ws) (by omega) hab
  rw [coprocessorStore, coprocessor_of_accepts h hcp, offer_of_accepts h, ha,
    if_neg fun hpc => hfree hpc.2 hpc.1] at hrun
  dsimp only at hrun
  rw [suppliedWords_of_length hlen, habort] at hrun
  exact ⟨w, t, henc, hrun, ht, hstored.word, hstored.kept⟩

end

theorem coprocessorAborts : Claims.coprocessorAborts := by
  intro s more ws rest h _ hcalm hwatch hmore hlen
  exact ⟨fun o hc hcp hfree =>
      ⟨loadWordsAbort_of_run h hcalm hwatch rfl hcp rfl hfree ((exec_ldc o s).trans (ifPassed_of_passed hc _)),
        storeWordsAbort_of_run h hcalm hwatch rfl hcp rfl hfree hmore hlen
          ((exec_stc o s).trans (ifPassed_of_passed hc _))⟩,
    fun o hcp hfree => ⟨loadWordsAbort_of_run h hcalm hwatch rfl hcp rfl hfree (exec_ldc2 o s),
      storeWordsAbort_of_run h hcalm hwatch rfl hcp rfl hfree hmore hlen (exec_stc2 o s)⟩⟩

/-! ### Every aborted transfer -/

/-- Settles O36: the single transfers by the access they run, the block transfers, doublewords, swaps and coprocessor
transfers by their bursts. -/
theorem abortedTransfer : Obligations.AbortedTransfer := by
  unfold Obligations.AbortedTransfer
  exact ⟨⟨singleLoads_of_run loadAborts_of_run, extraLoads_of_run loadAborts_of_run,
      singleStores_of_run storeAborts_of_run⟩,
    ⟨thumbLoads_of_run thumbLoadAborts_of_run, thumbStores_of_run thumbStoreAborts_of_run⟩, blockAborts,
    ⟨doubleAborts_of_run doubleImm_runs, doubleAborts_of_run doubleReg_runs⟩, swapAborts, coprocessorAborts⟩

end Sys2Proof.Proofs
end

section
/-! PROOF. Block transfers and swaps that nothing aborts (R281 to R287, R292 to R294): every listed register and its
word, the base, and what follows the registers in each form. -/

namespace Sys2Proof.Proofs

open Sys2Proof.Machine

/-! ### Loads -/

/-- What the writeback of a base leaves where the base is not in the list (R281). -/
theorem unlistedBase_eq {w : Bool} {rn : Reg} {list : BitVec 16} (h : w = true → Claims.listed list rn = false)
    (b : Word) : (if w && !Claims.listed list rn then some (rn, b) else none) = if w then some (rn, b) else none := by
  cases w with
  | false => rfl
  | true => rw [h rfl]; rfl

/-- LDM (2): the registers of the User bank, then the note for the next instruction (R283). -/
theorem ldm2_of_calm {o : Ldm15Ops} {s : State} (hc : condPassed o.cond s.cpsr = true) (ht : s.thumb = false)
    (hcalm : Claims.calm s) (hab : Claims.noAborts s) (hlist : o.list ≠ 0#15) (hn : o.rn ≠ 15#4) (hw : o.w = false)
    (husr : s.mode ≠ .usr) (hsys : s.mode ≠ .sys) :
    ∃ t, exec (.ldm2 o) s = .next t ∧ Claims.onlyRegs { s with bankHazard := true } t ∧
      Claims.blockLoaded s t .usr (o.list.setWidth 16)
        (Claims.firstAddress o.p o.u (s.reg o.rn) (Claims.count (o.list.setWidth 16))) none ∧
      t.pc = s.pc + 4#32 ∧ t.cpsr = s.cpsr := by
  have run := ldm2_runs hc hn (mt (zeroExtended_eq_zero_iff (by decide) _).mp hlist) hw husr hsys
  obtain ⟨regs, bus, last, hload, hregs, -⟩ := loadMultiple_of_calm hcalm hab hn o.p o.u (w := false)
    (o.list.setWidth 16) (m := .usr) nofun (fun t _ => t.noteUserBank.advance) rfl
  rw [hload, advance_of_arm (by exact ht)] at run
  exact ⟨_, run, rfl, hregs _ rfl, rfl, rfl⟩

/-- Settles O37: the three forms by the block load they share. -/
theorem loadMultiple : Obligations.LoadMultiple := by
  unfold Obligations.LoadMultiple
  refine ⟨fun o s hc ht hcalm hab hlist hn hbase => ?ldm1,
    fun _ _ hc ht hcalm hab hlist hn hw husr hsys => ldm2_of_calm hc ht hcalm hab hlist hn hw husr hsys,
    fun o s p hc _ hcalm hab hn hbase hspsr => ?ldm3⟩
  case ldm1 =>
    obtain ⟨t, hexec, honly, hloaded, hpc⟩ := ldm1_of_calm hc ht hcalm hab hlist hn rfl
    rw [unlistedBase_eq hbase] at hloaded
    exact ⟨t, hexec, honly, hloaded, hpc⟩
  case ldm3 =>
    obtain ⟨t, hexec, honly, hloaded, hcpsr, hpc⟩ := ldm3_of_calm hc hcalm hab hn rfl rfl
    rw [unlistedBase_eq hbase] at hloaded
    rw [hspsr, Option.getD_some] at hcpsr
    rw [hcpsr] at hpc
    exact ⟨t, hexec, honly, hloaded, hcpsr, hpc⟩

/-! ### Stores -/

/-- The words of a burst in the slots of the listed registers (R281). -/
theorem blockStored_of_words {s t : State} {list : BitVec 16} {first : Word} {g value : Reg → Word}
    {isOpen : Reg → Bool} (h : Claims.wordsStored s t first ((listRegs list).map g))
    (hg : ∀ n, isOpen n = false → g n = value n) : Claims.blockStored s t value isOpen list first := by
  obtain ⟨hword, hkept⟩ := h
  refine ⟨fun n hl hopen => ?_, keptOutside_mono hkept ?_⟩
  · obtain ⟨hi, hn⟩ := exists_rank_listRegs hl
    have word := hword (Claims.rank list n) (by rwa [List.length_map])
    rwa [List.getElem_map, hn, hg n hopen] at word
  · rintro b ⟨i, hi, rfl⟩
    rw [List.length_map] at hi
    have rank := rank_getElem_listRegs list hi
    refine ⟨_, ⟨(listRegs list)[i], (mem_listRegs_iff list _).mp (List.getElem_mem hi), rfl⟩, ?_⟩
    rw [Claims.slotAddress, rank, align4_align4]

/-- A block store of the words `g`, the free-value counter wherever their making left it: memory, then the base, then
the next instruction (R285). -/
theorem storeMultiple_of_calm {s : State} (hcalm : Claims.calm s) (hab : Claims.noAborts s) (hwf : s.mem.wf = true)
    {rn : Reg} (hn : rn ≠ 15#4) (p u w : Bool) (list : BitVec 16) (g : Reg → Word) (ix : Nat)
    (finish : State → State) :
    ∃ m im bus, State.storeMultiple { s with freeIx := ix } p u w rn ((listRegs list).map g) finish =
        finish { s with
          mem := m, imem := im, regs := Claims.blockBase s w u rn (Claims.count list)
          pc := s.pc + s.instrSize, bus := bus, freeIx := ix } ∧
      (s.cfg.split = false → im = s.imem) ∧
      ∀ t : State, t.mem = m → t.imem = im →
        Claims.wordsStored s t (Claims.firstAddress p u (s.reg rn) (Claims.count list)) ((listRegs list).map g) := by
  have length : ((listRegs list).map g).length = Claims.count list := by rw [List.length_map, length_listRegs]
  have small : ((listRegs list).map g).length ≤ 2 ^ 30 := length ▸ (count_le list).trans (by decide)
  obtain ⟨m, im, bus, hwrite, hstored⟩ := writeWords_of_off (s := { s with freeIx := ix }) hcalm hwf small
    (Claims.firstAddress p u (s.reg rn) (Claims.count list)) false (burstLength (Claims.count list))
  rw [allServed_of_noAborts (by exact hab)] at hwrite
  refine ⟨m, im, bus, ?_, hstored.unsplit, ?_⟩
  · have base : State.reg { s with freeIx := ix } rn = s.reg rn := rfl
    rw [State.storeMultiple, mode4_eq, length, base]
    dsimp only
    rw [hwrite, if_pos rfl]
    cases w with
    | false => rfl
    | true =>
      rw [if_pos rfl, setReg_of_ne_pc _ hn]
      rfl
  · rintro t rfl rfl
    exact hstored.wordsStored hab

/-- STM (1), a base that is listed and not lowest storing a free value (R285, R287). -/
theorem stm1_of_calm {o : LdmOps} {s : State} (hc : condPassed o.cond s.cpsr = true) (hcalm : Claims.calm s)
    (hab : Claims.noAborts s) (hwf : s.mem.wf = true) (hlist : o.list ≠ 0#16) (hn : o.rn ≠ 15#4) :
    ∃ t, exec (.stm1 o) s = .next t ∧
      Claims.onlyStored s t (Claims.blockBase s o.w o.u o.rn (Claims.count o.list)) ∧
      Claims.blockStored s t (Claims.storedReg s) (Claims.baseOpen o.w o.rn o.list) o.list
        (Claims.firstAddress o.p o.u (s.reg o.rn) (Claims.count o.list)) := by
  have run := stm1_runs hc hn hlist
  obtain ⟨g, ix, hregs, hg⟩ := storeRegs_spec s o.p o.u o.w o.rn o.list
  obtain ⟨m, im, bus, hstore, hunsplit, hwords⟩ :=
    storeMultiple_of_calm hcalm hab hwf hn o.p o.u o.w o.list g ix id
  rw [hregs, hstore] at run
  exact ⟨_, run, ⟨rfl, hunsplit⟩, blockStored_of_words (hwords _ rfl rfl) hg⟩

/-- STM (2): the registers of the User bank, then the note for the next instruction (R286). -/
theorem stm2_of_calm {o : LdmOps} {s : State} (hc : condPassed o.cond s.cpsr = true) (hcalm : Claims.calm s)
    (hab : Claims.noAborts s) (hwf : s.mem.wf = true) (hlist : o.list ≠ 0#16) (hn : o.rn ≠ 15#4) (hw : o.w = false)
    (husr : s.mode ≠ .usr) (hsys : s.mode ≠ .sys) :
    ∃ t, exec (.stm2 o) s = .next t ∧ Claims.onlyStored { s with bankHazard := true } t s.regs ∧
      Claims.blockStored s t (fun n => if n = 15#4 then Claims.storedReg s n else s.bankReg .usr n) (fun _ => false)
        o.list (Claims.firstAddress o.p o.u (s.reg o.rn) (Claims.count o.list)) := by
  have run := stm2_runs hc hn hlist hw husr hsys
  obtain ⟨m, im, bus, hstore, hunsplit, hwords⟩ :=
    storeMultiple_of_calm hcalm hab hwf hn o.p o.u false o.list s.storeUserReg s.freeIx State.noteUserBank
  rw [hstore] at run
  exact ⟨_, run, ⟨rfl, hunsplit⟩, blockStored_of_words (hwords _ rfl rfl) fun n _ => storeUserReg_eq s n⟩

/-- Settles O38: both forms by the block store they share. -/
theorem storeMultiple : Obligations.StoreMultiple := by
  unfold Obligations.StoreMultiple
  exact ⟨fun _ _ hc _ hcalm hab hwf hlist hn => stm1_of_calm hc hcalm hab hwf hlist hn,
    fun _ _ hc _ hcalm hab hwf hlist hn hw husr hsys => stm2_of_calm hc hcalm hab hwf hlist hn hw husr hsys⟩

/-! ### Swaps -/

/-- The cycle of a locked request (R97). -/
theorem cycle_locked (s : State) (a : Word) (z : Size) (write : Bool) (data : Word) :
    s.cycle (Req.locked a z) write data = Claims.transfer s z a false write false true 0 data := rfl

/-- Settles O40: both swaps by the read and the write of their frame. -/
theorem swapResults : Obligations.SwapResults := by
  unfold Obligations.SwapResults
  intro r hr o s hc ht hcalm hab hwf hn hd hm hnd _
  have run := (swaps_frame r hr o s).trans (swapFrame_of_passed hc hn hd hm hnd)
  rw [swap_of_calm ht hcalm hab r.2 o.rn o.rm hd, cycle_locked, cycle_locked] at run
  exact ⟨_, _, run, fun x => byte_write hwf .., storedInCode_write ..⟩

end Sys2Proof.Proofs
end

section
/-! PROOF. Status registers and the instructions that raise an exception (R300 to R305, R437, R438, R468, R566): MSR bit
by bit through its masks, MRS by the register write it is, SWI and BKPT by the entry each one is. -/

namespace Sys2Proof.Proofs

open Sys2Proof.Machine

/-! ### The masks of MSR -/

/-- Each bit of the field mask selects one byte (R302). -/
theorem bitAt_byteMask : ∀ (m : BitVec 4), ∀ i < 32, bitAt (byteMask m) i = bitAt m (i / 8) := by decide

theorem bitAt_flagsByte : ∀ i < 32, bitAt 0xFF000000#32 i = decide (24 ≤ i) := by decide

theorem bitAt_flagsAndControlByte : ∀ i < 32, bitAt 0xFF0000FF#32 i = decide (24 ≤ i ∨ i < 8) := by decide

theorem bitAt_allButT : ∀ i < 32, bitAt 0xFFFFFFDF#32 i = decide (i ≠ 5) := by decide

theorem bitAt_and (x y : Word) (i : Nat) : bitAt (x &&& y) i = (bitAt x i && bitAt y i) := BitVec.getLsbD_and

theorem bitAt_or (x y : Word) (i : Nat) : bitAt (x ||| y) i = (bitAt x i || bitAt y i) := BitVec.getLsbD_or

theorem bitAt_not (x : Word) {i : Nat} (hi : i < 32) : bitAt (~~~x) i = !bitAt x i := by simp [bitAt, hi]

/-- The CPSR bits an MSR may write, by mode and debug state (R303, R566). -/
theorem bitAt_cpsrMask (s : State) (m : BitVec 4) {i : Nat} (hi : i < 32) :
    bitAt (s.cpsrMask m) i =
      (bitAt m (i / 8) && decide (s.mode ≠ .usr ∨ 24 ≤ i ∨ (s.dbg.active = true ∧ i < 8)) && decide (i ≠ 5)) := by
  rw [State.cpsrMask, bitAt_and, bitAt_allButT i hi]
  by_cases husr : s.mode = .usr
  · cases hact : s.dbg.active with
    | true => simp [husr, bitAt_and, bitAt_byteMask m i hi, bitAt_flagsAndControlByte i hi]
    | false => simp [husr, bitAt_and, bitAt_byteMask m i hi, bitAt_flagsByte i hi]
  · simp [husr, bitAt_byteMask m i hi]

/-- A write under a mask takes the selected bits and keeps the others. -/
theorem bitAt_maskedWrite (p v mask : Word) {i : Nat} (hi : i < 32) :
    bitAt ((p &&& ~~~mask) ||| (v &&& mask)) i = if bitAt mask i then bitAt v i else bitAt p i := by
  rw [bitAt_or, bitAt_and, bitAt_and, bitAt_not mask hi]
  cases bitAt mask i <;> simp

/-! ### MSR -/

section
variable {s : State} (ht : s.thumb = false) (mask : BitVec 4) (v : Word)

include ht in
theorem writePsr_advance (spsr : Bool) :
    (s.writePsr spsr mask v).advance = { s.writePsr spsr mask v with pc := s.pc + 4#32 } := by
  rw [advance_of_arm ((writePsr_thumb s spsr mask v).trans ht), State.writePsr_pc]

theorem writePsr_of_spsr {p : Word} (hspsr : s.spsrOf s.mode = some p) :
    s.writePsr true mask v = s.setSpsrOf s.mode ((p &&& ~~~byteMask mask) ||| (v &&& byteMask mask)) := by
  have saved : s.spsr = some p := hspsr
  simp [State.writePsr, saved]

include ht in
theorem msrDone_writePsr (spsr : Bool) : Claims.msrDone s (s.writePsr spsr mask v).advance spsr mask v := by
  rw [writePsr_advance ht]
  refine ⟨?cpsr, ?saved⟩
  case cpsr =>
    rintro rfl
    refine ⟨rfl, fun i hi => ?_⟩
    rw [← bitAt_cpsrMask s mask hi]
    exact bitAt_maskedWrite s.cpsr v (s.cpsrMask mask) hi
  case saved =>
    rintro p rfl hspsr
    refine ⟨_, by rw [writePsr_of_spsr mask v hspsr], fun i hi => ?_⟩
    rw [bitAt_maskedWrite p v _ hi, bitAt_byteMask mask i hi]

end

/-- Settles O42: both forms by the masked write they share. -/
theorem msrWrites : Obligations.MsrWrites := by
  unfold Obligations.MsrWrites
  refine ⟨fun o s hc ht => ⟨(s.writePsr o.spsr o.mask (rotImm o.rot o.imm8)).advance, ?imm, ?immDone⟩,
    fun o s hc ht hm => ⟨(s.writePsr o.spsr o.mask (s.reg o.rm)).advance, ?reg, msrDone_writePsr ht ..⟩⟩
  case imm => rw [exec_msrImm, execMsrImm, ifPassed_of_passed hc]
  case immDone =>
    rw [← rotImm_eq]
    exact msrDone_writePsr ht ..
  case reg => rw [exec_msrReg, execMsrReg, ifPassed_of_passed hc, if_neg hm]

/-! ### MRS -/

section
variable {o : MrsOps} {s : State} (hc : condPassed o.cond s.cpsr = true) (hd : o.rd ≠ 15#4)
include hc hd

theorem execMrs_of_cpsr (hs : o.spsr = false) : execMrs o s = .next (s.setReg o.rd s.cpsr).advance := by
  simp [execMrs, ifPassed_of_passed hc, hd, hs]

theorem execMrs_of_spsr {p : Word} (hs : o.spsr = true) (hspsr : s.spsrOf s.mode = some p) :
    execMrs o s = .next (s.setReg o.rd p).advance := by
  have saved : s.spsr = some p := hspsr
  simp [execMrs, ifPassed_of_passed hc, hd, hs, saved]

end

/-- Settles O41: either status register is read whole into `Rd`. -/
theorem mrsReads : Obligations.MrsReads := by
  unfold Obligations.MrsReads
  refine fun o s hc ht hd => ⟨fun hs => ?cpsr, fun p hs hspsr => ?spsr⟩
  case cpsr => rw [exec_mrs, execMrs_of_cpsr hc hd hs, setReg_advance ht hd]
  case spsr => rw [exec_mrs, execMrs_of_spsr hc hd hs hspsr, setReg_advance ht hd]

/-! ### SWI and BKPT -/

theorem nextPc_of_arm {s : State} (ht : s.thumb = false) : s.nextPc = s.pc + 4#32 := by
  simp [State.nextPc, State.instrSize, ht]

theorem nextPc_of_thumb {s : State} (ht : s.thumb = true) : s.nextPc = s.pc + 2#32 := by
  simp [State.nextPc, State.instrSize, ht]

theorem softwareInterrupt : Claims.softwareInterrupt := by
  refine ⟨fun o s hc ht => ?arm, fun o s ht => ?thumb⟩
  case arm => rw [exec_swi, execSwi, ifPassed_of_passed hc, State.softwareInterrupt, nextPc_of_arm ht]
  case thumb => rw [exec_tSwi, execTSwi, State.softwareInterrupt, nextPc_of_thumb ht]

/-- Halt-mode debug is on exactly with DBGEN HIGH and monitor mode enable clear (R468, R560). -/
theorem haltMode_iff (s : State) : s.haltMode = true ↔ s.cfg.dbgen = true ∧ bitAt s.ice.control 4 = false := by
  simp [State.haltMode, Ice.monitor]

theorem softBreakpoint_of_exception {s : State} (h : s.cfg.dbgen = false ∨ bitAt s.ice.control 4 = true) :
    s.softBreakpoint = s.takeException .prefetchAbort (s.pc + 4#32) := by
  have noHalt : ¬s.haltMode = true := by
    rw [haltMode_iff]
    rintro ⟨hdbg, hmon⟩
    simp [hdbg, hmon] at h
  rw [State.softBreakpoint, if_neg noHalt, State.prefetchAbort]

theorem softBreakpoint_of_halt {s : State} (hdbg : s.cfg.dbgen = true) (hmon : bitAt s.ice.control 4 = false) :
    s.softBreakpoint = s.enterDebug 0b0011#4 := by
  rw [State.softBreakpoint, if_pos ((haltMode_iff s).2 ⟨hdbg, hmon⟩)]

theorem breakpointInstruction : Claims.breakpointInstruction := by
  intro o o' s
  rw [exec_bkpt, exec_tBkpt, execBkpt, execTBkpt]
  refine ⟨fun h => ?exception, fun hdbg hmon => ?halt⟩
  case exception => rw [softBreakpoint_of_exception h]; exact ⟨rfl, rfl⟩
  case halt =>
    rw [softBreakpoint_of_halt hdbg hmon]
    exact ⟨s.enterDebug 0b0011#4, rfl, rfl, rfl, rfl, rfl, rfl, rfl⟩

/-- Settles O44: SWI by its return address in each state, BKPT by the debug mode in force. -/
theorem swiAndBkpt : Obligations.SwiAndBkpt := ⟨softwareInterrupt, breakpointInstruction⟩

end Sys2Proof.Proofs
end

section
/-! SUPPORT. The handshake of a coprocessor instruction (R320, R326 to R328, R345): which instructions run it, and what
each answer of the script makes of them. -/

namespace Sys2Proof.Proofs

open Sys2Proof.Machine

/-! ### The instructions that are offered -/

theorem cp14Register_iff (op1 : BitVec 3) (crn : BitVec 4) (op2 : BitVec 3) (crm : BitVec 4) :
    cp14Register op1 crn op2 crm = true ↔ op1 = 0#3 ∧ op2 = 0#3 ∧ crm = 0#4 ∧ (crn = 0#4 ∨ crn = 1#4 ∨ crn = 2#4) := by
  simp [cp14Register]

theorem commsForm_of_register {i : Instr} {o : McrOps} (hi : i = .mcr o ∨ i = .mrc o)
    (h : o.cp = 14#4 ∧ cp14Register o.op1 o.crn o.op2 o.crm) : Claims.commsForm i := by
  obtain ⟨hcp, hreg⟩ := h
  obtain ⟨hop1, hop2, hcrm, hcrn⟩ := (cp14Register_iff ..).mp hreg
  exact ⟨o, hi, hcp, hop1, hop2, hcrm, hcrn⟩

section
variable {o : McrOps} {s : State} (hc : condPassed o.cond s.cpsr = true)
include hc

theorem execMcr_of_outside (h : ¬(o.cp = 14#4 ∧ cp14Register o.op1 o.crn o.op2 o.crm)) :
    execMcr o s = moveToCoprocessor (o.word 0b0#1) o.cp o.rd s := by
  rw [execMcr, ifPassed_of_passed hc, if_neg h]

theorem execMrc_of_outside (h : ¬(o.cp = 14#4 ∧ cp14Register o.op1 o.crn o.op2 o.crm)) :
    execMrc o s = moveFromCoprocessor (o.word 0b1#1) o.cp o.rd s := by
  rw [execMrc, ifPassed_of_passed hc, if_neg h]

end

/-- Every coprocessor instruction but R344's six forms runs the one handshake, on the word it is encoded as. -/
theorem exec_of_isCoprocessor {i : Instr} {c : Option Cond} {cp : BitVec 4} {s : State}
    (h : Claims.isCoprocessor i c cp) (hp : Claims.passes c s) (hout : cp = 14#4 → ¬Claims.commsForm i) :
    ∃ w k, encode i = .arm w ∧ exec i s = coprocessor w cp k s := by
  obtain ⟨o, rfl, rfl, rfl⟩ | ⟨o, hi, rfl, rfl⟩ | ⟨o, rfl | rfl, rfl, rfl⟩ | ⟨o, rfl | rfl, rfl, rfl⟩ |
    ⟨o, rfl, rfl, rfl⟩ | ⟨o, rfl | rfl, rfl, rfl⟩ | ⟨o, rfl | rfl, rfl, rfl⟩ := h
  · exact ⟨_, _, rfl, (exec_cdp o s).trans (ifPassed_of_passed (hp _ rfl) _)⟩
  · have outside : ¬(o.cp = 14#4 ∧ cp14Register o.op1 o.crn o.op2 o.crm) :=
      fun hreg => hout hreg.1 (commsForm_of_register hi hreg)
    obtain rfl | rfl := hi
    · exact ⟨_, _, rfl, (exec_mcr o s).trans (execMcr_of_outside (hp _ rfl) outside)⟩
    · exact ⟨_, _, rfl, (exec_mrc o s).trans (execMrc_of_outside (hp _ rfl) outside)⟩
  · exact ⟨_, _, rfl, (exec_mcrr o s).trans (ifPassed_of_passed (hp _ rfl) _)⟩
  · exact ⟨_, _, rfl, (exec_mrrc o s).trans (ifPassed_of_passed (hp _ rfl) _)⟩
  · exact ⟨_, _, rfl, (exec_ldc o s).trans (ifPassed_of_passed (hp _ rfl) _)⟩
  · exact ⟨_, _, rfl, (exec_stc o s).trans (ifPassed_of_passed (hp _ rfl) _)⟩
  · exact ⟨_, _, rfl, exec_cdp2 o s⟩
  · exact ⟨_, _, rfl, (exec_mcr2 o s).trans (by rw [execMcr2, moveToCoprocessor])⟩
  · exact ⟨_, _, rfl, (exec_mrc2 o s).trans (by rw [execMrc2, moveFromCoprocessor])⟩
  · exact ⟨_, _, rfl, (exec_ldc2 o s).trans (by rw [execLdc2, coprocessorLoad])⟩
  · exact ⟨_, _, rfl, (exec_stc2 o s).trans (by rw [execStc2, coprocessorStore])⟩

/-! ### The answers -/

theorem cpAnswer_of_script {s : State} {answer : CpAnswer} {rest : List CpAnswer} (h : s.cpScript = answer :: rest) :
    s.cpAnswer = (answer, { s with cpScript := rest }) := by
  simp [State.cpAnswer, h]

/-- With no script left the answer is ABSENT (R347). -/
theorem cpAnswer_of_empty {s : State} (h : s.cpScript = []) : s.cpAnswer = (.absent, { s with cpScript := [] }) := by
  simp [State.cpAnswer, h]

theorem offer_eq (s : State) (rest : List CpAnswer) (w : Word) :
    State.cpOffer { s with cpScript := rest } w = Claims.offered s w rest [] := by
  rw [Claims.offered, List.append_nil]
  rfl

/-- What the coprocessor is shown after the instruction. -/
theorem offered_append (s : State) (w : Word) (rest : List CpAnswer) (data : List CpEvent) :
    { Claims.offered s w rest [] with cpEvents := (Claims.offered s w rest []).cpEvents ++ data } =
      Claims.offered s w rest data := by
  simp [Claims.offered]

theorem coprocessor_14 (w : Word) (k : Nat → List Word → State → Out) (s : State) :
    coprocessor w 14#4 k s = .next s.undefinedInstr := if_pos rfl

section
variable {s : State} {rest : List CpAnswer} {cp : BitVec 4} (hcp : cp ≠ 14#4) (w : Word)
  (k : Nat → List Word → State → Out)
include hcp

theorem coprocessor_of_absent (h : s.cpAnswer = (.absent, { s with cpScript := rest })) :
    coprocessor w cp k s = .next (Claims.offered s w rest []).undefinedInstr := by
  rw [coprocessor, if_neg hcp, h, ← offer_eq]

theorem coprocessor_of_wait (h : s.cpAnswer = (.wait, { s with cpScript := rest })) :
    coprocessor w cp k s = .next (Claims.offered s w rest []).busyWait := by
  rw [coprocessor, if_neg hcp, h, ← offer_eq]

theorem coprocessor_of_accepted {more : Nat} {ws : List Word} (h : Claims.accepts s more ws rest) :
    coprocessor w cp k s = k more ws (Claims.offered s w rest []) := by
  rw [coprocessor_of_accepts h hcp, offer_of_accepts h]

end

/-! ### Busy-waiting -/

theorem busyWait_of_unarmed {s : State} (h : ∀ m, s.dbg.watch ≠ .armed m) : s.busyWait = s := by
  have same : s.dbg.watch.busy = s.dbg.watch := by
    cases hw : s.dbg.watch with
    | armed m => exact absurd hw (h m)
    | idle | hit | waiting | aborted => rfl
  rw [State.busyWait, same]

theorem busyWait_of_armed {s : State} {m : BitVec 4} (h : s.dbg.watch = .armed m) :
    s.busyWait = { s with dbg := { s.dbg with watch := .waiting m } } := by
  rw [State.busyWait, h, Watch.busy]

end Sys2Proof.Proofs
end

section
/-! PROOF. A coprocessor instruction that is not accepted, or not yet (R306, R327, R328, R344, R345; 92 D22): each
answer by what the handshake makes of it. -/

namespace Sys2Proof.Proofs

open Sys2Proof.Machine

theorem absentCoprocessor : Claims.absentCoprocessor := by
  intro i c cp s rest hi hp hcp hdbg hscript
  obtain ⟨w, k, henc, hexec⟩ := exec_of_isCoprocessor hi hp (absurd · hcp)
  have answer : s.cpAnswer = (.absent, { s with cpScript := rest }) := by
    obtain h | ⟨h, rfl⟩ := hscript
    · exact cpAnswer_of_script h
    · exact cpAnswer_of_empty h
  rw [coprocessor_of_absent hcp w k answer, undefinedInstr_of_off (by exact hdbg)] at hexec
  exact ⟨w, henc, hexec⟩

theorem commsOnly : Claims.commsOnly := by
  intro i c s hi hp hform hdbg
  obtain ⟨w, k, -, hexec⟩ := exec_of_isCoprocessor hi hp fun _ => hform
  rw [hexec, coprocessor_14, undefinedInstr_of_off hdbg]

theorem busyWait : Claims.busyWait := by
  intro i c cp s rest hi hp hcp hscript
  obtain ⟨w, k, henc, hexec⟩ := exec_of_isCoprocessor hi hp (absurd · hcp)
  rw [coprocessor_of_wait hcp w k (cpAnswer_of_script hscript)] at hexec
  refine ⟨w, henc, fun hunarmed => ?_, fun m harmed => ?_⟩
  · rw [hexec, busyWait_of_unarmed (by exact hunarmed)]
  · rw [hexec, busyWait_of_armed (by exact harmed)]
    rfl

/-- Settles O48: ABSENT, coprocessor 14 and WAIT, over the one handshake. -/
theorem absentAndBusy : Obligations.AbsentAndBusy := by
  unfold Obligations.AbsentAndBusy
  exact ⟨absentCoprocessor, commsOnly, busyWait⟩

end Sys2Proof.Proofs
end

section
/-! SUPPORT. The register transfers of a coprocessor instruction (R86, R95, R333, R334, R343): the C cycle of a word,
the words shown, and the destination of MRC. -/

namespace Sys2Proof.Proofs

open Sys2Proof.Machine

theorem cpTransfer_eq (s : State) (write : Bool) (v : Word) :
    s.cpTransfer write v = { s with bus := s.bus ++ [Claims.cCycle s write v] } := rfl

/-- MCR's word in each GO cycle for coprocessor 15, then in its C cycle (R343). -/
theorem cpDrive_send (s : State) (cp : BitVec 4) (more : Nat) (v : Word) :
    ((s.cpDrive cp more v).cpTransfer true v).cpSend v =
      { s with cpEvents := s.cpEvents ++ Claims.moved cp more v, bus := s.bus ++ [Claims.cCycle s true v] } := by
  unfold State.cpDrive Claims.moved
  split
  · simp [State.cpSend, cpTransfer_eq, Claims.cCycle, Claims.transfer, State.privileged, State.mode]
  · rfl

/-- The two C cycles of a double transfer, in order (R335, R336). -/
theorem cpTransfer_two (s : State) (write : Bool) (v v' : Word) :
    (s.cpTransfer write v).cpTransfer write v' =
      { s with bus := s.bus ++ [Claims.cCycle s write v, Claims.cCycle s write v'] } := by
  rw [cpTransfer_eq, cpTransfer_eq, List.append_cons s.bus _ [_]]
  rfl

theorem cpSend_two (s : State) (v v' : Word) :
    (s.cpSend v).cpSend v' = { s with cpEvents := s.cpEvents ++ [.received v, .received v'] } := by
  rw [List.append_cons s.cpEvents _ [_]]
  rfl

theorem suppliedWords_two (d e : Word) (ds : List Word) (s : State) :
    suppliedWords 2 (d :: e :: ds) s = ([d, e], s) := rfl

/-- A bit is the field of its own. -/
theorem bit_bitAt (d : Word) (i : Nat) : bit (bitAt d i) = fld d i 1 := by
  apply BitVec.eq_of_getLsbD_eq
  intro j hj
  obtain rfl : j = 0 := by omega
  simp [bit, bitAt, fld]

/-- Bits 31:28 of a word in the condition flags (R334). -/
theorem setPsrNZCV_top (p d : Word) :
    setPsrNZCV p (bitAt d 31) (bitAt d 30) (bitAt d 29) (bitAt d 28) = (fld d 28 4 ++ fld p 0 28 : BitVec 32) := by
  have field : bit (bitAt d 31) ++ bit (bitAt d 30) ++ bit (bitAt d 29) ++ bit (bitAt d 28) = fld d 28 4 := by
    rw [bit_bitAt, bit_bitAt, bit_bitAt, bit_bitAt, fld_join d 30 1 1, fld_join d 29 1 2, fld_join d 28 1 3]
  rw [setPsrNZCV_eq, Claims.flagWord, field]

/-- An MRC's word in its C cycle, then in Rd or in the flags (R334). -/
theorem writeMrc_advance {s : State} (ht : s.thumb = false) (rd : Reg) (d : Word) :
    ((s.cpTransfer false d).writeMrc rd d).advance = Claims.received s rd d := by
  unfold State.writeMrc Claims.received
  dsimp only
  split
  next =>
    have arm : ((s.cpTransfer false d).setCpsr (setPsrNZCV s.cpsr (bitAt d 31) (bitAt d 30) (bitAt d 29)
        (bitAt d 28))).thumb = false := (psrT_setPsrNZCV ..).trans ht
    rw [advance_of_arm (by exact arm), setPsrNZCV_top]
    rfl
  next hd => exact setReg_advance (s := s.cpTransfer false d) ht hd d

end Sys2Proof.Proofs
end

section
/-! PROOF. The register transfers that a coprocessor accepts (R330, R333 to R336, R338, R343): each instruction by the
handshake, then by the words it moves. -/

namespace Sys2Proof.Proofs

open Sys2Proof.Machine

section
variable {s : State} {more : Nat} {ws : List Word} {rest : List CpAnswer} (h : Claims.accepts s more ws rest)
  (ht : s.thumb = false) {cp : BitVec 4} (hcp : cp ≠ 14#4) (w : Word)
include h ht hcp

theorem coprocessor_advance : coprocessor w cp (fun _ _ t => .next t.advance) s =
    .next { Claims.offered s w rest [] with pc := s.pc + 4#32 } := by
  rw [coprocessor_of_accepted hcp w _ h, advance_of_arm (by exact ht)]
  rfl

/-- MCR and MCR2 (R333, R343). -/
theorem moveToCoprocessor_of_accepts {rd : Reg} (hd : rd ≠ 15#4) : moveToCoprocessor w cp rd s =
    .next { Claims.offered s w rest (Claims.moved cp more (s.reg rd)) with
      bus := s.bus ++ [Claims.cCycle s true (s.reg rd)], pc := s.pc + 4#32 } := by
  rw [moveToCoprocessor, coprocessor_of_accepted hcp w _ h, State.mcrWord, if_neg hd]
  dsimp only
  rw [cpDrive_send, advance_of_arm (by exact ht), ← offered_append s w rest (Claims.moved ..)]
  rfl

/-- MRC and MRC2 (R334). -/
theorem moveFromCoprocessor_of_accepts {d : Word} {ds : List Word} (hws : ws = d :: ds) (rd : Reg) :
    moveFromCoprocessor w cp rd s = .next (Claims.received (Claims.offered s w rest []) rd d) := by
  subst hws
  rw [moveFromCoprocessor, coprocessor_of_accepted hcp w _ h]
  exact congrArg _ (writeMrc_advance (by exact ht) rd d)

end

/-- Settles O49: CDP changes nothing, a word to the coprocessor is shown, a word from it is received, and the double
transfers move their two words in order. -/
theorem coprocessorTransfers : Obligations.CoprocessorTransfers := by
  unfold Obligations.CoprocessorTransfers
  intro s more ws rest h ht
  refine ⟨fun o hc hcp => ⟨_, rfl, ?cdp⟩, fun o hcp => ⟨_, rfl, ?cdp2⟩, fun o hc hcp hd => ⟨_, rfl, ?mcr⟩,
    fun o hcp hd => ⟨_, rfl, ?mcr2⟩, fun o d ds hc hcp hws => ⟨_, rfl, ?mrc⟩, fun o d ds hcp hws => ⟨_, rfl, ?mrc2⟩,
    fun o hc hcp hd hn => ⟨_, rfl, ?mcrr⟩, fun o d e ds hc hcp hd hn hdn hws => ⟨_, rfl, ?mrrc⟩⟩
  case cdp => rw [exec_cdp, execCdp, ifPassed_of_passed hc, coprocessor_advance h ht hcp]
  case cdp2 => rw [exec_cdp2, execCdp2, coprocessor_advance h ht hcp]
  case mcr =>
    rw [exec_mcr, execMcr_of_outside hc fun hreg => hcp hreg.1, moveToCoprocessor_of_accepts h ht hcp _ hd]
  case mcr2 => rw [exec_mcr2, execMcr2, moveToCoprocessor_of_accepts h ht hcp _ hd]
  case mrc =>
    rw [exec_mrc, execMrc_of_outside hc fun hreg => hcp hreg.1, moveFromCoprocessor_of_accepts h ht hcp _ hws]
  case mrc2 => rw [exec_mrc2, execMrc2, moveFromCoprocessor_of_accepts h ht hcp _ hws]
  case mcrr =>
    rw [exec_mcrr, execMcrr, ifPassed_of_passed hc, coprocessor_of_accepted hcp _ _ h, if_neg (by simp [hd, hn])]
    dsimp only
    rw [cpTransfer_two, cpSend_two, advance_of_arm (by exact ht), ← offered_append s _ rest [_, _]]
    rfl
  case mrrc =>
    rw [exec_mrrc, execMrrc, ifPassed_of_passed hc, coprocessor_of_accepted hcp _ _ h, if_neg (by simp [hd, hn]),
      if_neg hdn, hws, suppliedWords_two]
    dsimp only [List.headD_cons]
    rw [cpTransfer_two, setReg_of_ne_pc _ hd, setReg_of_ne_pc _ hn, advance_of_arm (by exact ht)]
    rfl

end Sys2Proof.Proofs
end

section
/-! PROOF. The words of LDC and STC with nothing aborted (R331, R332, R337): between memory and the coprocessor, then
the base. -/

namespace Sys2Proof.Proofs

open Sys2Proof.Machine

/-- A base that may be written back where no register but it is named. -/
theorem baseFree_of_ne_pc {a : Addressed} {rn : Reg} (h : a.writeback.isSome = true → rn ≠ 15#4) :
    Claims.baseFree a rn 15#4 none :=
  ⟨nofun, fun hw => ⟨h hw, h hw, nofun⟩⟩

/-- A burst that was read whole goes to the coprocessor whole (R331). -/
theorem sendWords_wordsAt (s : State) (a : Word) (n : Nat) (t : State) :
    sendWords ((Claims.wordsAt s a n).map some) t =
      { t with cpEvents := t.cpEvents ++ (Claims.wordsAt s a n).map .received } := by
  have whole : (List.range n).takeWhile (fun _ => true) = List.range n := List.takeWhile_eq_self_iff.mpr fun _ _ => rfl
  simpa [Claims.wordsAt, Function.comp_def, whole] using sendWords_takeWhile (fun _ => false)
    (fun i => s.mem.word s.cfg.bigEnd (align4 (a + 4#32 * BitVec.ofNat 32 i))) (List.range n) t

section
variable {s : State} (hcalm : Claims.calm s) (hab : Claims.noAborts s) {rn : Reg} {a : Addressed}
  (hfree : a.writeback.isSome = true → rn ≠ 15#4)
include hcalm hab hfree

theorem loadCoprocessor_of_calm (ht : s.thumb = false) (n : Nat) : ∃ bus, s.loadCoprocessor n rn a = { s with
    cpEvents := s.cpEvents ++ (Claims.wordsAt s a.addr n).map .received
    regs := Claims.basedRegs s rn a, pc := s.pc + 4#32, bus := bus } := by
  obtain ⟨bus, hread⟩ := readWords_of_calm hcalm hab n a.addr false 0
  refine ⟨bus, ?_⟩
  unfold State.loadCoprocessor
  rw [hread]
  dsimp only
  rw [if_pos (by simp), sendWords_wordsAt, writeBack_eq (baseFree_of_ne_pc hfree), advance_of_arm (by exact ht)]
  rfl

theorem storeCoprocessor_of_calm (hwf : s.mem.wf = true) {vs : List Word} (hlen : vs.length ≤ 2 ^ 30) :
    ∃ t, s.storeCoprocessor vs rn a = t ∧ Claims.onlyStored s t (Claims.basedRegs s rn a) ∧
      Claims.wordsStored s t a.addr vs := by
  obtain ⟨m, im, bus, hwrite, hstored⟩ := writeWords_of_off hcalm hwf hlen a.addr false 0
  rw [allServed_of_noAborts hab] at hwrite
  refine ⟨State.advance { s with mem := m, imem := im, regs := Claims.basedRegs s rn a, bus := bus }, ?_,
    ⟨rfl, hstored.unsplit⟩, hstored.wordsStored hab⟩
  unfold State.storeCoprocessor
  rw [hwrite]
  dsimp only
  rw [if_pos rfl, writeBack_eq (baseFree_of_ne_pc hfree)]
  rfl

end

/-- What is said of an accepted LDC or LDC2 of `n` words from `a`. -/
def LoadsCoprocessor (i : Instr) (s : State) (rest : List CpAnswer) (rn : Reg) (a : Addressed) (n : Nat) : Prop :=
  ∃ w t, encode i = .arm w ∧ exec i s = .next t ∧
    t = { Claims.offered s w rest ((Claims.wordsAt s a.addr n).map .received) with
      regs := Claims.basedRegs s rn a, pc := s.pc + 4#32, bus := t.bus }

/-- What is said of an accepted STC or STC2 of the words `ws` from `a` on. -/
def StoresCoprocessor (i : Instr) (s : State) (rest : List CpAnswer) (rn : Reg) (a : Addressed) (ws : List Word) :
    Prop :=
  ∃ w t, encode i = .arm w ∧ exec i s = .next t ∧
    Claims.onlyStored (Claims.offered s w rest []) t (Claims.basedRegs s rn a) ∧ Claims.wordsStored s t a.addr ws

section
variable {s : State} {more : Nat} {ws : List Word} {rest : List CpAnswer} (h : Claims.accepts s more ws rest)
  (hcalm : Claims.calm s) (hab : Claims.noAborts s) {i : Instr} {w : Word} (henc : encode i = .arm w) {cp : BitVec 4}
  (hcp : cp ≠ 14#4) {rn : Reg} {a : State → Addressed} {addressed : Addressed}
  (ha : a (Claims.offered s w rest []) = addressed) (hfree : addressed.writeback.isSome = true → rn ≠ 15#4)
include h hcalm hab henc hcp ha hfree

theorem loadsCoprocessor_of_run (ht : s.thumb = false) (hrun : exec i s = coprocessorLoad w cp rn a s) :
    LoadsCoprocessor i s rest rn addressed (more + 1) := by
  obtain ⟨bus, hload⟩ := loadCoprocessor_of_calm (s := Claims.offered s w rest []) hcalm hab hfree (by exact ht)
    (more + 1)
  rw [coprocessorLoad, coprocessor_of_accepted hcp w _ h, ha, if_neg fun hpc => hfree hpc.2 hpc.1, hload] at hrun
  refine ⟨w, _, henc, hrun, ?_⟩
  rw [← offered_append s w rest (List.map ..)]
  rfl

theorem storesCoprocessor_of_run (hwf : s.mem.wf = true) (hmore : more < 2 ^ 30) (hlen : ws.length = more + 1)
    (hrun : exec i s = coprocessorStore w cp rn a s) : StoresCoprocessor i s rest rn addressed ws := by
  obtain ⟨t, hstore, honly, hwords⟩ := storeCoprocessor_of_calm (s := Claims.offered s w rest []) hcalm hab hfree hwf
    (vs := ws) (by omega)
  rw [coprocessorStore, coprocessor_of_accepted hcp w _ h, ha, if_neg fun hpc => hfree hpc.2 hpc.1] at hrun
  dsimp only at hrun
  rw [suppliedWords_of_length hlen, hstore] at hrun
  exact ⟨w, t, henc, hrun, honly, hwords⟩

end

/-- Settles O50: the four forms by the two transfers they run. -/
theorem coprocessorMemory : Obligations.CoprocessorMemory := by
  unfold Obligations.CoprocessorMemory
  intro s more ws rest h ht hcalm hab hwf hmore hlen
  have small : more < 2 ^ 30 := by omega
  exact ⟨fun o hc hcp hfree =>
      ⟨loadsCoprocessor_of_run h hcalm hab rfl hcp rfl hfree ht ((exec_ldc o s).trans (ifPassed_of_passed hc _)),
        storesCoprocessor_of_run h hcalm hab rfl hcp rfl hfree hwf small hlen
          ((exec_stc o s).trans (ifPassed_of_passed hc _))⟩,
    fun o hcp hfree => ⟨loadsCoprocessor_of_run h hcalm hab rfl hcp rfl hfree ht (exec_ldc2 o s),
      storesCoprocessor_of_run h hcalm hab rfl hcp rfl hfree hwf small hlen (exec_stc2 o s)⟩⟩

end Sys2Proof.Proofs
end

section
/-! PROOF. The debug communications channel (R334, R344; 92 D22): what each of its three registers reads and takes. -/

namespace Sys2Proof.Proofs

open Sys2Proof.Machine

/-! ### Reads -/

theorem cp14Value_status {s : State} (htrst : s.pins.nTRST = true) :
    s.cp14Value 0#4 = (0b0110#4 ++ 0#26 ++ bit s.ice.w ++ bit s.ice.r : BitVec 32) := by
  rw [State.cp14Value, if_pos rfl, State.commsStatus, if_pos htrst, commsControl]

theorem cp14Value_data (s : State) : s.cp14Value 1#4 = s.ice.dccRd := rfl

theorem cp14Value_abort (s : State) : s.cp14Value 2#4 = if s.ice.dbgAbt then 1#32 else 0#32 := by
  change zext (bit s.ice.dbgAbt) = _
  cases s.ice.dbgAbt <;> rfl

/-! ### Writes -/

theorem cp14Write_data {s : State} (htrst : s.pins.nTRST = true) (v : Word) :
    s.cp14Write 1#4 v = { s with ice := { s.ice with dccWr := v, w := true } } := by
  rw [State.cp14Write, if_pos rfl, htrst]

theorem cp14Write_abort {s : State} (htrst : s.pins.nTRST = true) (v : Word) :
    s.cp14Write 2#4 v = { s with ice := { s.ice with dbgAbt := bitAt v 0 } } := by
  rw [State.cp14Write, if_neg (by decide), if_pos rfl, htrst, Bool.true_and]

/-! ### The transfers -/

/-- What is received does not hang on the debug registers. -/
theorem received_ice (s : State) (ice : Ice) (rd : Reg) (d : Word) :
    Claims.received { s with ice := ice } rd d = { Claims.received s rd d with ice := ice } := by
  unfold Claims.received
  dsimp only
  split <;> rfl

/-- A write's C cycle and its registers are apart. -/
theorem cp14Write_advance {s : State} (ht : s.thumb = false) (crn : BitVec 4) (v : Word) :
    ((s.cpTransfer true v).cp14Write crn v).advance =
      { s.cp14Write crn v with bus := s.bus ++ [Claims.cCycle s true v], pc := s.pc + 4#32 } := by
  rw [advance_of_arm (by simpa using ht)]
  unfold State.cp14Write
  split
  next => rfl
  next => split <;> rfl

section
variable {o : McrOps} {s : State} (hc : condPassed o.cond s.cpsr = true) (ht : s.thumb = false)
  (h : o.cp = 14#4 ∧ cp14Register o.op1 o.crn o.op2 o.crm)
include hc ht h

theorem execMrc_of_register {crn : BitVec 4} (hcrn : o.crn = crn) :
    execMrc o s = .next (Claims.received (s.cp14AfterRead crn) o.rd (s.cp14Value crn)) := by
  rw [execMrc, ifPassed_of_passed hc, if_pos h]
  dsimp only
  rw [writeMrc_advance (by simpa using ht), hcrn]

theorem execMcr_of_register (hd : o.rd ≠ 15#4) {crn : BitVec 4} (hcrn : o.crn = crn) :
    execMcr o s = .next { s.cp14Write crn (s.reg o.rd) with
      bus := s.bus ++ [Claims.cCycle s true (s.reg o.rd)], pc := s.pc + 4#32 } := by
  rw [execMcr, ifPassed_of_passed hc, if_pos h, State.mcrWord, if_neg hd]
  dsimp only
  rw [cp14Write_advance ht, hcrn]

end

/-- Settles O51: a form of R344 with each of its three registers. -/
theorem commsChannel : Obligations.CommsChannel := by
  unfold Obligations.CommsChannel
  intro o s hc ht htrst hcp hop1 hop2 hcrm
  have register (hcrn : o.crn = 0#4 ∨ o.crn = 1#4 ∨ o.crn = 2#4) :
      o.cp = 14#4 ∧ cp14Register o.op1 o.crn o.op2 o.crm :=
    ⟨hcp, (cp14Register_iff ..).mpr ⟨hop1, hop2, hcrm, hcrn⟩⟩
  refine ⟨fun hcrn => ?readStatus, fun hcrn => ?readData, fun hcrn => ?readAbort, fun hd hcrn => ?writeStatus,
    fun hd hcrn => ?writeData, fun hd hcrn => ?writeAbort⟩
  case readStatus =>
    rw [exec_mrc, execMrc_of_register hc ht (register (.inl hcrn)) hcrn, cp14Value_status htrst]
    rfl
  case readData =>
    rw [exec_mrc, execMrc_of_register hc ht (register (.inr (.inl hcrn))) hcrn, cp14Value_data]
    exact congrArg _ (received_ice ..)
  case readAbort =>
    rw [exec_mrc, execMrc_of_register hc ht (register (.inr (.inr hcrn))) hcrn, cp14Value_abort]
    rfl
  case writeStatus =>
    rw [exec_mcr, execMcr_of_register hc ht (register (.inl hcrn)) hd hcrn]
    rfl
  case writeData =>
    rw [exec_mcr, execMcr_of_register hc ht (register (.inr (.inl hcrn))) hd hcrn, cp14Write_data htrst]
  case writeAbort =>
    rw [exec_mcr, execMcr_of_register hc ht (register (.inr (.inr hcrn))) hd hcrn, cp14Write_abort htrst]

end Sys2Proof.Proofs
end

section
/-! PROOF. Thumb data processing (R350 to R387): the results and flags of the operations on low registers by the
operations of the spec, the operations on any register by the write they end in. -/

namespace Sys2Proof.Proofs

open Sys2Proof.Machine

/-! ### Results and flags -/

section
variable {op : AluOp} {a : Claims.AluSpec} (hop : Implements op a) {s : State} (ht : s.thumb = true)
include hop ht

/-- Rd, the flags and the pc change (R350, R351). -/
theorem thumbResult_eq_thumbNext (rd : LowReg) {r : State → Word × Word} {x : Word} {b : Shifted}
    (hr : r s = op x b s.cpsr) : thumbResult rd r s = .next (Claims.thumbNext a s rd x b) := by
  have thumb (v : Word) : ((s.setReg (low rd) v).setCpsr (a.flags x b s.cpsr)).thumb = true :=
    (psrT_flags a x b s.cpsr).trans ht
  rw [thumbResult, hr, hop, advance_of_thumb (thumb _), setReg_of_ne_pc s (low_ne_pc rd)]
  rfl

/-- The flags and the pc change (R350, R351). -/
theorem thumbCompare_eq_thumbFlags {r : State → Word × Word} {x : Word} {b : Shifted} (hr : r s = op x b s.cpsr) :
    thumbCompare r s = .next (Claims.thumbFlags a s x b) := by
  have thumb : (s.setCpsr (a.flags x b s.cpsr)).thumb = true := (psrT_flags a x b s.cpsr).trans ht
  rw [thumbCompare, hr, hop, advance_of_thumb thumb]
  rfl

/-- Format 4 with a result: Rd and Rs are the operands. -/
theorem thumbAlu_completes {c : TAluOps → Instr}
    (hrun : ∀ o s, exec (c o) s = thumbResult o.rd (fun s => s.thumbAlu op o) s) (o : TAluOps) :
    exec (c o) s = .next (Claims.thumbNext a s o.rd (s.reg (low o.rd)) ⟨s.reg (low o.rs), psrC s.cpsr⟩) :=
  (hrun o s).trans (thumbResult_eq_thumbNext hop ht o.rd rfl)

/-- Format 4 with flags only. -/
theorem thumbComparison_completes {c : TAluOps → Instr}
    (hrun : ∀ o s, exec (c o) s = thumbCompare (fun s => s.thumbAlu op o) s) (o : TAluOps) :
    exec (c o) s = .next (Claims.thumbFlags a s (s.reg (low o.rd)) ⟨s.reg (low o.rs), psrC s.cpsr⟩) :=
  (hrun o s).trans (thumbCompare_eq_thumbFlags hop ht rfl)

end

/-- A reversed subtraction from 0 is the subtraction with its operands exchanged (R372). -/
theorem thumbNext_rsb_zero (s : State) (rd : LowReg) (x : Word) (c : Bool) :
    Claims.thumbNext Claims.rsbSpec s rd x ⟨0, c⟩ = Claims.thumbNext Claims.subSpec s rd 0 ⟨x, c⟩ := by
  have value : Claims.rsbSpec.value x 0 (psrC s.cpsr) = Claims.subSpec.value 0 x (psrC s.cpsr) :=
    congrArg (· + _) (BitVec.add_comm (~~~x) 0)
  have flags : Claims.rsbSpec.flags x ⟨0, c⟩ s.cpsr = Claims.subSpec.flags 0 ⟨x, c⟩ s.cpsr := by
    unfold Claims.AluSpec.flags
    rw [value]
    dsimp only [Claims.rsbSpec, Claims.subSpec]
    rw [Nat.add_comm (BitVec.toNat (~~~x))]
    congr 1
    grind
  simp only [Claims.thumbNext, value, flags]

/-- Settles O52: each operation by the operation of the spec it computes. -/
theorem thumbAluResults : Obligations.ThumbAluResults := by
  unfold Obligations.ThumbAluResults
  intro o s ht
  simp only [List.forall_mem_cons, List.not_mem_nil, false_implies, implies_true, and_true]
  refine ⟨⟨?and, ?eor, ?adc, ?sbc, ?orr, ?bic, ?mvn⟩, ⟨?tst, ?cmp, ?cmn⟩, ?neg, fun _ => thumbMulResult_of_thumb ht o⟩
  case and => exact thumbAlu_completes (op := aluAnd) (logicalOp_implements _) ht exec_tAnd o
  case eor => exact thumbAlu_completes (op := aluEor) (logicalOp_implements _) ht exec_tEor o
  case adc => exact thumbAlu_completes (op := aluAdc) (arithmeticOp_implements _ _ _) ht exec_tAdc o
  case sbc => exact thumbAlu_completes (op := aluSbc) (arithmeticOp_implements _ _ _) ht exec_tSbc o
  case orr => exact thumbAlu_completes (op := aluOrr) (logicalOp_implements _) ht exec_tOrr o
  case bic => exact thumbAlu_completes (op := aluBic) (logicalOp_implements _) ht exec_tBic o
  case mvn => exact thumbAlu_completes (op := aluMvn) (logicalOp_implements _) ht exec_tMvn o
  case tst => exact thumbComparison_completes (op := aluTst) (logicalOp_implements _) ht exec_tTst o
  case cmp => exact thumbComparison_completes (op := aluCmp) (arithmeticOp_implements _ _ _) ht exec_tCmpLow o
  case cmn => exact thumbComparison_completes (op := aluCmn) (arithmeticOp_implements _ _ _) ht exec_tCmn o
  case neg =>
    have reversed : Implements aluRsb Claims.rsbSpec := arithmeticOp_implements _ _ _
    rw [exec_tNeg, execTNeg, thumbResult_eq_thumbNext reversed ht o.rd rfl]
    exact congrArg Host.Outcome.next (thumbNext_rsb_zero ..)

/-! ### Shifts -/

section
variable {s : State} (ht : s.thumb = true) {ty : ShiftTy}
include ht

/-- A shift by an immediate is a move of the shifter's value, with its carry (R352 to R354). -/
theorem thumbShiftImm_completes {c : TShiftImmOps → Instr}
    (hrun : ∀ o s, exec (c o) s = thumbResult o.rd (fun s => s.thumbShiftImm ty o) s) (o : TShiftImmOps) :
    exec (c o) s = .next (Claims.thumbNext Claims.movSpec s o.rd 0#32
      ⟨(Claims.shiftImmSpec ty o.imm5.toNat (s.reg (low o.rs)) (psrC s.cpsr)).1,
        (Claims.shiftImmSpec ty o.imm5.toNat (s.reg (low o.rs)) (psrC s.cpsr)).2⟩) := by
  rw [← shiftImm_spec]
  exact (hrun o s).trans (thumbResult_eq_thumbNext (op := aluMov) (logicalOp_implements _) ht o.rd rfl)

/-- A shift by the bottom byte of a register (R365 to R367, R370). -/
theorem thumbShift_completes {c : TAluOps → Instr}
    (hrun : ∀ o s, exec (c o) s = thumbResult o.rd (fun s => s.thumbShift ty o) s) (o : TAluOps) :
    exec (c o) s = .next (Claims.thumbNext Claims.movSpec s o.rd 0#32
      ⟨(Claims.shiftRegSpec ty ((s.reg (low o.rs)).setWidth 8).toNat (s.reg (low o.rd)) (psrC s.cpsr)).1,
        (Claims.shiftRegSpec ty ((s.reg (low o.rs)).setWidth 8).toNat (s.reg (low o.rd)) (psrC s.cpsr)).2⟩) := by
  have amount : ((s.reg (low o.rs)).setWidth 8).toNat = s.shiftCount (low o.rs) :=
    congrArg BitVec.toNat (fld_eq_setWidth (s.reg (low o.rs)) 0 8).symm
  rw [amount, ← shiftReg_spec]
  exact (hrun o s).trans (thumbResult_eq_thumbNext (op := aluMov) (logicalOp_implements _) ht o.rd rfl)

end

/-- Settles O53: each shift as a move of the shifter operand. -/
theorem thumbShiftResults : Obligations.ThumbShiftResults := by
  unfold Obligations.ThumbShiftResults
  simp only [List.forall_mem_cons, List.not_mem_nil, false_implies, implies_true, and_true]
  exact ⟨fun o s ht => ⟨thumbShiftImm_completes ht exec_tLslImm o, thumbShiftImm_completes ht exec_tLsrImm o,
      thumbShiftImm_completes ht exec_tAsrImm o⟩,
    fun o s ht => ⟨thumbShift_completes ht exec_tLslReg o, thumbShift_completes ht exec_tLsrReg o,
      thumbShift_completes ht exec_tAsrReg o, thumbShift_completes ht exec_tRor o⟩⟩

/-! ### Additions, subtractions, moves and comparisons -/

/-- Settles O54: each form by the operation of the spec it computes. -/
theorem thumbAddSubResults : Obligations.ThumbAddSubResults := by
  unfold Obligations.ThumbAddSubResults
  intro s ht
  have add : Implements aluAdd Claims.addSpec := arithmeticOp_implements _ _ _
  have sub : Implements aluSub Claims.subSpec := arithmeticOp_implements _ _ _
  have cmp : Implements aluCmp Claims.subSpec := arithmeticOp_implements _ _ _
  have mov : Implements aluMov Claims.movSpec := logicalOp_implements _
  refine ⟨fun o => ⟨?addReg, ?subReg⟩, fun o => ⟨?addImm3, ?subImm3⟩, fun o => ⟨?movImm, ?addImm8, ?subImm8, ?cmpImm⟩⟩
  case addReg => exact (exec_tAddReg o s).trans (thumbResult_eq_thumbNext add ht o.rd rfl)
  case subReg => exact (exec_tSubReg o s).trans (thumbResult_eq_thumbNext sub ht o.rd rfl)
  case addImm3 => exact (exec_tAddImm3 o s).trans (thumbResult_eq_thumbNext add ht o.rd rfl)
  case subImm3 => exact (exec_tSubImm3 o s).trans (thumbResult_eq_thumbNext sub ht o.rd rfl)
  case movImm => exact (exec_tMovImm o s).trans (thumbResult_eq_thumbNext mov ht o.rd rfl)
  case addImm8 => exact (exec_tAddImm8 o s).trans (thumbResult_eq_thumbNext add ht o.rd rfl)
  case subImm8 => exact (exec_tSubImm8 o s).trans (thumbResult_eq_thumbNext sub ht o.rd rfl)
  case cmpImm => exact (exec_tCmpImm o s).trans (thumbCompare_eq_thumbFlags cmp ht rfl)

/-! ### Any registers -/

section
variable {s : State} (ht : s.thumb = true)
include ht

/-- A result without flags: Rd and the pc change (R387). -/
theorem setReg_advance_of_thumb {rd : Reg} (hd : rd ≠ 15#4) (v : Word) :
    (s.setReg rd v).advance = { s with regs := s.regs.set (physIx s.mode rd) v, pc := s.pc + 2#32 } := by
  rw [advance_of_thumb (by simpa using ht), setReg_of_ne_pc s hd]

/-- A branch that stays in Thumb state (R387). -/
theorem writePc_of_thumb (v : Word) : s.writePc v = { s with pc := align2 v, fetchQ := [] } := by
  simp [State.writePc, State.branchTo, alignPc, ht]

theorem writeHigh_of_ne_pc {rd : Reg} (hd : rd ≠ 15#4) (v : Word) :
    s.writeHigh rd v = { s with regs := s.regs.set (physIx s.mode rd) v, pc := s.pc + 2#32 } := by
  rw [State.writeHigh, if_neg hd, setReg_advance_of_thumb ht hd]

theorem writeHigh_pc (v : Word) : s.writeHigh 15#4 v = { s with pc := align2 v, fetchQ := [] } := by
  rw [State.writeHigh, if_pos rfl, writePc_of_thumb ht]

theorem pcOperand_of_thumb : s.pcOperand = s.pc + 4#32 := by simp [State.pcOperand, ht]

theorem reg_pc_of_thumb : s.reg 15#4 = s.pc + 4#32 := by rw [State.reg, if_pos rfl, pcOperand_of_thumb ht]

end

/-- Settles O55: each form by the write it ends in. -/
theorem thumbHighRegisters : Obligations.ThumbHighRegisters := by
  unfold Obligations.ThumbHighRegisters
  intro s ht
  have cmp : Implements aluCmp Claims.subSpec := arithmeticOp_implements _ _ _
  refine ⟨fun o => ⟨fun hd => ⟨?addHi, ?movHi, ?cmpHi⟩, fun hd => ⟨?addToPc, ?movToPc⟩⟩,
    fun o => ⟨?addPc, ?addSp⟩, fun o => ⟨?incSp, ?decSp⟩⟩
  case addHi => rw [exec_tAddHi, execTAddHi, writeHigh_of_ne_pc ht hd]
  case movHi => rw [exec_tMovHi, execTMovHi, writeHigh_of_ne_pc ht hd]
  case cmpHi => rw [exec_tCmpHi, execTCmpHi, if_neg hd, thumbCompare_eq_thumbFlags cmp ht rfl]; rfl
  case addToPc => rw [exec_tAddHi, execTAddHi, hd, writeHigh_pc ht, reg_pc_of_thumb ht]
  case movToPc => rw [exec_tMovHi, execTMovHi, hd, writeHigh_pc ht]
  case addPc =>
    rw [exec_tAddPc, execTAddPc, pcOperand_of_thumb ht, setReg_advance_of_thumb ht (low_ne_pc o.rd)]
    rfl
  case addSp =>
    rw [exec_tAddSp, execTAddSp, setReg_advance_of_thumb ht (low_ne_pc o.rd)]
    rfl
  case incSp =>
    rw [exec_tIncSp, execTIncSp, setReg_advance_of_thumb ht (by decide)]
    rfl
  case decSp =>
    rw [exec_tDecSp, execTDecSp, setReg_advance_of_thumb ht (by decide)]
    rfl

end Sys2Proof.Proofs
end

section
/-! PROOF. Thumb branches (R432 to R436): B, BX and BLX by the writes of the pc they end in, the halves of BL and BLX
each on its own, and the pair by the offset that the halves make. -/

namespace Sys2Proof.Proofs

open Sys2Proof.Machine

/-! ### Targets -/

/-- A halfword offset keeps the alignment of a halfword address (R432, R433). -/
theorem align2_add_shiftLeft {a : Word} (h : align2 a = a) (x : Word) : align2 (a + (x <<< 1)) = a + (x <<< 1) := by
  rw [Laws.align2_eq_iff] at h ⊢
  rw [BitVec.toNat_add, BitVec.toNat_shiftLeft, Nat.shiftLeft_eq]
  omega

/-- The pc operand of an aligned Thumb instruction is aligned. -/
theorem align2_pcOperand {s : State} (ht : s.thumb = true) (h : s.pcAligned) : align2 (s.pc + 4#32) = s.pc + 4#32 := by
  have aligned : align2 s.pc = s.pc := by simpa [State.pcAligned, ht] using h
  exact align2_add_shiftLeft aligned 2#32

/-- The two halves of the offset of BL, the high one sign-extended (R434). -/
theorem halves_join (hi lo : BitVec 11) :
    (hi.signExtend 32 <<< 12) + (lo.setWidth 32 <<< 1) = (hi ++ lo : BitVec 22).signExtend 32 <<< 1 := by
  have apart : (hi.signExtend 32 <<< 12) &&& (lo.setWidth 32 <<< 1) = 0#32 := by
    ext i hi
    simp
    grind
  rw [BitVec.add_eq_or_of_and_eq_zero _ _ apart]
  ext i hi
  simp [BitVec.getElem_signExtend]
  grind

/-- The low half of BLX is the low half of BL with bit 0 clear (R434). -/
theorem zext_shiftLeft_two (imm10 : BitVec 10) :
    zext imm10 <<< 2 = (imm10 ++ 0b0#1 : BitVec 11).setWidth 32 <<< 1 := by
  ext i hi
  simp [zext]
  grind

/-! ### B, BX and BLX -/

/-- A relative branch lands where it points (R432, R433). -/
theorem writePc_relative {s : State} (ht : s.thumb = true) (hpc : s.pcAligned) (x : Word) :
    s.writePc (s.pc + 4#32 + (x <<< 1)) = { s with pc := s.pc + 4#32 + (x <<< 1), fetchQ := [] } := by
  rw [writePc_of_thumb ht, align2_add_shiftLeft (align2_pcOperand ht hpc)]

theorem thumbBranches : Claims.thumbBranches := by
  refine ⟨fun o s hc ht hpc => ?bCond, fun o s ht hpc => ?b, fun o s ht hx => ⟨?bx, fun hm => ?blxReg⟩⟩
  case bCond =>
    rw [exec_tBCond, execTBCond, ifPassed_of_passed hc, writePc_relative ht hpc]
    rfl
  case b =>
    rw [exec_tB, execTB, writePc_relative ht hpc]
    rfl
  case bx => rw [exec_tBx, execTBx, branchExchange_of_exchangeable hx]
  case blxReg =>
    rw [exec_tBlxReg, execTBlxReg, if_neg hm, linkExchange_of_exchangeable hx]
    rfl

/-! ### The halves of BL and BLX -/

section
variable (s : State)

theorem execTBlPrefix_eq (ht : s.thumb = true) (hi : TBranchOps) : exec (.tBlPrefix hi) s = .next { s with
    regs := s.regs.set (physIx s.mode 14#4) (s.pc + 4#32 + (hi.imm11.signExtend 32 <<< 12)), pc := s.pc + 2#32 } := by
  rw [exec_tBlPrefix, execTBlPrefix, setReg_advance_of_thumb ht (by decide)]
  rfl

theorem execTBlSuffix_eq (lo : TBranchOps) : exec (.tBlSuffix lo) s = .next { s with
    regs := s.regs.set (physIx s.mode 14#4) ((s.pc + 2#32) ||| 1#32)
    pc := align2 (s.reg 14#4 + (lo.imm11.setWidth 32 <<< 1)), fetchQ := [] } := by
  rw [exec_tBlSuffix, execTBlSuffix, setReg_of_ne_pc s (by decide)]
  rfl

theorem execTBlxSuffix_eq (lo : TBlxSuffixOps) : exec (.tBlxSuffix lo) s = .next { s with
    regs := s.regs.set (physIx s.mode 14#4) ((s.pc + 2#32) ||| 1#32)
    cpsr := s.cpsr &&& ~~~0x20#32
    pc := align4 (s.reg 14#4 + ((lo.imm10 ++ 0b0#1 : BitVec 11).setWidth 32 <<< 1)), fetchQ := [] } := by
  rw [exec_tBlxSuffix, execTBlxSuffix, setReg_of_ne_pc s (by decide), setPsrT_false, zext_shiftLeft_two]
  rfl

end

theorem thumbLongBranch : Claims.thumbLongBranch := fun s ht =>
  ⟨execTBlPrefix_eq s ht, execTBlSuffix_eq s, execTBlxSuffix_eq s⟩

/-! ### The pair -/

/-- What a suffix adds to the r14 that the first half left makes the whole offset (R434). -/
theorem offset_of_halves (a : Word) (hi lo : BitVec 11) :
    a + (hi.signExtend 32 <<< 12) + (lo.setWidth 32 <<< 1) = a + ((hi ++ lo : BitVec 22).signExtend 32 <<< 1) := by
  rw [BitVec.add_assoc, halves_join]

theorem thumbBranchPair : Claims.thumbBranchPair := by
  intro hi s t ht hpc hprefix
  rw [execTBlPrefix_eq s ht] at hprefix
  obtain rfl := Host.Outcome.next.inj hprefix
  have link : State.reg { s with
      regs := s.regs.set (physIx s.mode 14#4) (s.pc + 4#32 + (hi.imm11.signExtend 32 <<< 12)), pc := s.pc + 2#32 } 14#4 =
      s.pc + 4#32 + (hi.imm11.signExtend 32 <<< 12) := Vector.getElem_set_self ..
  refine ⟨fun lo u hu => ?bl, fun lo u hu => ?blx⟩
  case bl =>
    rw [execTBlSuffix_eq, link, offset_of_halves, align2_add_shiftLeft (align2_pcOperand ht hpc)] at hu
    obtain rfl := Host.Outcome.next.inj hu
    rfl
  case blx =>
    rw [execTBlxSuffix_eq, link, offset_of_halves] at hu
    obtain rfl := Host.Outcome.next.inj hu
    rw [BitVec.append_assoc]
    rfl

/-- Settles O29: the branches, the halves and the pair. -/
theorem thumbBranchResults : Obligations.ThumbBranchResults := ⟨thumbBranches, thumbLongBranch, thumbBranchPair⟩

end Sys2Proof.Proofs
end

section
/-! PROOF. Thumb loads, stores and block transfers that nothing aborts (R411 to R431): each form by the access or the
block transfer it runs. -/

namespace Sys2Proof.Proofs

open Sys2Proof.Machine

/-! ### Single transfers -/

/-- An address without writeback conflicts with no register. -/
theorem baseFree_plain (v : Word) (rn rd : Reg) : Claims.baseFree (.plain v) rn rd none :=
  ⟨nofun, fun h => absurd h Bool.false_ne_true⟩

section
variable {Ops : Type} {c : Ops → Instr} {rd : Ops → LowReg} {address : Ops → State → Word}

theorem thumbLoads_of_calm {k : LoadKind} (hrun : RunsThumbLoad c k rd address) : Claims.ThumbLoads c k rd address := by
  intro o s _ hcalm hab
  rw [hrun, thumbLoad, loadInto_of_calm hcalm hab (baseFree_plain ..) (low_ne_pc (rd o))]
  rfl

theorem thumbStores_of_calm {z : Size} (hrun : RunsThumbStore c z rd address) : Claims.ThumbStores c z rd address := by
  intro o s _ hcalm hab hwf
  refine ⟨_, _, ?_, fun x => byte_write hwf .., storedInCode_write ..⟩
  rw [hrun, thumbStore, storeFrom_of_calm hcalm hab (baseFree_plain ..)]
  rfl

end

/-- Settles O32: each of the seventeen forms by the access it runs. -/
theorem thumbSingleTransfers : Obligations.ThumbSingleTransfers := by
  unfold Obligations.ThumbSingleTransfers
  exact ⟨thumbLoads_of_run thumbLoads_of_calm, thumbStores_of_run thumbStores_of_calm⟩

/-! ### Block loads -/

section
variable {s : State} (ht : s.thumb = true) (hcalm : Claims.calm s) (hab : Claims.noAborts s)
include ht hcalm hab

/-- LDMIA, the base written back unless it is listed (R428). -/
theorem tLdmia_of_calm {o : TMultiOps} {list : BitVec 16} (hl : list = o.list.setWidth 16) (hlist : list ≠ 0#16) :
    ∃ t, exec (.tLdmia o) s = .next t ∧ Claims.onlyRegs s t ∧
      Claims.blockLoaded s t s.mode list (s.reg (low o.rb))
        (if true && !Claims.listed list (low o.rb) then
          some (low o.rb, Claims.newBase true (s.reg (low o.rb)) (Claims.count list)) else none) ∧
      t.pc = s.pc + 2#32 ∧ t.cpsr = s.cpsr := by
  obtain ⟨regs, bus, last, hload, hregs, -⟩ := loadMultiple_of_calm hcalm hab (low_ne_pc o.rb) false true (w := true)
    list (fun _ => rfl) (fun t _ => t.advance) rfl
  have run := tLdmia_runs s hlist hl
  rw [hload, advance_of_thumb (by exact ht)] at run
  exact ⟨_, run, onlyRegs_of_eq rfl, hregs _ rfl, rfl, rfl⟩

omit hcalm hab in
/-- After the registers the pc is loaded, or the next Thumb instruction follows (R431). -/
theorem loadPcLast_of_thumb (regs : Vector Word 30) (bus : List BusCycle) (list : BitVec 16) {last v : Word}
    (hlast : Claims.listed list 15#4 = true → last = v) :
    ∃ t, loadPcLast (listRegs list) { s with regs := regs, bus := bus } last = t ∧ Claims.onlyRegs s t ∧
      t.regs = regs ∧
      (if Claims.listed list 15#4 then Claims.loadedPc s t v else t.pc = s.pc + 2#32 ∧ t.cpsr = s.cpsr) := by
  unfold loadPcLast
  rw [contains_listRegs]
  cases hl : Claims.listed list 15#4 with
  | true =>
    obtain rfl := hlast hl
    exact ⟨_, rfl, onlyRegs_loadPc .., State.loadPc_regs .., loadedPc_loadPc (by rfl) (by rfl) _⟩
  | false => exact ⟨_, advance_of_thumb ht, onlyRegs_of_eq rfl, rfl, rfl, rfl⟩

/-- POP of a list that does not hold r13 (R431). -/
theorem tPop_of_calm {o : TStackOps} {list : BitVec 16} (hl : list = (bit o.extra ++ 0#7 ++ o.list : BitVec 16))
    (hlist : list ≠ 0#16) (hbase : Claims.listed list 13#4 = false) :
    ∃ t, exec (.tPop o) s = .next t ∧ Claims.onlyRegs s t ∧
      Claims.blockLoaded s t s.mode list (s.reg 13#4)
        (some (13#4, Claims.newBase true (s.reg 13#4) (Claims.count list))) ∧
      (if Claims.listed list 15#4 then Claims.loadedPc s t (Claims.slotWord s (s.reg 13#4) list 15#4)
        else t.pc = s.pc + 2#32 ∧ t.cpsr = s.cpsr) := by
  obtain ⟨regs, bus, last, hload, hregs, hlast⟩ := loadMultiple_of_calm hcalm hab (rn := 13#4) (by decide) false true
    (w := true) list (fun _ => rfl) (loadPcLast (listRegs list)) rfl
  obtain ⟨t, hfinish, honly, heq, hpc⟩ := loadPcLast_of_thumb ht regs bus list hlast
  have run := tPop_runs s hlist hl
  rw [hload, hfinish] at run
  have loaded := hregs t heq
  rw [unlistedBase_eq fun _ => hbase] at loaded
  exact ⟨t, run, honly, loaded, hpc⟩

end

/-- The list of POP holds r15 exactly with the extra register, and does not hold its base (R431). -/
theorem listed_pop (extra : Bool) (list : BitVec 8) :
    Claims.listed (bit extra ++ 0#7 ++ list : BitVec 16) 15#4 = extra ∧
    Claims.listed (bit extra ++ 0#7 ++ list : BitVec 16) 13#4 = false := by
  have top : (bit extra ++ 0#7 ++ list).getLsbD 15 = extra := by
    rw [BitVec.getLsbD_append, BitVec.getLsbD_append]
    exact bitAt_bit extra
  have clear : (bit extra ++ 0#7 ++ list).getLsbD 13 = false := by
    rw [BitVec.getLsbD_append, BitVec.getLsbD_append]
    rfl
  exact ⟨top, clear⟩

/-! ### Block stores -/

/-- A store multiple of the current bank, by the instruction that runs it. -/
theorem storeRegs_of_calm {i : Instr} {s : State} (hcalm : Claims.calm s) (hab : Claims.noAborts s)
    (hwf : s.mem.wf = true) {p u w : Bool} {rn : Reg} (hn : rn ≠ 15#4) {list : BitVec 16}
    {first : Word} (hf : first = Claims.firstAddress p u (s.reg rn) (Claims.count list))
    (run : exec i s = .next (s.storeRegs p u w rn (listRegs list))) :
    ∃ t, exec i s = .next t ∧ Claims.onlyStored s t (Claims.blockBase s w u rn (Claims.count list)) ∧
      Claims.blockStored s t (Claims.storedReg s) (Claims.baseOpen w rn list) list first := by
  obtain ⟨g, ix, hregs, hg⟩ := storeRegs_spec s p u w rn list
  obtain ⟨m, im, bus, hstore, hunsplit, hwords⟩ := storeMultiple_of_calm hcalm hab hwf hn p u w list g ix id
  rw [hregs, hstore] at run
  exact ⟨_, run, ⟨rfl, hunsplit⟩, blockStored_of_words (hf ▸ hwords _ rfl rfl) hg⟩

/-- Without its base in the list a block store leaves no word open. -/
theorem blockStored_of_unlistedBase {s t : State} {value : Reg → Word} {w : Bool} {rn : Reg} {list : BitVec 16}
    {first : Word} (h : Claims.blockStored s t value (Claims.baseOpen w rn list) list first)
    (hbase : Claims.listed list rn = false) : Claims.blockStored s t value (fun _ => false) list first := by
  obtain ⟨hword, hkept⟩ := h
  refine ⟨fun n hl _ => hword n hl ?_, hkept⟩
  have other : n ≠ rn := by
    rintro rfl
    exact Bool.false_ne_true (hbase.symm.trans hl)
  simp [Claims.baseOpen, other]

/-- Settles O39: the four forms by the block transfers they run. -/
theorem thumbBlockTransfers : Obligations.ThumbBlockTransfers := by
  unfold Obligations.ThumbBlockTransfers
  refine ⟨fun o s ht hcalm hab hne => ?multiple, fun o s list ht hcalm hab hwf hl hlist => ?push,
    fun o s list ht hcalm hab hl hlist => ?pop⟩
  case multiple =>
    have hlist : o.list.setWidth 16 ≠ 0#16 := mt (zeroExtended_eq_zero_iff (by decide) _).mp hne
    obtain ⟨t, hexec, honly, hloaded, hpc⟩ := tLdmia_of_calm ht hcalm hab (o := o) rfl hlist
    refine ⟨fun hbase => ?_, fun hbase => ?_, fun hwf => ?_⟩
    · rw [hbase] at hloaded
      exact ⟨t, hexec, honly, hloaded, hpc⟩
    · rw [hbase] at hloaded
      exact ⟨t, hexec, honly, hloaded, hpc⟩
    · exact storeRegs_of_calm hcalm hab hwf (low_ne_pc o.rb) rfl (tStmia_runs s hlist rfl)
  case push =>
    obtain ⟨t, hexec, honly, hstored⟩ := storeRegs_of_calm hcalm hab hwf (by decide) rfl (tPush_runs s hlist hl)
    exact ⟨t, hexec, honly, blockStored_of_unlistedBase hstored (hl ▸ push_unlisted o.extra o.list)⟩
  case pop =>
    obtain ⟨hpc, hbase⟩ := listed_pop o.extra o.list
    rw [← hl] at hpc hbase
    rw [← hpc]
    exact tPop_of_calm ht hcalm hab hl hlist hbase

end Sys2Proof.Proofs
end

section
/-! PROOF. Exceptions and the boundary before an instruction (R455, R456, R460, R462, R476, R477, R480): the entry of
each kind, what sampling and filling the queue leave alone, and the interrupts taken instead of an instruction. -/

namespace Sys2Proof.Proofs

open Sys2Proof.Machine

/-! ### Exception entry -/

/-- Settles O43: each kind by its CPSR as the spec writes it. -/
theorem takeException : Obligations.TakeException := by
  unfold Obligations.TakeException
  intro s ret
  have entered (k : ExcKind) : s.takeException k ret =
      { s.takeException k ret with cpsr := Claims.enteredCpsr s.cpsr (k = .fiq) k.mode.bits } :=
    (congrArg (fun p => { s.takeException k ret with cpsr := p }) (newCpsr_eq k s.cpsr) :)
  exact ⟨entered .undefined, entered .swi, entered .prefetchAbort, entered .dataAbort, entered .irq, entered .fiq⟩

/-! ### The boundary before the instruction -/

theorem freeAfterCompare_of_off {s : State} (h : s.cfg.dbgen = false) (isData : Bool) :
    s.freeAfterCompare isData = s.freeIx := by
  simp [State.freeAfterCompare, h]

/-- With debug off fetches draw no free value (R590). -/
theorem prefetch_freeIx {n : Nat} {a : Word} {s : State} (h : s.cfg.dbgen = false) :
    (prefetch n a s).freeIx = s.freeIx := by
  induction n generalizing a s with
  | zero => rfl
  | succ n ih => exact (ih (s := s.fetch a) h).trans (freeAfterCompare_of_off h false)

/-- Settles O5: sampling and filling the queue by their frames. -/
theorem boundaryKeepsProgramState : Obligations.BoundaryKeepsProgramState := by
  unfold Obligations.BoundaryKeepsProgramState
  exact fun s => ⟨fun h => prefetch_freeIx h, fillQueue_frame s.sample⟩

/-! ### Interrupts -/

/-- At a plain boundary the steps of R476 after reset and the watchpoints are left. -/
theorem step_of_plainBoundary {s : State} (h : Claims.plainBoundary s) : step s = normalBoundary s.sample.fillQueue := by
  obtain ⟨hquiet, ⟨hdbgen, hactive⟩, hwatch, hmode⟩ := h
  obtain ⟨hport, hreset⟩ := debugPort_of_quietPins hquiet
  have legal : s.sample.legalMode = true := Option.isSome_iff_ne_none.mpr hmode
  calc step s = coreBoundary s.sample := by rw [step, boundary, hport]; rfl
    _ = watchBoundary s.sample.fillQueue := by
      simp [coreBoundary, hreset, legal, hactive, State.monitorViolation, hdbgen]
    _ = normalBoundary s.sample.fillQueue := by simp [watchBoundary, hwatch]

section
variable {s : State} (h : Claims.plainBoundary s)
include h

theorem fiqPending_of_plainBoundary : s.sample.fillQueue.fiqPending = (!s.pins.nFIQ && !psrF s.cpsr) := by
  obtain ⟨⟨hstream, -⟩, ⟨hdbgen, -⟩, -⟩ := h
  simp [State.fiqPending, State.inhibited, State.sample, hstream, hdbgen]

theorem irqPending_of_plainBoundary : s.sample.fillQueue.irqPending = (!s.pins.nIRQ && !psrI s.cpsr) := by
  obtain ⟨⟨hstream, -⟩, ⟨hdbgen, -⟩, -⟩ := h
  simp [State.irqPending, State.inhibited, State.sample, hstream, hdbgen]

/-- An enabled FIQ is taken whatever nIRQ is (R476). -/
theorem step_of_fiq (hfiq : s.pins.nFIQ = false) (hF : psrF s.cpsr = false) :
    step s = .next (s.sample.fillQueue.interrupt .fiq) := by
  obtain ⟨-, ⟨hdbgen, -⟩, -⟩ := id h
  simp [step_of_plainBoundary h, normalBoundary, fiqPending_of_plainBoundary h, hdbgen, hfiq, hF]

/-- An enabled IRQ is taken where FIQ is not (R476). -/
theorem step_of_irq (hfiq : s.pins.nFIQ = true ∨ psrF s.cpsr = true) (hirq : s.pins.nIRQ = false)
    (hI : psrI s.cpsr = false) : step s = .next (s.sample.fillQueue.interrupt .irq) := by
  obtain ⟨-, ⟨hdbgen, -⟩, -⟩ := id h
  have noFiq : s.sample.fillQueue.fiqPending = false := by
    rw [fiqPending_of_plainBoundary h]
    rcases hfiq with hfiq | hfiq <;> simp [hfiq]
  simp [step_of_plainBoundary h, normalBoundary, noFiq, irqPending_of_plainBoundary h, hdbgen, hirq, hI]

end

/-- An interrupt is entered from the program's state: r14 is the address of the next instruction + 4 (R462). -/
theorem interrupt_entry (s : State) (k : ExcKind) :
    (s.sample.fillQueue.interrupt k).regs = s.regs.set (physIx k.mode 14#4) (s.pc + 4#32) ∧
    (s.sample.fillQueue.interrupt k).cpsr = Claims.enteredCpsr s.cpsr (k = .fiq) k.mode.bits ∧
    (s.sample.fillQueue.interrupt k).pc = Claims.vectors s + k.offset ∧
    (s.sample.fillQueue.interrupt k).mem = s.mem := by
  refine ⟨?_, ?_, ?_, ?_⟩
  · rw [State.interrupt, takeException_regs, fillQueue_regs, fillQueue_pc, sample_regs, sample_pc]
  · rw [State.interrupt, takeException_cpsr, fillQueue_cpsr, sample_cpsr, newCpsr_eq]
  · rw [State.interrupt, takeException_pc, vectors_of_cfg (fillQueue_cfg s.sample), vectors_of_cfg (sample_cfg s)]
  · rw [State.interrupt, State.takeException_mem, fillQueue_mem, sample_mem]

/-- Settles O45: each interrupt by its entry. -/
theorem interruptEntry : Obligations.InterruptEntry := by
  unfold Obligations.InterruptEntry
  refine fun s h => ⟨fun hfiq hF => ?fiq, fun hfiq hirq hI => ?irq⟩
  case fiq =>
    obtain ⟨hregs, hcpsr, hpc, hmem⟩ := interrupt_entry s .fiq
    exact ⟨_, step_of_fiq h hfiq hF, hregs, fillQueue_cpsr s.sample, hcpsr, hpc, hmem⟩
  case irq =>
    obtain ⟨hregs, hcpsr, hpc, hmem⟩ := interrupt_entry s .irq
    exact ⟨_, step_of_irq h hfiq hirq hI, hregs, fillQueue_cpsr s.sample, hcpsr, hpc, hmem⟩

/-! ### A Data Abort with FIQ asserted -/

/-- The M field of an exception's CPSR is its mode (R460). -/
theorem psrM_newCpsr (k : ExcKind) (p : Word) : psrM (k.newCpsr p) = k.mode.bits := by
  apply BitVec.eq_of_getLsbD_eq
  intro i hi
  have bits : bitAt (psrM (k.newCpsr p)) i = bitAt k.mode.bits i := by
    rw [psrM, bitAt_fld, bitAt_newCpsr]
    grind
  exact bits

/-- An exception is entered at a plain boundary again: the pins, debug and the watchpoints are as before, its mode is
legal. -/
theorem plainBoundary_takeException {s : State} (h : Claims.plainBoundary s) (k : ExcKind) (ret : Word) :
    Claims.plainBoundary (s.takeException k ret) := by
  obtain ⟨⟨hstream, hreset, htrst⟩, ⟨hdbgen, hactive⟩, hwatch, -⟩ := h
  refine ⟨⟨?_, ?_, ?_⟩, ⟨?_, hactive⟩, hwatch, ?_⟩
  · rw [State.takeException_pinStream, hstream]
  · rw [State.takeException_pins, hreset]
  · rw [State.takeException_pins, htrst]
  · rw [State.takeException_cfg, hdbgen]
  · rw [takeException_cpsr, psrM_newCpsr]
    cases k <;> decide

/-- A Data Abort leaves F as it is (R460). -/
theorem psrF_dataAbort (p : Word) : psrF (ExcKind.dataAbort.newCpsr p) = psrF p := by
  simp [psrF, bitAt_newCpsr]

/-- The second of two entries writes over the first in the CPSR, if it sets F (R460). -/
theorem enteredCpsr_twice (p : Word) (f : Bool) (m m' : BitVec 5) :
    Claims.enteredCpsr (Claims.enteredCpsr p f m) true m' = Claims.enteredCpsr p true m' := by
  have kept : fld (Claims.enteredCpsr p f m) 8 24 = fld p 8 24 := by
    rw [Claims.enteredCpsr]
    simp [fld_full]
  rw [Claims.enteredCpsr, kept, Bool.true_or]
  rfl

/-- Settles O46: the entry of FIQ in the state the Data Abort leaves. -/
theorem dataAbortThenFiq : Obligations.DataAbortThenFiq := by
  unfold Obligations.DataAbortThenFiq
  intro s ret h hfiq hF
  have plain := plainBoundary_takeException h .dataAbort ret
  have aborted : (s.takeException .dataAbort ret).cpsr = Claims.enteredCpsr s.cpsr false 0b10111#5 :=
    newCpsr_eq .dataAbort s.cpsr
  have run := step_of_fiq plain (by rwa [State.takeException_pins]) ((psrF_dataAbort s.cpsr).trans hF)
  obtain ⟨hregs, hcpsr, hpc, hmem⟩ := interrupt_entry (s.takeException .dataAbort ret) .fiq
  refine ⟨_, run, ?regs, ?spsrAbt, ?spsrFiq, ?cpsr, ?pc, ?mem⟩
  case regs =>
    rw [hregs, takeException_regs, takeException_pc, BitVec.add_assoc]
    rfl
  case spsrAbt =>
    have filled : (s.takeException .dataAbort ret).sample.fillQueue.spsrAbt = s.cpsr := by rw [fillQueue_frame]; rfl
    exact filled
  case spsrFiq => exact (fillQueue_cpsr _).trans aborted
  case cpsr =>
    rw [hcpsr, aborted]
    exact enteredCpsr_twice ..
  case pc =>
    rw [hpc, vectors_of_cfg (State.takeException_cfg ..)]
    rfl
  case mem => rw [hmem, State.takeException_mem]

end Sys2Proof.Proofs
end

section
/-! PROOF. Debug entry (R560, R564, R570): a debug request before any interrupt, and the branch that leads back to the
instruction it came before. -/

namespace Sys2Proof.Proofs

open Sys2Proof.Machine

/-! ### A debug request -/

/-- What R583 allows violates no restriction of monitor mode. -/
theorem monitorViolation_of_allowed {s : State} (h : s.ice.monitor = true → Claims.monitorAllowed s) :
    s.monitorViolation = false := by
  cases hmonitor : s.ice.monitor with
  | false => simp [State.monitorViolation, hmonitor]
  | true =>
    obtain ⟨hiebkpt, hdewpt, hunits⟩ := h hmonitor
    have free (hcompare : s.ice.comparing = true) (u : WatchUnit) (hu : u ∈ [s.ice.unit0, s.ice.unit1]) :
        Ice.unitRestricted u = false := by
      cases henabled : u.enabled with
      | false => simp [Ice.unitRestricted, henabled]
      | true =>
        obtain ⟨hdata, hrange⟩ := hunits hcompare u hu henabled
        simp [Ice.unitRestricted, hdata, hrange]
    cases hcompare : s.ice.comparing with
    | false => simp [State.monitorViolation, hiebkpt, hdewpt, hcompare]
    | true => simp [State.monitorViolation, hiebkpt, hdewpt, free hcompare]

/-- Filling the queue leaves the request as it is: fetches change the CHAINOUT latches alone. -/
theorem fillQueue_request (s : State) :
    s.fillQueue.debugRequest = s.debugRequest ∧ s.fillQueue.requestMoe = s.requestMoe := by
  have pins : s.fillQueue.pins = s.pins := by rw [fillQueue_frame]
  have control : s.fillQueue.ice.control = s.ice.control := congrArg Prod.fst (fillQueue_sameView s).ice
  simp [State.debugRequest, State.requestMoe, pins, control]

/-- With no watchpoint in progress a debug request is obeyed before anything else (R476, R560). -/
theorem step_of_debugRequest {s : State} (hquiet : Claims.quietPins s) (hdbgen : s.cfg.dbgen = true)
    (hactive : s.dbg.active = false) (hwatch : s.dbg.watch = .idle) (hmode : Mode.ofBits (psrM s.cpsr) ≠ none)
    (hallowed : s.ice.monitor = true → Claims.monitorAllowed s) (hrequest : s.debugRequest = true) :
    step s = .next (s.sample.fillQueue.enterDebug s.requestMoe) := by
  obtain ⟨hport, hreset⟩ := debugPort_of_quietPins hquiet
  obtain ⟨hstream, -⟩ := hquiet
  have pins : s.sample.pins = s.pins := by simp [State.sample, hstream]
  have violation : s.sample.monitorViolation = false := monitorViolation_of_allowed fun h => by
    obtain ⟨hiebkpt, hdewpt, hunits⟩ := hallowed h
    exact ⟨pins ▸ hiebkpt, pins ▸ hdewpt, hunits⟩
  have request : s.sample.debugRequest = s.debugRequest :=
    congrArg (fun p : Pins => p.edbgrq || bitAt s.ice.control 1) pins
  have moe : s.sample.requestMoe = s.requestMoe :=
    congrArg (fun p : Pins => if p.edbgrq then 0b1010#4 else 0b1001#4) pins
  have legal : s.sample.legalMode = true := Option.isSome_iff_ne_none.mpr hmode
  obtain ⟨hfilled, hmoe⟩ := fillQueue_request s.sample
  calc step s = coreBoundary s.sample := by rw [step, boundary, hport]; rfl
    _ = watchBoundary s.sample.fillQueue := by simp [coreBoundary, hreset, legal, hactive, violation]
    _ = normalBoundary s.sample.fillQueue := by simp [watchBoundary, hwatch]
    _ = .next (s.sample.fillQueue.enterDebug s.requestMoe) := by
      simp [normalBoundary, hdbgen, hfilled, hmoe, request, moe, hrequest]

theorem debugRequest : Claims.debugRequest := by
  intro s hquiet hdbgen hactive hwatch hmode hallowed hrequest
  have request : s.debugRequest = true := by simpa [State.debugRequest] using hrequest
  exact ⟨_, step_of_debugRequest hquiet hdbgen hactive hwatch hmode hallowed request, rfl, rfl,
    fillQueue_regs s.sample, fillQueue_cpsr s.sample, fillQueue_mem s.sample⟩

/-! ### The branch that leads back -/

/-- A branch in ARM state from an aligned pc, of whatever instruction the pc reads. -/
theorem branch_lands {s : State} (ht : s.thumb = false) (hpc : align4 s.pc = s.pc) (imm24 : BitVec 24) :
    ∃ u, exec (.b ⟨.al, imm24⟩) s = .next u ∧ u.pc = branchTarget s.pc imm24 :=
  ⟨_, (exec_b ..).trans (execB_of_passed rfl ht hpc), rfl⟩

/-- A branch leads back by as much as the pc is ahead. -/
theorem branchTarget_back (a : Word) {x : Word} {imm24 : BitVec 24} (h : x + 8#32 + (sext imm24 <<< 2) = 0#32) :
    branchTarget (a + x) imm24 = a := by
  rw [branchTarget, BitVec.add_assoc, BitVec.add_assoc, ← BitVec.add_assoc x, h, BitVec.add_zero]

theorem debugReturnOffset : Claims.debugReturnOffset := by
  rintro s moe t ht hpc rfl
  have aligned (x : Word) : align4 (s.pc + (x <<< 2)) = s.pc + (x <<< 2) :=
    align4_add_shiftLeft (pcAligned_of_arm ht hpc) x
  have entered : (s.enterDebug moe).pc = s.pc + (3#32 <<< 2) := by
    simp [State.enterDebug, State.instrSize, ht, BitVec.add_assoc]
  have thumb : (s.enterDebug moe).thumb = false := by simpa using ht
  have later : (s.enterDebug moe).advance.advance.pc = s.pc + (5#32 <<< 2) := by
    rw [advance_of_arm (by simpa using ht), advance_of_arm thumb, entered]
    simp [BitVec.add_assoc]
  constructor
  · obtain ⟨u, hu, hland⟩ := branch_lands thumb (by rw [entered]; exact aligned 3#32) 0xFFFFFB#24
    exact ⟨u, hu, by rw [hland, entered, branchTarget_back s.pc (by decide)]⟩
  · obtain ⟨v, hv, hland⟩ := branch_lands (s := (s.enterDebug moe).advance.advance) (by simpa using ht)
      (by rw [later]; exact aligned 5#32) 0xFFFFF9#24
    exact ⟨v, hv, by rw [hland, later, branchTarget_back s.pc (by decide)]⟩

/-- Settles O60: the entry and the way back. -/
theorem debugEntry : Obligations.DebugEntry := ⟨debugRequest, debugReturnOffset⟩

end Sys2Proof.Proofs
end

section
/-! PROOF. Core reset (R56, R464, R600, R602; 92 D4): the status word it leaves, and memory outside the stores it cuts
short. -/

namespace Sys2Proof.Proofs

open Sys2Proof.Machine

/-! ### The status word -/

theorem bitAt_resetCpsr (free : Word) {i : Nat} (hi : i < 8) : bitAt (resetCpsr free) i = bitAt 0xD3#32 i := by
  have clear : bitAt 0xFFFFFF00#32 i = false := by interval_cases i <;> rfl
  rw [resetCpsr, bitAt_or, bitAt_and, clear, Bool.and_false, Bool.false_or]

/-- Supervisor mode (R56). -/
theorem psrM_resetCpsr (free : Word) : psrM (resetCpsr free) = 0b10011#5 := by
  apply BitVec.eq_of_getLsbD_eq
  intro i hi
  have bits : bitAt (psrM (resetCpsr free)) i = bitAt (psrM 0xD3#32) i := by
    rw [psrM, psrM, bitAt_fld, bitAt_fld, bitAt_resetCpsr free (by omega)]
  exact bits

/-- Interrupts are masked (R56). -/
theorem psrI_resetCpsr (free : Word) : psrI (resetCpsr free) = true := by
  rw [psrI, bitAt_resetCpsr free (by decide)]
  rfl

theorem psrF_resetCpsr (free : Word) : psrF (resetCpsr free) = true := by
  rw [psrF, bitAt_resetCpsr free (by decide)]
  rfl

/-! ### The stores cut short -/

/-- Which bytes a store takes depends on its unit alone. -/
theorem storedByte_eq_none_iff (big : Bool) (z : Size) (a v v' x : Word) :
    Claims.storedByte big z a v x = none ↔ Claims.storedByte big z a v' x = none := by
  simp [storedByte_eq]

/-- Outside the units of the stores memory is as before (R602). -/
theorem byte_cutStores {cs : List BusCycle} {s : State} (hwf : s.mem.wf = true) {x : Word}
    (h : ∀ c ∈ cs, Claims.storedByte s.cfg.bigEnd c.size c.addr 0 x = none) :
    (cutStores cs s).mem.byte x = s.mem.byte x := by
  induction cs generalizing s with
  | nil => rfl
  | cons c cs ih =>
    obtain ⟨first, rest⟩ := List.forall_mem_cons.mp h
    have outside := (storedByte_eq_none_iff s.cfg.bigEnd c.size c.addr 0 s.draw.1 x).mp first
    calc (cutStores (c :: cs) s).mem.byte x
        = (s.mem.write s.cfg.bigEnd c.size c.addr s.draw.1).byte x :=
          ih (s := s.draw.2.store c.size c.addr s.draw.1) (State.store_memWf hwf ..) rest
      _ = s.mem.byte x := by rw [byte_write hwf, outside, Option.getD_none]

/-! ### The step -/

/-- While nRESET is LOW outside debug state the step is the core reset (R464, R600). -/
theorem step_of_reset {s : State} (hclocks : s.clocks = []) (hreset : s.sample.pins.nRESET = false)
    (htrst : s.sample.pins.nTRST = true) (hactive : s.dbg.active = false) : step s = .next s.sample.coreReset := by
  have port : debugPort s.clocks s.sample = .next s.sample := by simp [debugPort, htrst, hclocks, tapClocks]
  calc step s = coreBoundary s.sample := by rw [step, boundary, port]; rfl
    _ = .next s.sample.coreReset := by simp [coreBoundary, hreset, hactive]

/-- What core reset leaves of any state (R56, R464). -/
structure ResetFrom (s t : State) : Prop where
  mode : psrM t.cpsr = 0b10011#5
  irqMask : psrI t.cpsr = true
  fiqMask : psrF t.cpsr = true
  thumb : psrT t.cpsr = false
  pc : t.pc = Claims.vectors s
  fetchQ : t.fetchQ = []
  cfg : t.cfg = s.cfg
  ice : t.ice = s.ice
  mem : t.mem = s.mem
  imem : t.imem = s.imem

theorem resetCore_resetFrom (s : State) : ResetFrom s s.resetCore := by
  unfold State.resetCore
  exact ⟨psrM_resetCpsr _, psrI_resetCpsr _, psrF_resetCpsr _, psrT_resetCpsr _, rfl, rfl, rfl, rfl, rfl, rfl⟩

theorem cutStores_cfg (cs : List BusCycle) (s : State) : (cutStores cs s).cfg = s.cfg := by rw [cutStores_frame]

theorem cutStores_ice (cs : List BusCycle) (s : State) : (cutStores cs s).ice = s.ice := by rw [cutStores_frame]

/-- Settles O11: the state core reset leaves, over what the cut stores leave. -/
theorem coreReset : Obligations.CoreReset := by
  unfold Obligations.CoreReset
  intro s hclocks hreset htrst hactive
  have reset : ResetFrom (cutStores s.sample.inFlight s.sample) s.sample.coreReset := resetCore_resetFrom _
  refine ⟨_, step_of_reset hclocks hreset htrst hactive, reset.mode, reset.irqMask, reset.fiqMask, reset.thumb, ?pc,
    reset.fetchQ, ?cfg, ?ice, fun hheld => ?held, fun hwf x hx => ?bytes⟩
  case pc => rw [reset.pc, vectors_of_cfg (cutStores_cfg ..), vectors_of_cfg (sample_cfg s)]
  case cfg => rw [reset.cfg, cutStores_cfg, sample_cfg]
  case ice =>
    rw [reset.ice, cutStores_ice]
    rfl
  case held =>
    have nothing : s.sample.inFlight = [] := State.inFlight_of_held _ (congrArg not hheld)
    rw [reset.mem, reset.imem, nothing]
    exact ⟨rfl, rfl⟩
  case bytes =>
    rw [reset.mem]
    exact byte_cutStores (s := s.sample) hwf hx

end Sys2Proof.Proofs
end

section
/-! PROOF. The TAP controller and scan chain 2 (R46, R545, R548, R552): IDCODE bit by bit, and the register a write at
Update-DR reaches. -/

namespace Sys2Proof.Proofs

open Sys2Proof.Machine

/-! ### IDCODE -/

theorem tapFiveOnes : Claims.tapFiveOnes := by
  intro t
  cases t <;> rfl

/-- A shift moves every bit but the new one down. -/
theorem bitAt_shiftDown (x : Word) (b : Bool) {i : Nat} (hi : i < 31) : bitAt (shiftDown x b) i = bitAt x (i + 1) := by
  have other : 31 ≠ i := by omega
  cases b <;> simp [shiftDown, bitAt, other, Nat.add_comm]

theorem shiftDr_idCode {s : State} (h : s.tap.instr = .idcode) (b : Bool) :
    (s.shiftDr b).tap.instr = .idcode ∧ (s.shiftDr b).tap.idShift = shiftDown s.tap.idShift b ∧
      (s.shiftDr b).tap.tdoTrace = s.tap.tdoTrace ++ [bitAt s.tap.idShift 0] := by
  have selected : s.tap.selected = .idCode := by simp [Tap.selected, h]
  unfold State.shiftDr
  dsimp only
  rw [selected]
  exact ⟨h, rfl, rfl⟩

/-- The bits of the register leave in order, whatever is shifted in, as long as none of those reaches the end. -/
theorem tdoTrace_idCode (tdi : List Bool) {s : State} (h : s.tap.instr = .idcode) (hlen : tdi.length ≤ 32) :
    (tdi.foldl (fun (t : State) b => t.shiftDr b) s).tap.tdoTrace =
      s.tap.tdoTrace ++ (List.range tdi.length).map fun i => bitAt s.tap.idShift i := by
  induction tdi generalizing s with
  | nil => exact (List.append_nil _).symm
  | cons b bs ih =>
    obtain ⟨hinstr, hshift, htrace⟩ := shiftDr_idCode h b
    have later : (List.range bs.length).map (fun i => bitAt (shiftDown s.tap.idShift b) i) =
        (List.range bs.length).map fun i => bitAt s.tap.idShift (i + 1) :=
      List.map_congr_left fun i hi =>
        bitAt_shiftDown _ b ((List.mem_range.mp hi).trans_le (Nat.le_of_succ_le_succ hlen))
    rw [List.foldl_cons, ih hinstr (Nat.le_of_succ_le hlen), htrace, hshift, later, List.append_assoc, List.length_cons,
      List.range_succ_eq_map, List.map_cons, List.map_map]
    rfl

theorem idCodeShiftsOut : Claims.idCodeShiftsOut := by
  intro s tdi h hlen
  have selected : s.tap.selected = .idCode := by simp [Tap.selected, h]
  have captured : s.captureDr = { s with tap := { s.tap with idShift := s.cfg.tapId } } := by
    simp [State.captureDr, selected]
  rw [captured, tdoTrace_idCode tdi (by exact h) hlen.le, hlen]
  rfl

/-- Settles O58: the sixteen states, and the bits of TAPID. -/
theorem tapController : Obligations.TapController := ⟨tapFiveOnes, idCodeShiftsOut⟩

/-! ### A write to EmbeddedICE-RT -/

/-- Masking one bit of a field is writing 0 in its place (R48, R50, R52). -/
theorem fld_masked (d : Word) (m l : Nat) :
    fld d 0 (m + 1 + l) &&& ~~~BitVec.twoPow (m + 1 + l) l = fld d (l + 1) m ++ 0b0#1 ++ fld d 0 l := by
  apply BitVec.eq_of_getLsbD_eq
  intro i hi
  change bitAt _ i = bitAt _ i
  rw [bitAt, BitVec.getLsbD_and, BitVec.getLsbD_not, BitVec.getLsbD_twoPow, ← bitAt, bitAt_fld, bitAt_append,
    bitAt_append, bitAt_fld, bitAt_fld]
  obtain h | rfl | h : i < l ∨ i = l ∨ l < i := by omega
  · simp [hi, h, h.ne']
  · simp
  · simp [hi, h.ne, show ¬i < l by omega, show ¬i - l < 1 by omega, show i - l - 1 < m by omega,
      show l + 1 + (i - l - 1) = i by omega]

/-- The map of R46, address by address, with the latch lifted before the write. -/
theorem write_eq_iceWritten (i : Ice) (a : BitVec 5) (d : Word) :
    { i with offLatch := false }.write a d =
      { Claims.iceWritten i a d with offLatch := false, updating := some a } := by
  unfold Ice.write Ice.writeRegister Claims.iceWritten Claims.unitWritten
  have control : fld d 0 6 &&& 0b110111#6 = (fld d 4 2 ++ 0b0#1 ++ fld d 0 3 : BitVec 6) := fld_masked d 2 3
  have vectorCatch : fld d 0 8 &&& 0b11011111#8 = (fld d 6 2 ++ 0b0#1 ++ fld d 0 5 : BitVec 8) := fld_masked d 2 5
  have controlMask : fld d 0 8 &&& 0b11110111#8 = (fld d 4 4 ++ 0b0#1 ++ fld d 0 3 : BitVec 8) := fld_masked d 4 3
  rw [control, vectorCatch, controlMask]
  obtain ⟨k⟩ := a
  fin_cases k <;> rfl

/-- Settles O59: Update-DR writes the register that bits 36:32 name. -/
theorem scanChain2Write : Obligations.ScanChain2Write := by
  unfold Obligations.ScanChain2Write
  intro s a d hinstr hchain hscan
  have address : fld s.tap.scan2 32 5 = a := by
    rw [hscan, fld_append_high _ _ (by decide), fld_append_low _ _ (by decide), fld_full]
  have word : fld s.tap.scan2 0 32 = d := by rw [hscan, fld_append_low _ _ (by decide), fld_full]
  have writes : bitAt s.tap.scan2 37 = true := by rw [hscan]; simp
  have updated : s.updateDr =
      ({ s with ice := { Claims.iceWritten s.ice a d with offLatch := false, updating := some a } }, .nothing) := by
    have chain : s.tap.chainReg = .chain2 := by simp [Tap.chainReg, hchain]
    have chain2 : s.updateChain2 = { s with ice := { s.ice with offLatch := false }.write a d } := by
      rw [State.updateChain2, if_pos writes, address, word]
    simp only [State.updateDr, hinstr, chain, chain2, write_eq_iceWritten]
  refine ⟨updated, ?_, fun ha => ?_⟩
  · rw [updated]
    exact Bool.and_true _
  · rw [updated, ha]
    simp [Ice.comparing, Claims.iceWritten, bitAt_fld]

end Sys2Proof.Proofs
end

section
/-! PROOF. User mode is left only by an exception (R303, R460, R490): one lemma per shared operation and frame, then the
instructions by the frame they are written in. Only MSR and the exception return could write M, I and F otherwise, and
User mode denies both: the mask leaves the control byte out, and there is no SPSR to return to. -/

namespace Sys2Proof.Proofs

open Sys2Proof.Machine

/-! ### The control bits -/

/-- Two status registers agree in M, I and F. -/
def SameControl (p q : Word) : Prop := ∀ i < 8, i ≠ 5 → bitAt q i = bitAt p i

theorem SameControl.refl (p : Word) : SameControl p p := fun _ _ _ => rfl

theorem SameControl.trans {p q r : Word} (h : SameControl p q) (h' : SameControl q r) : SameControl p r :=
  fun i hi ht => (h' i hi ht).trans (h i hi ht)

theorem SameControl.psrM {p q : Word} (h : SameControl p q) : psrM q = psrM p := by
  apply BitVec.eq_of_getLsbD_eq
  intro i hi
  have bits : bitAt (Machine.psrM q) i = bitAt (Machine.psrM p) i := by
    rw [Machine.psrM, Machine.psrM, bitAt_fld, bitAt_fld, h (0 + i) (by omega) (by omega)]
  exact bits

theorem SameControl.psrI {p q : Word} (h : SameControl p q) : psrI q = psrI p := h 7 (by decide) (by decide)

theorem SameControl.psrF {p q : Word} (h : SameControl p q) : psrF q = psrF p := h 6 (by decide) (by decide)

/-- A flag and the T bit are no control bits. -/
theorem SameControl.setBit {p q : Word} (h : SameControl p q) {j : Nat} (hj : j < 32) (out : 8 ≤ j ∨ j = 5)
    (b : Bool) : SameControl p (setBit q j b) := by
  intro i hi ht
  rw [bitAt_setBit q hj, if_neg (by omega), h i hi ht]

theorem SameControl.setPsrNZ {p q : Word} (h : SameControl p q) (r : Word) : SameControl p (setPsrNZ q r) :=
  (h.setBit (by decide) (by decide) _).setBit (by decide) (by decide) _

theorem SameControl.setPsrNZCV {p q : Word} (h : SameControl p q) (n z c v : Bool) :
    SameControl p (setPsrNZCV q n z c v) :=
  (((h.setBit (by decide) (by decide) _).setBit (by decide) (by decide) _).setBit (by decide) (by decide) _).setBit
    (by decide) (by decide) _

theorem sameControl_setPsrT (p : Word) (b : Bool) : SameControl p (setPsrT p b) :=
  (SameControl.refl p).setBit (by decide) (by decide) b

theorem sameControl_longFlags (p : Word) (r : BitVec 64) : SameControl p (longFlags p r) :=
  ((SameControl.refl p).setBit (by decide) (by decide) _).setBit (by decide) (by decide) _

theorem sameControl_stickyQ (p : Word) (b : Bool) : SameControl p (stickyQ p b) := by
  unfold stickyQ
  split
  · exact (SameControl.refl p).setBit (by decide) (by decide) _
  · exact .refl p

/-- An operation's flags leave M, I and F as they are. -/
def KeepsControl (op : AluOp) : Prop := ∀ a b p, SameControl p (op a b p).2

theorem keepsControl_logicalOp (f : Word → Word → Word) : KeepsControl (logicalOp f) := fun _ _ p =>
  ((SameControl.refl p).setPsrNZ _).setBit (by decide) (by decide) _

theorem keepsControl_arithmeticOp (f : Word → Word → Bool → AddResult) : KeepsControl (arithmeticOp f) :=
  fun _ _ p => (SameControl.refl p).setPsrNZCV _ _ _ _

/-! ### Confinement and its moves -/

/-- The two states have the same configuration and agree in M, I and F. -/
structure KeepsUser (s t : State) : Prop where
  cfg : t.cfg = s.cfg
  control : SameControl s.cpsr t.cpsr

/-- The machine stands at an exception vector in that exception's mode, in ARM state. -/
def Entered (s t : State) : Prop :=
  ∃ k : ExcKind, psrM t.cpsr = k.mode.bits ∧ t.pc = Claims.vectors s + k.offset ∧ psrT t.cpsr = false

/-- M, I and F are kept, or an exception was taken. -/
def Confined (s t : State) : Prop := KeepsUser s t ∨ Entered s t

theorem KeepsUser.confined {s t : State} (h : KeepsUser s t) : Confined s t := .inl h

theorem KeepsUser.trans {s t u : State} (h : KeepsUser s t) (h' : KeepsUser t u) : KeepsUser s u :=
  ⟨h'.cfg.trans h.cfg, h.control.trans h'.control⟩

/-- What writes neither the CPSR nor the configuration keeps the control bits. -/
theorem keepsUser_of_cpsr {s t : State} (cfg : t.cfg = s.cfg) (cpsr : t.cpsr = s.cpsr) : KeepsUser s t :=
  ⟨cfg, by rw [cpsr]; exact .refl _⟩

theorem KeepsUser.refl (s : State) : KeepsUser s s := keepsUser_of_cpsr rfl rfl

theorem KeepsUser.same {s t u : State} (h : KeepsUser s t) (cfg : u.cfg = t.cfg) (cpsr : u.cpsr = t.cpsr) :
    KeepsUser s u :=
  h.trans (keepsUser_of_cpsr cfg cpsr)

theorem KeepsUser.advance {s t : State} (h : KeepsUser s t) : KeepsUser s t.advance := h.same rfl rfl

theorem KeepsUser.branchTo {s t : State} (h : KeepsUser s t) (a : Word) : KeepsUser s (t.branchTo a) := h.same rfl rfl

theorem KeepsUser.writePc {s t : State} (h : KeepsUser s t) (v : Word) : KeepsUser s (t.writePc v) := h.same rfl rfl

theorem KeepsUser.setThumb {s t : State} (h : KeepsUser s t) (b : Bool) :
    KeepsUser s (t.setCpsr (setPsrT t.cpsr b)) :=
  ⟨h.cfg, h.control.trans (sameControl_setPsrT _ _)⟩

theorem KeepsUser.branchExchange {s t : State} (h : KeepsUser s t) (v : Word) : KeepsUser s (t.branchExchange v) :=
  (h.setThumb (bitAt v 0)).branchTo _

theorem KeepsUser.loadPc {s t : State} (h : KeepsUser s t) (v : Word) : KeepsUser s (t.loadPc v) := by
  unfold State.loadPc
  split
  · exact h.writePc v
  · exact h.branchExchange v

theorem KeepsUser.loadPcLast {s t : State} (h : KeepsUser s t) (regs : List Reg) (v : Word) :
    KeepsUser s (loadPcLast regs t v) := by
  unfold Machine.loadPcLast
  split
  · exact h.loadPc v
  · exact h.advance

/-- In User mode there is no SPSR: an exception return writes the pc only (R475, U10). -/
theorem KeepsUser.exceptionReturn {s t : State} (h : KeepsUser s t) (user : psrM s.cpsr = 0b10000#5) (v : Word) :
    KeepsUser s (t.exceptionReturn v) := by
  have mode : t.mode = .usr := by rw [State.mode, h.control.psrM, user]; rfl
  have none : t.spsr = none := by rw [State.spsr, mode]; rfl
  rw [State.exceptionReturn, none]
  exact h.writePc v

theorem KeepsUser.entered {s t : State} (h : KeepsUser s t) (k : ExcKind) (r : Word) :
    Entered s (t.takeException k r) :=
  ⟨k, by rw [takeException_cpsr, psrM_newCpsr], by rw [takeException_pc, vectors_of_cfg h.cfg],
    by rw [takeException_cpsr, psrT_newCpsr]⟩

theorem KeepsUser.takeException {s t : State} (h : KeepsUser s t) (k : ExcKind) (r : Word) :
    Confined s (t.takeException k r) :=
  .inr (h.entered k r)

theorem KeepsUser.dataAbort {s t : State} (h : KeepsUser s t) : Confined s t.dataAbort := by
  unfold State.dataAbort
  dsimp only
  split
  · exact .inr (h.entered .dataAbort (t.pc + 8#32))
  · exact h.takeException _ _

theorem KeepsUser.softBreakpoint {s t : State} (h : KeepsUser s t) : Confined s t.softBreakpoint := by
  unfold State.softBreakpoint
  split
  · exact .inl (h.same rfl rfl)
  · exact h.takeException _ _

theorem KeepsUser.confined_of {s t u : State} (h : KeepsUser s t) (h' : Confined t u) : Confined s u := by
  obtain kept | ⟨k, mode, pc, arm⟩ := h'
  · exact (h.trans kept).confined
  · exact .inr ⟨k, mode, by rw [pc, vectors_of_cfg h.cfg], arm⟩

/-! ### Single transfers, bursts and block transfers -/

theorem loadInto_confined (s : State) (k : LoadKind) (user : Bool) (rn rd : Reg) (a : Addressed) :
    Confined s (s.loadInto k user rn rd a) := by
  unfold State.loadInto
  dsimp only
  split
  next => exact (keepsUser_of_cpsr (by simp) (by simp)).dataAbort
  next =>
    split
    · exact ((keepsUser_of_cpsr (by simp) (by simp)).loadPc _).confined
    · exact (keepsUser_of_cpsr (by simp) (by simp)).confined

theorem storeFrom_confined (s : State) (z : Size) (user : Bool) (rn rd : Reg) (a : Addressed) :
    Confined s (s.storeFrom z user rn rd a) := by
  unfold State.storeFrom
  dsimp only
  split
  · exact (keepsUser_of_cpsr (by simp) (by simp)).confined
  · exact (keepsUser_of_cpsr (by simp) (by simp)).dataAbort

theorem loadDouble_confined (s : State) (rn rd : Reg) (a : Addressed) : Confined s (s.loadDouble rn rd a) := by
  unfold State.loadDouble
  dsimp only
  split
  · exact (keepsUser_of_cpsr (by simp) (by simp)).confined
  · refine KeepsUser.dataAbort ?_
    split <;> exact keepsUser_of_cpsr (by simp) (by simp)

theorem storeDouble_confined (s : State) (rn rd : Reg) (a : Addressed) : Confined s (s.storeDouble rn rd a) := by
  unfold State.storeDouble
  dsimp only
  split
  · exact (keepsUser_of_cpsr (by simp) (by simp)).confined
  · exact (keepsUser_of_cpsr (by simp) (by simp)).dataAbort

/-- A block load that does not abort keeps what its last action keeps. -/
theorem loadMultiple_confined (s : State) (m : Mode) (p u w : Bool) (rn : Reg) (regs : List Reg)
    {fin : State → Word → State} (h : ∀ t v, KeepsUser s t → KeepsUser s (fin t v)) :
    Confined s (s.loadMultiple m p u w rn regs fin) := by
  unfold State.loadMultiple State.finishLoad State.readList
  dsimp only
  split
  · refine (h _ _ ?_).confined
    split <;> exact keepsUser_of_cpsr (by simp) (by simp)
  · exact (keepsUser_of_cpsr (by simp) (by simp)).dataAbort

/-- A block store that does not abort keeps what its last action keeps. -/
theorem storeMultiple_confined (s : State) (p u w : Bool) (rn : Reg) (vs : List Word) {fin : State → State}
    (h : ∀ t, KeepsUser s t → KeepsUser s (fin t)) : Confined s (s.storeMultiple p u w rn vs fin) := by
  unfold State.storeMultiple
  dsimp only
  split
  · refine (h _ (KeepsUser.advance ?_)).confined
    split <;> exact keepsUser_of_cpsr (by simp) (by simp)
  · exact (keepsUser_of_cpsr (by simp) (by simp)).dataAbort

theorem storeRegs_confined (s : State) (p u w : Bool) (rn : Reg) (regs : List Reg) :
    Confined s (s.storeRegs p u w rn regs) := by
  unfold State.storeRegs
  split
  · have drawn : KeepsUser s s.draw.2 := keepsUser_of_cpsr rfl rfl
    exact drawn.confined_of (storeMultiple_confined s.draw.2 _ _ _ _ _ fun _ h => h)
  · exact storeMultiple_confined s _ _ _ _ _ fun _ h => h

theorem swap_confined (s : State) (k : LoadKind) (rn rd rm : Reg) : Confined s (s.swap k rn rd rm) := by
  unfold State.swap
  dsimp only
  split
  · exact (keepsUser_of_cpsr (by simp) (by simp)).confined
  · exact (keepsUser_of_cpsr (by simp) (by simp)).dataAbort
  · refine KeepsUser.dataAbort ?_
    split <;> exact keepsUser_of_cpsr (by simp) (by simp)

theorem loadCoprocessor_confined (s : State) (n : Nat) (rn : Reg) (a : Addressed) :
    Confined s (s.loadCoprocessor n rn a) := by
  unfold State.loadCoprocessor
  dsimp only
  split
  · exact (keepsUser_of_cpsr (by simp) (by simp)).confined
  · exact (keepsUser_of_cpsr (by simp) (by simp)).dataAbort

theorem storeCoprocessor_confined (s : State) (vs : List Word) (rn : Reg) (a : Addressed) :
    Confined s (s.storeCoprocessor vs rn a) := by
  unfold State.storeCoprocessor
  dsimp only
  split
  · exact (keepsUser_of_cpsr (by simp) (by simp)).confined
  · exact (keepsUser_of_cpsr (by simp) (by simp)).dataAbort

/-! ### Results -/

theorem setCpsr_keepsUser {s t : State} {p : Word} (cfg : t.cfg = s.cfg) (h : SameControl s.cpsr p) :
    KeepsUser s (t.setCpsr p) := ⟨cfg, h⟩

theorem writeResult_keepsUser {s : State} (user : psrM s.cpsr = 0b10000#5) (f : Bool) (rd : Reg) {r : Word × Word}
    (h : SameControl s.cpsr r.2) : KeepsUser s (s.writeResult f rd r) := by
  unfold State.writeResult
  split
  · split
    · exact (KeepsUser.refl s).exceptionReturn user _
    · exact (KeepsUser.refl s).writePc _
  · split
    · exact (setCpsr_keepsUser (by simp) h).advance
    · exact keepsUser_of_cpsr (by simp) (by simp)

theorem writeProduct_keepsUser (s : State) (f : Bool) (rd : Reg) (v : Word) : KeepsUser s (s.writeProduct f rd v) := by
  unfold State.writeProduct
  dsimp only
  split
  · exact setCpsr_keepsUser (by simp) ((SameControl.refl _).setPsrNZ v)
  · exact keepsUser_of_cpsr (by simp) (by simp)

theorem writeLongFlags_keepsUser (s : State) (f : Bool) (hi lo : Reg) (p : BitVec 64) :
    KeepsUser s (s.writeLongFlags f hi lo p) := by
  unfold State.writeLongFlags
  dsimp only
  split
  · exact setCpsr_keepsUser (by simp) (sameControl_longFlags _ p)
  · exact keepsUser_of_cpsr (by simp) (by simp)

theorem writeSticky_keepsUser (s : State) (rd : Reg) (v : Word) (q : Bool) : KeepsUser s (s.writeSticky rd v q) :=
  setCpsr_keepsUser (by simp) (sameControl_stickyQ _ q)

theorem writeMrc_keepsUser (s : State) (rd : Reg) (w : Word) : KeepsUser s (s.writeMrc rd w) := by
  unfold State.writeMrc
  split
  · exact setCpsr_keepsUser rfl ((SameControl.refl _).setPsrNZCV _ _ _ _)
  · exact keepsUser_of_cpsr (by simp) (by simp)

/-- An MSR in User mode outside debug state does not reach the control byte (R303, R566). -/
theorem writePsr_keepsUser {s : State} (user : psrM s.cpsr = 0b10000#5) (outside : s.dbg.active = false) (spsr : Bool)
    (m : BitVec 4) (v : Word) : KeepsUser s (s.writePsr spsr m v) := by
  have mode : s.mode = .usr := by rw [State.mode, user]; rfl
  have none : s.spsr = none := by rw [State.spsr, mode]; rfl
  unfold State.writePsr
  split
  · rw [none]
    exact .refl s
  · refine setCpsr_keepsUser rfl fun i hi _ => ?_
    have masked : bitAt (s.cpsrMask m) i = false := by
      rw [bitAt_cpsrMask s m (by omega)]
      simp [mode, outside, show ¬24 ≤ i by omega]
    rw [bitAt_maskedWrite _ _ _ (by omega), masked]
    rfl

/-! ### The frames that instructions share -/

theorem ifPassed_confined {s : State} {c : Cond} {k : State → Out} (h : Ensures (Confined s) (k s)) :
    Ensures (Confined s) (s.ifPassed c k) :=
  ensures_ifPassed (fun _ => (KeepsUser.refl s).advance.confined) fun _ => h

theorem registerShift_confined {s : State} {c : Cond} {regs : List Reg} {k : State → Out}
    (h : Ensures (Confined s) (k s)) : Ensures (Confined s) (registerShift c regs k s) :=
  ensures_registerShift (fun _ => (KeepsUser.refl s).advance.confined) fun _ _ => h

theorem dataProcessing_confined {s : State} (user : psrM s.cpsr = 0b10000#5) {op : AluOp} (h : KeepsControl op)
    (c : Cond) (f : Bool) (rn rd : Reg) (b : State → Shifted) :
    Ensures (Confined s) (dataProcessing op c f rn rd b s) :=
  ifPassed_confined (writeResult_keepsUser user f rd (h _ _ _)).confined

theorem dataMove_confined {s : State} (user : psrM s.cpsr = 0b10000#5) {op : AluOp} (h : KeepsControl op) (c : Cond)
    (f : Bool) (rd : Reg) (b : State → Shifted) : Ensures (Confined s) (dataMove op c f rd b s) :=
  ifPassed_confined (writeResult_keepsUser user f rd (h _ _ _)).confined

theorem dataCompare_confined {op : AluOp} (h : KeepsControl op) (c : Cond) (rn : Reg) (b : State → Shifted)
    (s : State) : Ensures (Confined s) (dataCompare op c rn b s) :=
  ifPassed_confined (setCpsr_keepsUser rfl (h _ _ _)).advance.confined

theorem multiplyFrame_confined {s : State} {c : Cond} {regs : List Reg} {k : State → State} (h : KeepsUser s (k s)) :
    Ensures (Confined s) (multiplyFrame c regs k s) :=
  ensures_multiplyFrame (fun _ => (KeepsUser.refl s).advance.confined) fun _ _ => h.advance.confined

theorem loadSingle_confined (k : LoadKind) (pcOk user : Bool) (rn rd : Reg) (rm : Option Reg) (a : Addressed)
    (s : State) : Ensures (Confined s) (loadSingle k pcOk user rn rd rm a s) :=
  ensures_loadSingle fun _ _ _ => loadInto_confined ..

theorem storeSingle_confined (z : Size) (pcOk user : Bool) (rn rd : Reg) (rm : Option Reg) (a : Addressed)
    (s : State) : Ensures (Confined s) (storeSingle z pcOk user rn rd rm a s) :=
  ensures_storeSingle fun _ _ => storeFrom_confined ..

theorem loadDoubleword_confined (rn rd : Reg) (rm : Option Reg) (a : Addressed) (s : State) :
    Ensures (Confined s) (loadDoubleword rn rd rm a s) :=
  ensures_loadDoubleword (fun _ => (KeepsUser.refl s).takeException _ _) fun _ _ => loadDouble_confined ..

theorem storeDoubleword_confined (rn rd : Reg) (rm : Option Reg) (a : Addressed) (s : State) :
    Ensures (Confined s) (storeDoubleword rn rd rm a s) :=
  ensures_storeDoubleword (fun _ => (KeepsUser.refl s).takeException _ _) fun _ _ => storeDouble_confined ..

theorem swapFrame_confined (k : LoadKind) (o : SwpOps) (s : State) : Ensures (Confined s) (swapFrame k o s) :=
  ifPassed_confined (ensures_unless fun _ => ensures_unless fun _ => swap_confined ..)

/-- An accepted coprocessor instruction goes on from the state its offer left. -/
theorem coprocessor_confined {instr : Word} {cp : BitVec 4} {k : Nat → List Word → State → Out} {s : State}
    (h : ∀ more ws t, KeepsUser s t → Ensures (Confined s) (k more ws t)) :
    Ensures (Confined s) (coprocessor instr cp k s) :=
  have offered : KeepsUser s (s.cpAnswer.2.cpOffer instr) := keepsUser_of_cpsr rfl rfl
  ensures_coprocessor (fun _ => (KeepsUser.refl s).takeException _ _) (fun _ _ => offered.takeException _ _)
    (fun _ _ => .inl (offered.same rfl rfl)) fun _ _ _ _ => h _ _ _ offered

theorem moveToCoprocessor_confined (instr : Word) (cp : BitVec 4) (rd : Reg) (s : State) :
    Ensures (Confined s) (moveToCoprocessor instr cp rd s) :=
  coprocessor_confined fun _ _ _ h => (h.same (by simp) (by simp)).confined

theorem moveFromCoprocessor_confined (instr : Word) (cp : BitVec 4) (rd : Reg) (s : State) :
    Ensures (Confined s) (moveFromCoprocessor instr cp rd s) :=
  coprocessor_confined fun _ _ _ h =>
    ((h.same (by simp) (by simp)).trans (writeMrc_keepsUser _ _ _)).advance.confined

theorem coprocessorLoad_confined (instr : Word) (cp : BitVec 4) (rn : Reg) (a : State → Addressed) (s : State) :
    Ensures (Confined s) (coprocessorLoad instr cp rn a s) :=
  coprocessor_confined fun _ _ _ h => ensures_unless fun _ => h.confined_of (loadCoprocessor_confined ..)

theorem coprocessorStore_confined (instr : Word) (cp : BitVec 4) (rn : Reg) (a : State → Addressed) (s : State) :
    Ensures (Confined s) (coprocessorStore instr cp rn a s) :=
  coprocessor_confined fun _ _ _ h => ensures_unless fun _ =>
    (h.same (by simp) (by simp)).confined_of (storeCoprocessor_confined ..)

theorem thumbResult_confined (rd : LowReg) {r : State → Word × Word} {s : State} (h : SameControl s.cpsr (r s).2) :
    Ensures (Confined s) (thumbResult rd r s) :=
  (setCpsr_keepsUser (by simp) h).advance.confined

theorem thumbCompare_confined {r : State → Word × Word} {s : State} (h : SameControl s.cpsr (r s).2) :
    Ensures (Confined s) (thumbCompare r s) :=
  (setCpsr_keepsUser rfl h).advance.confined

/-! ### The meanings with a frame of their own -/

theorem execMrs_confined (o : MrsOps) (s : State) : Ensures (Confined s) (execMrs o s) := by
  refine ifPassed_confined (ensures_unless fun _ => ?_)
  split
  · split <;> exact (keepsUser_of_cpsr (by simp) (by simp)).confined
  · exact (keepsUser_of_cpsr (by simp) (by simp)).confined

theorem execMcr_confined (o : McrOps) (s : State) : Ensures (Confined s) (execMcr o s) := by
  refine ifPassed_confined ?_
  split
  · exact (keepsUser_of_cpsr (by simp) (by simp)).confined
  · exact moveToCoprocessor_confined ..

theorem execMrc_confined (o : McrOps) (s : State) : Ensures (Confined s) (execMrc o s) := by
  refine ifPassed_confined ?_
  split
  · exact (KeepsUser.trans (keepsUser_of_cpsr (by simp) (by simp)) (writeMrc_keepsUser _ _ _)).advance.confined
  · exact moveFromCoprocessor_confined ..

/-- Every instruction that runs in User mode outside debug state is confined: each by the frame its meaning is written
in. -/
theorem exec_confined (i : Instr) (s : State) (user : psrM s.cpsr = 0b10000#5) (outside : s.dbg.active = false) :
    Ensures (Confined s) (exec i s) := by
  have here := KeepsUser.refl s
  have linked (v : Word) : KeepsUser s (s.setReg 14#4 v) := keepsUser_of_cpsr (by simp) (by simp)
  unfold exec
  cases i with
  | andImm o | andShift o | eorImm o | eorShift o | orrImm o | orrShift o | bicImm o | bicShift o =>
    exact dataProcessing_confined user (keepsControl_logicalOp _) ..
  | subImm o | subShift o | rsbImm o | rsbShift o | addImm o | addShift o | adcImm o | adcShift o | sbcImm o
  | sbcShift o | rscImm o | rscShift o => exact dataProcessing_confined user (keepsControl_arithmeticOp _) ..
  | andReg o | eorReg o | orrReg o | bicReg o =>
    exact registerShift_confined (dataProcessing_confined user (keepsControl_logicalOp _) ..)
  | subReg o | rsbReg o | addReg o | adcReg o | sbcReg o | rscReg o =>
    exact registerShift_confined (dataProcessing_confined user (keepsControl_arithmeticOp _) ..)
  | movImm o | movShift o | mvnImm o | mvnShift o => exact dataMove_confined user (keepsControl_logicalOp _) ..
  | movReg o | mvnReg o => exact registerShift_confined (dataMove_confined user (keepsControl_logicalOp _) ..)
  | tstImm o | tstShift o | teqImm o | teqShift o => exact dataCompare_confined (keepsControl_logicalOp _) ..
  | cmpImm o | cmpShift o | cmnImm o | cmnShift o => exact dataCompare_confined (keepsControl_arithmeticOp _) ..
  | tstReg o | teqReg o => exact registerShift_confined (dataCompare_confined (keepsControl_logicalOp _) ..)
  | cmpReg o | cmnReg o => exact registerShift_confined (dataCompare_confined (keepsControl_arithmeticOp _) ..)
  | mul o | mla o => exact multiplyFrame_confined (writeProduct_keepsUser ..)
  | umull o | umlal o | smull o | smlal o => exact multiplyFrame_confined (writeLongFlags_keepsUser ..)
  | qadd o | qsub o | qdadd o | qdsub o | smlaXy o | smlaW o => exact multiplyFrame_confined (writeSticky_keepsUser ..)
  | smulXy o | smulW o | smlalXy o => exact multiplyFrame_confined (keepsUser_of_cpsr (by simp) (by simp))
  | clz o =>
    exact ifPassed_confined (ensures_unless fun _ => (keepsUser_of_cpsr (by simp) (by simp)).confined)
  | mrs o => exact execMrs_confined o s
  | msrReg o =>
    exact ifPassed_confined (ensures_unless fun _ => (writePsr_keepsUser user outside _ _ _).advance.confined)
  | msrImm o => exact ifPassed_confined (writePsr_keepsUser user outside _ _ _).advance.confined
  | swi o => exact ifPassed_confined (here.takeException _ _)
  | bkpt o => exact here.softBreakpoint
  | b o => exact ifPassed_confined (here.writePc _).confined
  | bl o => exact ifPassed_confined ((linked _).writePc _).confined
  | bx o => exact ifPassed_confined (here.branchExchange _).confined
  | blxReg o => exact ifPassed_confined (ensures_unless fun _ => ((linked _).branchExchange _).confined)
  | blxImm o => exact (((linked (s.pc + 4#32)).setThumb true).branchTo _).confined
  | ldrImmPre o | ldrImmPost o | ldrtImm o | ldrRegPre o | ldrRegPost o | ldrtReg o | ldrbImmPre o | ldrbImmPost o
  | ldrbtImm o | ldrbRegPre o | ldrbRegPost o | ldrbtReg o | ldrhImm o | ldrhReg o | ldrsbImm o | ldrsbReg o
  | ldrshImm o | ldrshReg o => exact ifPassed_confined (loadSingle_confined ..)
  | strImmPre o | strImmPost o | strtImm o | strRegPre o | strRegPost o | strtReg o | strbImmPre o | strbImmPost o
  | strbtImm o | strbRegPre o | strbRegPost o | strbtReg o | strhImm o | strhReg o =>
    exact ifPassed_confined (storeSingle_confined ..)
  | ldrdImm o | ldrdReg o => exact ifPassed_confined (loadDoubleword_confined ..)
  | strdImm o | strdReg o => exact ifPassed_confined (storeDoubleword_confined ..)
  | pldImm o => exact (keepsUser_of_cpsr (by simp) (by simp)).confined
  | pldReg o => exact ensures_unless fun _ => (keepsUser_of_cpsr (by simp) (by simp)).confined
  | swp o | swpb o => exact swapFrame_confined ..
  | ldm1 o =>
    exact ifPassed_confined (ensures_unless fun _ => loadMultiple_confined _ _ _ _ _ _ _ fun _ v h =>
      h.loadPcLast _ v)
  | ldm2 o =>
    exact ifPassed_confined (ensures_unless fun _ => ensures_unless fun _ =>
      loadMultiple_confined _ _ _ _ _ _ _ fun _ _ h => h.same rfl rfl)
  | ldm3 o =>
    exact ifPassed_confined (ensures_unless fun _ => loadMultiple_confined _ _ _ _ _ _ _ fun _ v h =>
      h.exceptionReturn user v)
  | stm1 o => exact ifPassed_confined (ensures_unless fun _ => storeRegs_confined ..)
  | stm2 o =>
    exact ifPassed_confined (ensures_unless fun _ => ensures_unless fun _ =>
      storeMultiple_confined _ _ _ _ _ _ fun _ h => h.same rfl rfl)
  | cdp o => exact ifPassed_confined (coprocessor_confined fun _ _ _ h => h.advance.confined)
  | cdp2 o => exact coprocessor_confined fun _ _ _ h => h.advance.confined
  | mcr o => exact execMcr_confined o s
  | mrc o => exact execMrc_confined o s
  | mcr2 o => exact moveToCoprocessor_confined ..
  | mrc2 o => exact moveFromCoprocessor_confined ..
  | mcrr o =>
    exact ifPassed_confined (coprocessor_confined fun _ _ _ h => ensures_unless fun _ =>
      (h.same (by simp) (by simp)).confined)
  | mrrc o =>
    exact ifPassed_confined (coprocessor_confined fun _ _ _ h => ensures_unless fun _ => ensures_unless fun _ =>
      (h.same (by simp) (by simp)).confined)
  | ldc o => exact ifPassed_confined (coprocessorLoad_confined ..)
  | stc o => exact ifPassed_confined (coprocessorStore_confined ..)
  | ldc2 o => exact coprocessorLoad_confined ..
  | stc2 o => exact coprocessorStore_confined ..
  | tLslImm o | tLsrImm o | tAsrImm o | tMovImm o | tAnd o | tEor o | tLslReg o | tLsrReg o | tAsrReg o | tRor o
  | tOrr o | tBic o | tMvn o => exact thumbResult_confined _ (keepsControl_logicalOp _ _ _ _)
  | tAddReg o | tSubReg o | tAddImm3 o | tSubImm3 o | tAddImm8 o | tSubImm8 o | tAdc o | tSbc o | tNeg o =>
    exact thumbResult_confined _ (keepsControl_arithmeticOp _ _ _ _)
  | tMul o => exact thumbResult_confined _ ((SameControl.refl _).setPsrNZ _)
  | tTst o => exact thumbCompare_confined (keepsControl_logicalOp _ _ _ _)
  | tCmpImm o | tCmpLow o | tCmn o => exact thumbCompare_confined (keepsControl_arithmeticOp _ _ _ _)
  | tCmpHi o => exact ensures_unless fun _ => thumbCompare_confined (keepsControl_arithmeticOp _ _ _ _)
  | tAddHi o | tMovHi o | tAddPc o | tAddSp o | tIncSp o | tDecSp o | tBlPrefix o =>
    exact (keepsUser_of_cpsr (by simp) (by simp)).confined
  | tLdrPc o | tLdrReg o | tLdrhReg o | tLdrbReg o | tLdrsbReg o | tLdrshReg o | tLdrImm o | tLdrbImm o | tLdrhImm o
  | tLdrSp o => exact loadInto_confined ..
  | tStrReg o | tStrhReg o | tStrbReg o | tStrImm o | tStrbImm o | tStrhImm o | tStrSp o => exact storeFrom_confined ..
  | tPush o | tStmia o => exact ensures_unless fun _ => storeRegs_confined ..
  | tPop o =>
    exact ensures_unless fun _ => loadMultiple_confined _ _ _ _ _ _ _ fun _ v h => h.loadPcLast _ v
  | tLdmia o => exact ensures_unless fun _ => loadMultiple_confined _ _ _ _ _ _ _ fun _ _ h => h.advance
  | tBCond o => exact ifPassed_confined (here.writePc _).confined
  | tB o => exact (here.writePc _).confined
  | tBx o => exact (here.branchExchange _).confined
  | tBlxReg o => exact ensures_unless fun _ => ((linked _).branchExchange _).confined
  | tBlSuffix o => exact (keepsUser_of_cpsr (by simp) (by simp)).confined
  | tBlxSuffix o => exact (((linked s.thumbLink).setThumb false).branchTo _).confined
  | tSwi o => exact here.takeException _ _
  | tBkpt o => exact here.softBreakpoint

/-- Settles O14: what runs in User mode is confined. -/
theorem userModeConfined : Obligations.UserModeConfined := by
  unfold Obligations.UserModeConfined
  intro i s t user outside h
  have confined : Ensures (Confined s) (exec i s) := exec_confined i s user outside
  rw [h] at confined
  obtain kept | entered := confined
  · exact .inl ⟨kept.control.psrM, kept.control.psrI, kept.control.psrF⟩
  · exact .inr entered

end Sys2Proof.Proofs
end
